-- ==== Sys2Proof/Word.lean ====
section
/-! DEFINITION. The words of the NK-318: bytes as they cross the USB pipes, 512-byte sectors, the raw 12-bit values
of the Tamper Monitor, and the opaque values (keys, salts, verifiers) that the part holds but whose inside the manual
leaves out. Nothing here computes. -/

namespace Sys2Proof

/-- One byte of a record on a USB pipe (12_record_formats.md). -/
abbrev Byte := BitVec 8

/-- One sector of 512 bytes, byte 0 in the low bits (00_scope.md, Sectors, addresses and capacity). -/
abbrev Sector := BitVec 4096

/-- A raw value of a tamper channel, 0..4,095 (R180). -/
abbrev Sample := BitVec 12

/-- A salt of 16 bytes (R83). -/
abbrev Salt := BitVec 128

/-- A verifier: the digest of a salt and the digits of a PIN. The manual gives it no width (R83, R85). -/
abbrev Verifier := Nat

/-- One typed digit (R110). -/
abbrev Digit := Fin 10

/-- A unit number 0..7 (R1). -/
abbrev UnitNo := Fin 8

/-- A credential slot 0..5 (R83). -/
abbrev SlotNo := Fin 6

/-- A command tag 0..15 (R24). -/
abbrev Tag := Fin 16

/-- A sector key. The manual gives it no width and no inside (R76), so it is one of 2^256 names for keys and nothing is
computed from it (DESIGN CHOICE, notes/assumptions/26.md). -/
structure CipherKey where
  id : BitVec 256
deriving DecidableEq, Repr, Inhabited

/-- The tweak of one sector: the unit's generation and the unit-relative LBA (R13, R72). -/
structure Tweak where
  generation : Nat
  lba : Nat
deriving DecidableEq, Repr, Inhabited

/-- A tweak that a unit can have: a generation of 0 to 65,535 and a 32-bit LBA (R4, R13). -/
def Tweak.fits (t : Tweak) : Prop := t.generation < 2 ^ 16 ∧ t.lba < 2 ^ 32

end Sys2Proof
end

