-- ==== Sys2Proof/Config.lean ====
section
/-! DEFINITION. What the manual leaves opaque: the sector cipher, the verifier digest and the random source
(00_scope.md, Scope); and what it leaves open. Each is a constant with no body whose type carries the properties that the manual states, so a claim
about the machine holds for every cipher, digest and source that has them. -/

namespace Sys2Proof

/-! ## The sector cipher (R72) -/

/-- A cipher with the properties of R72: for each key and tweak a permutation of the set of all sectors, and no sector that
two different pairs of a key and a tweak send to one ciphertext. So equal sectors at two LBAs have different ciphertexts,
and deciphering under another key or generation does not return the plaintext. That "unrelated" data is at least other data
is the model's reading (DEDUCED, notes/assumptions/27.md). -/
structure SectorCipher where
  transform : CipherKey → Tweak → Equiv.Perm Sector
  apart : ∀ (k l : CipherKey) (t u : Tweak), t.fits → u.fits → (k, t) ≠ (l, u) →
    ∀ x, transform k t x ≠ transform l u x

/-- A number for each key and tweak, for `SectorCipher.additive` alone. -/
def cipherCode (k : CipherKey) (t : Tweak) : Nat := k.id.toNat + 2 ^ 256 * (t.generation + 2 ^ 16 * t.lba)

theorem cipherCode_lt (k : CipherKey) {t : Tweak} (h : t.fits) : cipherCode k t < 2 ^ 256 * 2 ^ 48 := by
  have := h.1
  have := h.2
  have := k.id.isLt
  simp only [cipherCode]
  omega

theorem cipherCode_injective {k l : CipherKey} {t u : Tweak} (ht : t.fits) (hu : u.fits)
    (h : cipherCode k t = cipherCode l u) : (k, t) = (l, u) := by
  obtain ⟨g, a⟩ := t
  obtain ⟨g', a'⟩ := u
  obtain ⟨k⟩ := k
  obtain ⟨l⟩ := l
  obtain ⟨h1, h2⟩ := ht
  obtain ⟨h3, h4⟩ := hu
  have := k.isLt
  have := l.isLt
  simp only [cipherCode] at h h1 h2 h3 h4
  have ids : k.toNat = l.toNat := by omega
  obtain rfl : g = g' := by omega
  obtain rfl : a = a' := by omega
  rw [BitVec.toNat_inj.1 ids]

/-- That such a cipher exists, which is all that this one is for: `Config.sectorCipher` is not it. -/
def SectorCipher.additive : SectorCipher where
  transform k t := Equiv.addRight (BitVec.ofNat 4096 (cipherCode k t))
  apart k l t u ht hu h x e := by
    have sum : x + BitVec.ofNat 4096 (cipherCode k t) = x + BitVec.ofNat 4096 (cipherCode l u) := e
    have fits (c : Nat) (hc : c < 2 ^ 256 * 2 ^ 48) : (BitVec.ofNat 4096 c).toNat = c := by
      rw [BitVec.toNat_ofNat, Nat.mod_eq_of_lt]
      exact hc.trans (by rw [← pow_add]; exact Nat.pow_lt_pow_right Nat.one_lt_two (by decide))
    have same := congrArg BitVec.toNat (add_left_cancel sum)
    rw [fits _ (cipherCode_lt k ht), fits _ (cipherCode_lt l hu)] at same
    exact h (cipherCode_injective ht hu same)

/-- The part's sector cipher: any one with the properties of R72. -/
opaque Config.sectorCipher [Inhabited SectorCipher] : SectorCipher

/-- The sector transform under a key and a tweak: enciphering applies it and deciphering applies its inverse (R72). -/
def Config.sectorTransform (k : CipherKey) (t : Tweak) : Equiv.Perm Sector :=
  (@Config.sectorCipher ⟨SectorCipher.additive⟩).transform k t

/-! ## The verifier digest (R85) -/

/-- The one-way digest behind the verifiers (R85): a permutation of numbers, applied to the number that a salt and a
list of digits spell (`Machine.pinNumber`), so that two entries give equal verifiers only when salt and digits agree
(DEDUCED, notes/assumptions/3.md). -/
opaque Config.digest : Equiv.Perm Nat

/-! ## The random source (R16, R78, R85) -/

/-- The order in which the random source gives keys. A fresh key is one that it has not given before (R79; DEDUCED,
notes/assumptions/2.md). -/
opaque Config.keyOrder : Equiv.Perm (BitVec 256)

/-- The order in which the random source gives salts, with no salt given twice (R85; DEDUCED, notes/assumptions/2.md). -/
opaque Config.saltOrder : Equiv.Perm Salt

/-- The internal random source as it gives keys: the key of the n-th draw (R16, R78). -/
def Config.freshKey (n : Nat) : CipherKey := ⟨Config.keyOrder (BitVec.ofNat 256 n)⟩

/-- The internal random source as it gives salts: the salt of the n-th draw (R85, R104). -/
def Config.freshSalt (n : Nat) : Salt := Config.saltOrder (BitVec.ofNat 128 n)

/-! ## Time -/

/-- How many whole seconds of a running penalty the n-th STATUS in PENALTY finds gone by; the model keeps no clock
(R88, R213; DESIGN CHOICE, notes/assumptions/4.md). -/
opaque Config.penaltyElapsed : Nat → Nat

end Sys2Proof
end

