-- ==== Sys2Proof/Syntax.lean ====
section
/-! DEFINITION. The commands of the NK-318: one constructor for each row of spec/opcode_table.json, with the operands
the row's rule gives it. A command is one whole step: the arrival of a record, a transfer, a reply of the flash
package, the expiry of a timer, a debounced key, an alarm, or one of the part's own internal events. -/

namespace Sys2Proof

/-- The fields of a 32-byte command record that the part reads beside its op (R226). The flags byte and the reserved
bytes are not read (R224) and have no field. -/
structure RecordHead where
  tag : Byte
  unit : Byte
  lba : BitVec 32
  count : BitVec 16
  paramLength : BitVec 16
deriving DecidableEq, Repr

/-- The twelve keys of the keypad (R110). -/
inductive PadKey where
  | digit (d : Digit)
  | key
  | lock
deriving DecidableEq, Repr

/-- The three LEDs (R129). -/
inductive Led where
  | red
  | green
  | blue
deriving DecidableEq, Repr

/-- What the package says of an operation that ended: OK, with the sectors read for a READ, or FAILED (R50;
DESIGN CHOICE, notes/assumptions/22.md). -/
inductive PackageReply where
  | ok (data : List Sector)
  | failed
deriving DecidableEq, Repr

/-- What the package answers to the capacity request: a number of sectors, or FAILED (R54). -/
inductive CapacityAnswer where
  | sectors (n : BitVec 32)
  | failed
deriving DecidableEq, Repr

/-- The commands. A record of a storage or management op carries its head; a management op carries its parameter
block as well, taken whole at the arrival (R22). -/
inductive Instr where
  /-- READ Sectors (R27). -/
  | read (h : RecordHead)
  /-- WRITE Sectors (R27). Its data stage follows in WRITE_INTAKE_END and DATA_STAGE_DISCARDED. -/
  | write (h : RecordHead)
  /-- TRIM Sectors (R27). -/
  | trim (h : RecordHead)
  /-- Synchronise Unit (R28). -/
  | sync (h : RecordHead)
  /-- Unit Information (R215). -/
  | unitInfo (h : RecordHead)
  /-- Device Status (R213). -/
  | status (h : RecordHead) (block : List Byte)
  /-- Read Events (R220). -/
  | eventRead (h : RecordHead) (block : List Byte)
  /-- Define Unit (R14). -/
  | unitDefine (h : RecordHead) (block : List Byte)
  /-- Delete Unit (R18). -/
  | unitDelete (h : RecordHead) (block : List Byte)
  /-- Set Grants (R106). -/
  | grantSet (h : RecordHead) (block : List Byte)
  /-- Remove Credential (R107). -/
  | credentialRemove (h : RecordHead) (block : List Byte)
  /-- Enroll Credential (R101). -/
  | enroll (h : RecordHead) (block : List Byte)
  /-- Set Policy (R216). -/
  | policySet (h : RecordHead) (block : List Byte)
  /-- Lock Units (R148). -/
  | lock (h : RecordHead) (block : List Byte)
  /-- Write Erase Descriptor (R159). -/
  | eraseListWrite (h : RecordHead) (block : List Byte)
  /-- Set Erase Tail (R160). -/
  | eraseTail (h : RecordHead) (block : List Byte)
  /-- Abort Erase (R161). -/
  | eraseAbort (h : RecordHead) (block : List Byte)
  /-- Clear Erase Halt (R162). -/
  | eraseClear (h : RecordHead) (block : List Byte)
  /-- Clear Tamper Latch (R190). -/
  | tamperClear (h : RecordHead) (block : List Byte)
  /-- A 32-byte record whose op is none of the nineteen (R21). -/
  | unknownOp (op : Byte) (h : RecordHead)
  /-- A transfer of another length where a record is expected (R21). -/
  | discardedTransfer (length : Nat)
  /-- The held refused status goes out on the bulk-in pipe (R21). -/
  | refusedStatusSent
  /-- The next `sectors` sectors of the head READ's buffered segment go out on the bulk-in pipe (R38, R42). -/
  | readDataSent (sectors : Nat)
  /-- The returned data of the head entry goes out on the bulk-in pipe (R26). -/
  | returnedDataSent
  /-- The status record of the ENDING head goes out on the bulk-in pipe (R26). -/
  | statusRecordSent
  /-- The last sector of the WRITE segment under intake is taken: all its sectors, in order, as the host sent them (R37). -/
  | writeIntakeEnd (data : List Sector)
  /-- The Dispatcher fills free slots (R33). -/
  | segmentIssue
  /-- An issued operation waiting in its slot begins (R49). -/
  | operationBegin (slot : Fin 4)
  /-- The package reports the end of a slot's operation (R50). -/
  | mediaCompletion (slot : Fin 4) (reply : PackageReply)
  /-- A slot's timeout expires (R51). -/
  | mediaTimeoutExpiry (slot : Fin 4)
  /-- The package reports its reset done (R52). -/
  | resetDoneReport
  /-- The 20 ms reset timer expires (R52). -/
  | resetTimerExpiry
  /-- The package answers the capacity request (R54). -/
  | capacityReport (answer : CapacityAnswer)
  /-- The 50 ms capacity countdown expires (R54). -/
  | capacityCountdownExpiry
  /-- Power-good of the media rail (R59). -/
  | powerGood
  /-- The 5 ms ramp timer expires (R60). -/
  | rampTimerExpiry
  /-- The 50 ms retry timer expires (R60). -/
  | retryTimerExpiry
  /-- Power-good is lost (R61). -/
  | powerGoodLoss
  /-- The 2 s switch-off timer expires (R62). -/
  | switchOffTimerExpiry
  /-- The drained signal for a unit (R143). -/
  | drained (unit : UnitNo)
  /-- A unit's idle timer expires (R145). -/
  | idleTimerExpiry (unit : UnitNo)
  /-- The session idle timer expires (R151). -/
  | sessionIdleTimerExpiry
  /-- The Cipher Unit takes a key replacement request of a unit (R78). -/
  | keyReplacement (unit : UnitNo)
  /-- The Configuration Store starts a record write (R198). -/
  | writeStart
  /-- The running record write completes (R199). -/
  | writeCompletion
  /-- The penalty timer expires (R96). -/
  | penaltyTimerExpiry
  /-- The presses recognised in one sample (R112, R113). -/
  | recognisedPress (keys : List PadKey)
  /-- A recognised release (R112). -/
  | recognisedRelease (padKey : PadKey)
  /-- The 3 s hold timer expires (R114). -/
  | holdTimerExpiry
  /-- A recognised change of the write-protect switch, to ON when `on` (R115). -/
  | recognisedSwitchChange (on : Bool)
  /-- The 10 s inter-key timer expires (R119). -/
  | interKeyExpiry
  /-- The 60 s enrollment window expires (R105). -/
  | enrollmentWindowExpiry
  /-- A PULSE, FAIL or OK reaches its end (R132). -/
  | transientEnd (led : Led)
  /-- A lit or dark phase of a blink pattern ends (R129). -/
  | patternPhaseEnd (led : Led)
  /-- The 30 s rest timer expires (R133). -/
  | restTimerExpiry
  /-- Channel 0, 1 or 2 completes three out-of-range samples, the last of them `value` (R183). -/
  | alarmRaise (channel : Fin 3) (value : Sample)
  /-- Channel 0, 1 or 2 completes three in-range samples, the last of them `value` (R183). -/
  | alarmClear (channel : Fin 3) (value : Sample)
  /-- Channel 3 completes three out-of-range samples (R187). -/
  | enclosureTrip (value : Sample)
  /-- Channel 3 completes three in-range samples (R186). -/
  | enclosureLevelIn (value : Sample)
  /-- The descriptor at the current position starts (R164). -/
  | descriptorStart
  /-- The progress delay timer expires (R173). -/
  | progressDelayExpiry
  /-- Start-up reruns the next marked unit (R178). -/
  | eraseResume
  /-- Start-up requests the owed enclosure erase (R189). -/
  | owedEnclosureErase
  /-- The computer polls the interrupt pipe (R221). -/
  | interruptPoll
  /-- The remote-wake enable request (R128). -/
  | remoteWakeEnable
  /-- The remote-wake disable request (R128). -/
  | remoteWakeDisable
  /-- Application of VBUS (R202). -/
  | powerOn
  /-- Loss of power (R196). -/
  | powerLoss
  /-- USB bus reset (R45). -/
  | busReset
  /-- USB suspend (R149). -/
  | standbyEntry
  /-- The bus resumes (R134). -/
  | standbyExit
  /-- One 5 ms sample of all keys and the switch: bit d for digit d, bit 10 KEY, bit 11 LOCK, set when DOWN (R111). -/
  | scanSample (keys : BitVec 12) (switchOn : Bool)
  /-- One 10 ms sample of the tamper channels, in the order in which changes of level are taken (R182, R192). -/
  | channelSample (samples : List (Fin 4 × Sample))
  /-- The last byte of a data stage that is being discarded is taken (R22). -/
  | dataStageDiscarded
deriving DecidableEq, Repr

end Sys2Proof
end

