-- ==== Sys2Proof/Machine/State.lean ====
section
/-! DEFINITION. The state of the NK-318, block by block, as plain data; the reasons a step could stop; and the state
after power-on. Each structure's docstring names the rule of spec/ that gives its fields and their power-on values. A
timer is `none` while stopped and `some n` while running, n being the length it was last started with, in the unit its
rule uses (DESIGN CHOICE, notes/assumptions/1.md). -/

namespace Sys2Proof.Machine

/-! ## Records of the Configuration Store -/

/-- Kind of a unit (R2). -/
inductive UnitKind where
  | secure
  | clear
deriving DecidableEq, Repr

/-- State of a unit (R3); `opened` is OPEN. -/
inductive UnitState where
  | locked
  | opened
  | closing
  | erasing
deriving DecidableEq, Repr

/-- Access mode of a grant or of an OPEN unit (R1). -/
inductive Mode where
  | readOnly
  | readWrite
deriving DecidableEq, Repr

/-- Erase method (R156). -/
inductive EraseMethod where
  | keyReplace
  | trim
  | overwrite
deriving DecidableEq, Repr

/-- A range relative to a unit, in sectors (R156). -/
structure EraseRange where
  start : Nat
  count : Nat
deriving DecidableEq, Repr

/-- What an erase descriptor asks for, beside its unit. An erase marker is a copy of it (R6, R167). -/
structure EraseWork where
  method : EraseMethod
  range : Option EraseRange
  passes : List Byte
  verify : Bool
deriving DecidableEq, Repr

/-- The persisted fields of a defined unit (R1, R194): every field but state, mode, opener and unusable. -/
structure UnitDef where
  kind : UnitKind
  base : Nat
  length : Nat
  generation : Nat
  honorWp : Bool
  idleTimeout : Nat
  lockOnSuspend : Bool
  label : Option (List Byte)
  marker : Option EraseWork
deriving DecidableEq, Repr

/-- A grant (R83). -/
structure Grant where
  unit : UnitNo
  mode : Mode
deriving DecidableEq, Repr

/-- The persisted state of a credential slot (R84, R194). ENROLLING is not persisted; see `Enrolling`. -/
inductive CredState where
  | empty
  | active
  | spent
deriving DecidableEq, Repr

/-- A credential record (R83, R194). -/
structure CredRecord where
  state : CredState
  salt : Option Salt
  verifier : Option Verifier
  grants : List Grant
  usesLeft : Option Nat
deriving DecidableEq, Repr

/-- The empty default of a credential record (R194). -/
def CredRecord.blank : CredRecord :=
  { state := .empty, salt := none, verifier := none, grants := [], usesLeft := none }

/-- The policy values of one tamper channel (R180). -/
structure ChannelPolicy where
  low : Nat
  high : Nat
  enabled : Bool
deriving DecidableEq, Repr

/-- The enclosure action (R180). -/
inductive EnclosureAction where
  | lockOnly
  | zeroize
deriving DecidableEq, Repr

/-- The policy record (R194): L, Q, P, B, C and the rest. -/
structure Policy where
  attemptLimit : Nat
  freeAttempts : Nat
  replugPoint : Nat
  baseDelay : Nat
  cap : Nat
  minPin : Nat
  adminIdle : Nat
  threshold : Nat
  delay : Nat
  channels : Vector ChannelPolicy 4
  action : EnclosureAction
deriving DecidableEq, Repr

/-- The policy of a blank store (R180, R194). -/
def Policy.default : Policy :=
  { attemptLimit := 10, freeAttempts := 3, replugPoint := 5, baseDelay := 5, cap := 320, minPin := 6, adminIdle := 5,
    threshold := 1, delay := 0,
    channels := #v[⟨2150, 2750, true⟩, ⟨2200, 2600, true⟩, ⟨384, 2544, true⟩, ⟨100, 1024, false⟩],
    action := .lockOnly }

/-- The attempt record (R194). -/
structure AttemptRecord where
  failed : Nat
  owed : Nat
deriving DecidableEq, Repr

/-- The tamper latch record (R181, R194). -/
structure LatchRecord where
  latched : Bool
  zeroizeOwed : Bool
deriving DecidableEq, Repr

/-- The 25 records (R194). -/
structure Records where
  creds : Vector CredRecord 6
  units : Vector (Option UnitDef) 8
  keys : Vector (Option CipherKey) 8
  policy : Policy
  attempt : AttemptRecord
  latch : LatchRecord
deriving DecidableEq, Repr

/-- A blank store: every record at its empty default (R194). -/
def Records.blank : Records :=
  { creds := Vector.replicate 6 CredRecord.blank, units := Vector.replicate 8 none, keys := Vector.replicate 8 none,
    policy := Policy.default, attempt := ⟨0, 0⟩, latch := ⟨false, false⟩ }

/-- The name of a record: its kind and number (R194). -/
inductive RecordId where
  | credential (slot : SlotNo)
  | unit (unit : UnitNo)
  | key (unit : UnitNo)
  | policy
  | attempt
  | latch
deriving DecidableEq, Repr

/-- A record's content, as a write request carries it (R197). -/
inductive RecordContent where
  | credential (slot : SlotNo) (content : CredRecord)
  | unit (unit : UnitNo) (content : Option UnitDef)
  | key (unit : UnitNo) (content : Option CipherKey)
  | policy (content : Policy)
  | attempt (content : AttemptRecord)
  | latch (content : LatchRecord)
deriving DecidableEq, Repr

/-- The path of a key replacement (R77). -/
inductive KeyPath where
  | descriptor
  | internal
deriving DecidableEq, Repr

/-- Who waits for a write completion (R199, the table). -/
inductive Waiter where
  /-- The management command in progress. -/
  | management
  /-- The charge of an attempt (R89). -/
  | charge
  /-- The clearing stage of a brute-force erase (R99). -/
  | clearing
  /-- The commit of an enrollment (R104). -/
  | commit
  /-- The marker of the descriptor in progress (R167). -/
  | descriptorMarker
  /-- The marker of an internal erase's target (R175). -/
  | internalMarker (unit : UnitNo)
  /-- A key replacement (R78). -/
  | replacement (unit : UnitNo) (path : KeyPath)
  /-- The clearing of a start-up rerun's marker (R178). -/
  | rerunClear (unit : UnitNo)
deriving DecidableEq, Repr

/-- A write request in the pending set, or the write that runs, with those who wait for its completion (R197, R199). -/
structure WriteRequest where
  content : RecordContent
  waiters : List Waiter
deriving DecidableEq, Repr

/-- The Configuration Store (R194 to R199): the array that keeps its content without power, the image, the pending set
in order, and the write that runs. -/
structure Store where
  array : Records
  image : Records
  pendingSet : List WriteRequest
  running : Option WriteRequest
deriving DecidableEq, Repr

/-! ## The command path -/

/-- The nineteen ops (R226). -/
inductive Op where
  | read
  | write
  | trim
  | sync
  | unitInfo
  | status
  | eventRead
  | unitDefine
  | unitDelete
  | grantSet
  | credentialRemove
  | enroll
  | policySet
  | lock
  | eraseListWrite
  | eraseTail
  | eraseAbort
  | eraseClear
  | tamperClear
deriving DecidableEq, Repr

/-- The statuses of R23 and R228. -/
inductive Status where
  | good
  | notReady
  | noUnit
  | outOfRange
  | locked
  | erasing
  | writeProtected
  | mediaError
  | invalid
  | tagInUse
  | denied
  | unitBusy
  | overlap
  | listBusy
  | tailInvalid
deriving DecidableEq, Repr

/-- The detail of a status (R23). -/
inductive Detail where
  | none
  | failed
  | timeout
  | reset
  | power
deriving DecidableEq, Repr

/-- A verdict: a status and its detail (R24). -/
structure Verdict where
  status : Status
  detail : Detail
deriving DecidableEq, Repr

/-- State of a queue entry (R25). -/
inductive EntryState where
  | queued
  | active
  | ending
deriving DecidableEq, Repr

/-- An entry of the Command Queue (R24). `returned` is its returned data while unsent (R26, R41). `orphan` marks an
entry that a bus reset left waiting for an outstanding completion, to be dropped at it (R45, R46). `age` orders it
against erase work (R33). -/
structure QueueEntry where
  tag : Tag
  op : Op
  head : RecordHead
  block : Option (List Byte)
  mediaStart : Option Nat
  verdict : Option Verdict
  segmentsIssued : Nat
  sectorsDone : Nat
  state : EntryState
  returned : Option (List Byte)
  age : Nat
  orphan : Bool
deriving DecidableEq, Repr

/-- A status record (R23, R228). The tag is as received, so it may lie above 15 for a refused record (R21). -/
structure StatusRecord where
  tag : Byte
  status : Status
  detail : Detail
  residue : Nat
deriving DecidableEq, Repr

/-- What the bulk-out pipe is held by (R21, R22): nothing, the data stage of an admitted WRITE with so many sectors not
yet taken, or a data stage that is being taken and discarded. -/
inductive BulkOut where
  | free
  | writeStage (tag : Tag) (left : Nat)
  | discarding
deriving DecidableEq, Repr

/-- A transfer on the bulk-in pipe (R23): a status record, (a part of) a segment of read data, or returned data. -/
inductive BulkIn where
  | statusRecord (r : StatusRecord)
  | readData (tag : Tag) (data : List Sector)
  | returnedData (data : List Byte)
deriving DecidableEq, Repr

/-- A read buffer in use (R34): the READ and the segment that hold it, the data once the segment completed OK, and how
many of its sectors have been sent. -/
structure ReadBuffer where
  tag : Tag
  segment : Nat
  data : Option (List Sector)
  sent : Nat
deriving DecidableEq, Repr

/-- The Upstream Port: standby, remote wake (R128), attention on the interrupt pipe (R221), the bulk pipes (R21 to R23)
and the read buffers (R34). `pressSeen` and `resumeSignalled` belong to the present standby period. `bulkIn` and
`attentionReport` hold what the port last sent. `waiting` holds the host's transfers that wait on the bulk-out pipe. -/
structure Port where
  standby : Bool
  remoteWake : Bool
  pressSeen : Bool
  resumeSignalled : Bool
  attentionReport : Option Nat
  bulkIn : Option BulkIn
  bulkOut : BulkOut
  refused : Option StatusRecord
  waiting : List Instr
  readBuffers : Vector (Option ReadBuffer) 4
deriving DecidableEq, Repr

/-! ## Media -/

/-- The operations of R48. -/
inductive MediaOp where
  | read
  | write
  | trim
  | patternWrite
  | flush
deriving DecidableEq, Repr

/-- Where an operation comes from (R49). -/
inductive Origin where
  | host (tag : Tag)
  | erase
deriving DecidableEq, Repr

/-- The point an occupied slot has reached (R37, R49): its intake under way, waiting to begin, or outstanding at the
package with its timeout running. -/
inductive SlotStage where
  | intake
  | waiting
  | outstanding
deriving DecidableEq, Repr

/-- An occupied media slot of the Dispatcher (R31) with, once outstanding, the record of the Media Link slot paired with
it (R49). `data` is the segment buffer of a WRITE; `buffer` the read buffer of a READ. -/
structure MediaSlot where
  origin : Origin
  unit : UnitNo
  op : MediaOp
  start : Option Nat
  sectors : Nat
  pattern : Option Byte
  segment : Nat
  stage : SlotStage
  timeout : Option Nat
  data : List Sector
  buffer : Option (Fin 4)
deriving DecidableEq, Repr

/-- Link states (R53). -/
inductive LinkState where
  | sizing
  | ready
  | resetting
  | absent
deriving DecidableEq, Repr

/-- The capacity read (R54): not under way, waiting for the rail, or its request outstanding with the 50 ms countdown. -/
inductive CapacityRead where
  | idle
  | awaitingRail
  | outstanding
deriving DecidableEq, Repr

/-- The Media Link (R49 to R54): its state, M once read, the capacity read, and the 20 ms reset timer. Its four slots
are the outstanding ones of the Dispatcher's slots. -/
structure Link where
  state : LinkState
  capacity : Option Nat
  capacityRead : CapacityRead
  resetTimer : Option Nat
deriving DecidableEq, Repr

/-- Rail states (R57). -/
inductive RailState where
  | off
  | ramping
  | on
  | fault
  | failed
deriving DecidableEq, Repr

/-- The Rail Controller (R57). Timers in ms. -/
structure Rail where
  state : RailState
  retryCount : Nat
  rampTimer : Option Nat
  retryTimer : Option Nat
  switchOffTimer : Option Nat
deriving DecidableEq, Repr

/-! ## Units, keys, credentials -/

/-- The fields of a unit record that are not persisted (R1), with Unit Control's claim pending and idle timer in minutes
(R135). -/
structure UnitRun where
  state : UnitState
  mode : Option Mode
  opener : Option SlotNo
  unusable : Bool
  claimPending : Bool
  idleTimer : Option Nat
deriving DecidableEq, Repr

/-- A unit just defined, or undefined: LOCKED with nothing else (R3, R16). -/
def UnitRun.fresh : UnitRun :=
  { state := .locked, mode := none, opener := none, unusable := false, claimPending := false, idleTimer := none }

/-- Unit Control (R135): the open order, oldest first, the admin session and its idle timer in minutes. -/
structure UnitControl where
  openOrder : List UnitNo
  session : Bool
  sessionTimer : Option Nat
deriving DecidableEq, Repr

/-- Key slot states (R66). -/
inductive KeySlotState where
  | empty
  | loaded
  | draining
deriving DecidableEq, Repr

/-- A key slot: its state and its working copy (R66). -/
structure KeySlot where
  state : KeySlotState
  key : Option CipherKey
deriving DecidableEq, Repr

/-- A key replacement asked for and not yet taken (R77). -/
structure KeyRequest where
  unit : UnitNo
  path : KeyPath
deriving DecidableEq, Repr

/-- The Cipher Unit (R66, R77): key slots, requests not yet taken in order, and the units whose replacement is in
progress. -/
structure Cipher where
  slots : Vector KeySlot 8
  requests : List KeyRequest
  replacing : List UnitNo
deriving DecidableEq, Repr

/-- The slot that is ENROLLING and the state it had before (R84). -/
structure Enrolling where
  slot : SlotNo
  before : CredState
deriving DecidableEq, Repr

/-- Attempt Control phases (R88). -/
inductive AttemptPhase where
  | idle
  | charging
  | penalty
  | replug
  | bruteForce
deriving DecidableEq, Repr

/-- Stages of a brute-force erase (R99). -/
inductive BruteStage where
  | none
  | pending
  | erasing
  | clearing
deriving DecidableEq, Repr

/-- Attempt Control (R87, R88, R97): F, the phase, the penalty timer in s, the replug latch and whether it is due, and the
brute-force stage. The penalty owed stands in the attempt record. -/
structure AttemptControl where
  failed : Nat
  phase : AttemptPhase
  penaltyTimer : Option Nat
  replugLatch : Bool
  replugDue : Bool
  brute : BruteStage
deriving DecidableEq, Repr

/-! ## Keypad, entry, indicators -/

/-- The Keypad Scanner (R110): per key (digits 0..9, KEY, LOCK) the stable level, DOWN being true, and the run; the held
key; lockout; the 3 s hold timer; the switch, whether it has been sampled since power-on, and its run. -/
structure Scanner where
  down : Vector Bool 12
  run : Vector Nat 12
  held : Option PadKey
  lockout : Bool
  holdTimer : Option Nat
  switchOn : Bool
  switchSampled : Bool
  switchRun : Nat
deriving DecidableEq, Repr

/-- Entry Controller states (R116). -/
inductive EntryCtl where
  | disabled
  | idle
  | collecting
  | verifying
  | penalty
  | replugWait
  | enrollFirst
  | enrollConfirm
deriving DecidableEq, Repr

/-- The enrollment target (R116): the slot; the ENROLL's uses-left value, absent for a long press; session-bound. -/
structure EnrollTarget where
  slot : SlotNo
  uses : Option Nat
  sessionBound : Bool
deriving DecidableEq, Repr

/-- The Entry Controller (R116). `commitRemoved` says that the slot of the pending commit was removed since (R107). -/
structure Entry where
  state : EntryCtl
  buffer : List Digit
  first : Option (List Digit)
  target : Option EnrollTarget
  commitPending : Bool
  commitRemoved : Bool
  interKeyTimer : Option Nat
  window : Option Nat
deriving DecidableEq, Repr

/-- The requests of R130. -/
inductive LedRequest where
  | failFeedback
  | okFeedback
  | pulseFeedback
  | latch
  | erasure
  | attemptWait
  | session
  | unitOpen
  | rest
deriving DecidableEq, Repr

/-- What an LED shows: the request that has it, and how many lit and dark phases of its pattern have ended since the
request gained it (R129). -/
structure Display where
  shown : Option LedRequest
  phase : Nat
deriving DecidableEq, Repr

/-- A transient of the green LED (R130). -/
inductive GreenTransient where
  | ok
  | pulse
deriving DecidableEq, Repr

/-- The Indicator Driver (R129 to R133): the transient of each LED, what each LED shows, and the 30 s rest timer. -/
structure Indicators where
  fail : Bool
  green : Option GreenTransient
  redDisplay : Display
  greenDisplay : Display
  blueDisplay : Display
  restTimer : Option Nat
deriving DecidableEq, Repr

/-! ## Erase Engine -/

/-- Outcomes of R171. -/
inductive Outcome where
  | good
  | zeroLength
  | noUnit
  | outOfRange
  | invalidMethod
  | stale
  | mediaError
  | verifyMismatch
  | genExhausted
  | aborted
  | preempted
deriving DecidableEq, Repr

/-- Phase of a descriptor (R156). -/
inductive ErasePhase where
  | pass (n : Nat)
  | verify
deriving DecidableEq, Repr

/-- An erase descriptor (R156). -/
structure Descriptor where
  unit : UnitNo
  work : EraseWork
  done : Bool
  outcome : Option Outcome
  phase : Option ErasePhase
  sectorsDone : Nat
deriving DecidableEq, Repr

/-- Engine states (R157). -/
inductive EngineState where
  | idle
  | running
  | halted
deriving DecidableEq, Repr

/-- Stage of the descriptor at the current position (R157). -/
inductive EngineStage where
  | none
  | waiting
  | claiming
  | marking
  | working
deriving DecidableEq, Repr

/-- Stop request (R157). -/
inductive StopRequest where
  | none
  | aborted
  | preempted
deriving DecidableEq, Repr

/-- The segment the engine has with the Dispatcher (R169): none, presented and not issued, or issued. -/
inductive EraseSegment where
  | none
  | presented
  | issued
deriving DecidableEq, Repr

/-- Stage of a target of an internal erase (R174). -/
inductive TargetStage where
  | pending
  | claiming
  | marking
  | replacing
  | done
deriving DecidableEq, Repr

/-- A target of an internal erase (R174). -/
structure Target where
  unit : UnitNo
  stage : TargetStage
deriving DecidableEq, Repr

/-- A requester of an internal erase, with the kind of its request (R174). -/
inductive Requester where
  | duress
  | bruteForce
  | zeroize
deriving DecidableEq, Repr

/-- The internal erase record; the record's presence is the in-progress flag (R174). -/
structure InternalErase where
  targets : List Target
  requesters : List Requester
deriving DecidableEq, Repr

/-- Stage of a start-up rerun (R178, R179). -/
inductive RerunStage where
  | working
  | replacing
  | clearing
deriving DecidableEq, Repr

/-- The rerun in progress on the engine's start-up path (R178). -/
structure Rerun where
  unit : UnitNo
  work : EraseWork
  phase : ErasePhase
  sectorsDone : Nat
  stage : RerunStage
deriving DecidableEq, Repr

/-- The Erase Engine (R156, R157). The delay timer counts units of 100 ms. `workAge` is the age of the present work as a
candidate for a media slot (R33). -/
structure EraseEngine where
  list : Vector (Option Descriptor) 32
  state : EngineState
  current : Fin 32
  tail : Fin 32
  stage : EngineStage
  stop : StopRequest
  kept : Option UnitNo
  internal : Option InternalErase
  progress : Nat
  delayTimer : Option Nat
  segment : EraseSegment
  workAge : Nat
  rerun : Option Rerun
deriving DecidableEq, Repr

/-! ## Tamper Monitor, events, power -/

/-- Level of a channel (R181). -/
inductive Level where
  | inRange
  | outOfRange
deriving DecidableEq, Repr

/-- A channel record (R181); thresholds and enable stand in the policy. The alarm of channel 3 is the enclosure latch. -/
structure Channel where
  last : Sample
  outRun : Nat
  inRun : Nat
  level : Level
  alarm : Bool
deriving DecidableEq, Repr

/-- A channel after power-on (R181). -/
def Channel.fresh : Channel :=
  { last := 0, outRun := 0, inRun := 0, level := .inRange, alarm := false }

/-- The Tamper Monitor (R181, R182): the channels, zeroize owed, and whether sampling has begun. -/
structure Tamper where
  channels : Vector Channel 4
  zeroizeOwed : Bool
  sampling : Bool
deriving DecidableEq, Repr

/-- The causes of a close (R141). -/
inductive CloseCause where
  | lockKey
  | lockCommand
  | idle
  | suspend
  | temperature
  | enclosure
  | erase
  | internal
deriving DecidableEq, Repr

/-- The reasons of an abandonment (R105). -/
inductive AbandonReason where
  | short
  | mismatch
  | pinInUse
  | timeout
  | lock
  | alarm
  | session
  | removed
deriving DecidableEq, Repr

/-- Why an alarm cleared (R183, R190, R191). -/
inductive ClearDetail where
  | inRange
  | disabled
  | cleared
deriving DecidableEq, Repr

/-- An event entry: its kind with the fields R223 gives the kind. -/
inductive Event where
  | unitOpened (unit : UnitNo) (slot : SlotNo) (mode : Mode)
  | unitLocked (unit : UnitNo) (slot : Option SlotNo) (cause : CloseCause)
  | unitBusy (unit : UnitNo) (slot : SlotNo) (erasing : Bool)
  | attemptFailed (f : Nat)
  | penaltyStart (delay : Nat)
  | replugRequired
  | bruteEraseStart
  | bruteEraseDone
  | enrollDone (slot : SlotNo)
  | enrollFailed (slot : SlotNo) (reason : AbandonReason)
  | eraseProgress (count : Nat)
  | eraseHalted (unit : Option UnitNo) (position : Option (Fin 32)) (outcome : Outcome) (count : Nat)
  | tamperAlarm (channel : Fin 4) (value : Sample)
  | tamperClear (channel : Fin 4) (detail : ClearDetail)
  | wpChanged (on : Bool)
  | railFault (lost : Bool) (count : Nat)
  | railFailed
  | linkReset (unit : UnitNo) (op : MediaOp)
deriving DecidableEq, Repr

/-- The Event Queue (R219). -/
structure EventQueue where
  entries : List Event
  lost : Bool
  attention : Bool
deriving DecidableEq, Repr

/-- Where start-up stands (R202 to R207). Steps 1, 3 and 5 take no time, so the device rests in step 2, in the reruns or
the owed erase of step 4, or in the brute-force erase of step 6; `done` is the end of CONFIGURING. -/
inductive StartUp where
  | step2
  | step4Reruns
  | step4Owed
  | step6
  | done
deriving DecidableEq, Repr

/-- Supply and start-up: whether VBUS is applied (R202), and the start-up step. -/
structure Power where
  vbus : Bool
  startUp : StartUp
deriving DecidableEq, Repr

/-! ## The machine -/

/-- The state of the part. `pending` is the queue of commands that wait, first in first out; it is the model's own (DESIGN CHOICE, notes/assumptions/18.md), as
are `draws` (how many free values have been drawn, from the random source and for the penalty remaining) and `clock`
(how many ages have been given). -/
structure State where
  pending : List Instr
  power : Power
  port : Port
  queue : List QueueEntry
  slots : Vector (Option MediaSlot) 4
  link : Link
  rail : Rail
  units : Vector UnitRun 8
  control : UnitControl
  cipher : Cipher
  enrolling : Option Enrolling
  attempt : AttemptControl
  scanner : Scanner
  entry : Entry
  leds : Indicators
  erase : EraseEngine
  tamper : Tamper
  store : Store
  handler : Option Tag
  events : EventQueue
  draws : Nat
  clock : Nat
deriving DecidableEq, Repr

/-- The part faults on no command: the manual gives every command an effect in every state, so there is no reason of
this kind. Safe. -/
inductive Fault where
deriving DecidableEq, Repr

/-- Refusals. -/
inductive Refusal where
  /-- Raised by `exec` for a command that has no meaning yet, with its mnemonic. Safe: the machine stops. -/
  | notModelled (mnemonic : String)
deriving DecidableEq, Repr

/-- A part without VBUS that holds the given records: every block at the power-on value its chapter gives, the image and
the pending set discarded (R196), start-up not begun. A field whose reset value the manual does not give has
the value that DESIGN CHOICE, notes/assumptions/25.md names. -/
def State.unpowered (array : Records) : State :=
  { pending := [],
    power := { vbus := false, startUp := .step2 },
    port :=
      { standby := false, remoteWake := false, pressSeen := false, resumeSignalled := false, attentionReport := none,
        bulkIn := none, bulkOut := .free, refused := none, waiting := [], readBuffers := Vector.replicate 4 none },
    queue := [],
    slots := Vector.replicate 4 none,
    link := { state := .sizing, capacity := none, capacityRead := .idle, resetTimer := none },
    rail := { state := .off, retryCount := 0, rampTimer := none, retryTimer := none, switchOffTimer := none },
    units := Vector.replicate 8 UnitRun.fresh,
    control := { openOrder := [], session := false, sessionTimer := none },
    cipher := { slots := Vector.replicate 8 { state := .empty, key := none }, requests := [], replacing := [] },
    enrolling := none,
    attempt :=
      { failed := 0, phase := .idle, penaltyTimer := none, replugLatch := false, replugDue := false, brute := .none },
    scanner :=
      { down := Vector.replicate 12 false, run := Vector.replicate 12 0, held := none, lockout := false,
        holdTimer := none, switchOn := false, switchSampled := false, switchRun := 0 },
    entry :=
      { state := .disabled, buffer := [], first := none, target := none, commitPending := false,
        commitRemoved := false, interKeyTimer := none, window := none },
    leds :=
      { fail := false, green := none, redDisplay := ⟨none, 0⟩, greenDisplay := ⟨none, 0⟩, blueDisplay := ⟨none, 0⟩,
        restTimer := none },
    erase :=
      { list := Vector.replicate 32 none, state := .idle, current := 0, tail := 0, stage := .none, stop := .none,
        kept := none, internal := none, progress := 0, delayTimer := none, segment := .none, workAge := 0,
        rerun := none },
    tamper := { channels := Vector.replicate 4 Channel.fresh, zeroizeOwed := false, sampling := false },
    store := { array := array, image := Records.blank, pendingSet := [], running := none },
    handler := none,
    events := { entries := [], lost := false, attention := false },
    draws := 0,
    clock := 0 }

/-- The machine right after its reset, which is the application of VBUS to a part with a blank store (R194, R202;
DESIGN CHOICE, notes/assumptions/8.md): every
block at its power-on value, step 2 of start-up begun at once, so that the capacity read presents need and the rail
ramps (R54, R59, R203), and the rest request alone on red (R134). -/
def State.reset : State :=
  { State.unpowered Records.blank with
    power := { vbus := true, startUp := .step2 },
    link := { state := .sizing, capacity := none, capacityRead := .awaitingRail, resetTimer := none },
    rail := { state := .ramping, retryCount := 0, rampTimer := some 5, retryTimer := none, switchOffTimer := none },
    leds :=
      { fail := false, green := none, redDisplay := ⟨some .rest, 0⟩, greenDisplay := ⟨none, 0⟩,
        blueDisplay := ⟨none, 0⟩, restTimer := some 30 } }

end Sys2Proof.Machine
end

