-- ==== Sys2Proof/Machine/Flags.lean ====
section
/-! DEFINITION. The conditions that the blocks read: what a state is, computed from its fields and changing nothing. -/

namespace Sys2Proof.Machine

/-! ## Units and credentials -/

/-- The persisted record of a unit, read from the image (R8, R195). -/
def State.unitDef (s : State) (u : UnitNo) : Option UnitDef := s.store.image.units[u]

/-- The other fields of a unit (R1, R135). -/
def State.unitRun (s : State) (u : UnitNo) : UnitRun := s.units[u]

/-- The unit's state (R3). -/
def State.unitState (s : State) (u : UnitNo) : UnitState := (s.unitRun u).state

/-- The unit is defined and SECURE (R2). -/
def State.isSecure (s : State) (u : UnitNo) : Bool :=
  match s.unitDef u with
  | some d => decide (d.kind = .secure)
  | none => false

/-- The unit is defined and CLEAR (R2). -/
def State.isClear (s : State) (u : UnitNo) : Bool :=
  match s.unitDef u with
  | some d => decide (d.kind = .clear)
  | none => false

/-- The unit's erase marker (R6). -/
def State.marker (s : State) (u : UnitNo) : Option EraseWork := (s.unitDef u).bind UnitDef.marker

/-- The generation in force, the first part of every tweak of the unit (R4, R13). -/
def State.generation (s : State) (u : UnitNo) : Nat :=
  match s.unitDef u with
  | some d => d.generation
  | none => 0

/-- The SECURE units, in unit number order (R174). -/
def State.secureUnits (s : State) : List UnitNo := (List.finRange 8).filter s.isSecure

/-- Some SECURE unit is OPEN (R130, unit open). -/
def State.anyOpen (s : State) : Bool :=
  (List.finRange 8).any fun u => decide (s.unitState u = .opened)

/-- Some unit is ERASING (R130, erasure). -/
def State.anyErasing (s : State) : Bool :=
  (List.finRange 8).any fun u => decide (s.unitState u = .erasing)

/-- A credential record, read from the image (R195). -/
def State.cred (s : State) (k : SlotNo) : CredRecord := s.store.image.creds[k]

/-- The slot is ENROLLING (R84). -/
def State.isEnrolling (s : State) (k : SlotNo) : Bool :=
  match s.enrolling with
  | some e => decide (e.slot = k)
  | none => false

/-- The slot is ACTIVE: its PIN is compared at a verification (R84, R90). -/
def State.isActive (s : State) (k : SlotNo) : Bool :=
  decide ((s.cred k).state = .active) && !s.isEnrolling k

/-- The state the provisioning rule reads for slot 0: the state before an enrollment while ENROLLING (R87). -/
def State.provisioningState (s : State) : CredState :=
  match s.enrolling with
  | some e => if e.slot = 0 then e.before else (s.cred 0).state
  | none => (s.cred 0).state

/-- The device is FACTORY (R87). -/
def State.factory (s : State) : Bool := decide (s.provisioningState = .empty)

/-- The device is CONFIGURING (R202). -/
def State.configuring (s : State) : Bool := decide (s.power.startUp ≠ .done)

/-- MEDIA_ABSENT (R55). -/
def State.mediaAbsent (s : State) : Bool := decide (s.link.state = .absent)

/-- A gated command passes (R211). -/
def State.gateOpen (s : State) : Bool := s.control.session || s.factory

/-- F as STATUS reports it: handed to Attempt Control in step 3 of start-up (R204, R213; DEDUCED, notes/assumptions/9.md). -/
def State.reportedFailed (s : State) : Nat := s.attempt.failed

/-- The enclosure latch as STATUS reports it: a persisted value, read from the image, which holds it from the load of
step 2 on (R195, R213, R214). -/
def State.reportedLatch (s : State) : Bool := s.store.image.latch.latched

/-! ## Alarms -/

/-- A channel record of the Tamper Monitor (R181). -/
def State.channel (s : State) (c : Fin 4) : Channel := s.tamper.channels[c]

/-- The policy values of a channel (R180). -/
def State.channelPolicy (s : State) (c : Fin 4) : ChannelPolicy := s.store.image.policy.channels[c]

/-- A value is in range: at least the low threshold and at most the high one (R180). -/
def ChannelPolicy.inRange (p : ChannelPolicy) (v : Sample) : Bool :=
  decide (p.low ≤ v.toNat) && decide (v.toNat ≤ p.high)

/-- VBUS_LOW (R184). -/
def State.vbusLow (s : State) : Bool := (s.channel 0).alarm || (s.channel 1).alarm

/-- The temperature alarm is active (R185). -/
def State.temperatureAlarm (s : State) : Bool := (s.channel 2).alarm

/-- The enclosure latch, which is the alarm of channel 3 (R181). -/
def State.latch (s : State) : Bool := (s.channel 3).alarm

/-- A disabling condition of the Entry Controller holds (R126). -/
def State.entryDisabled (s : State) : Bool :=
  s.configuring || s.vbusLow || (s.latch && decide (s.store.image.policy.action = .zeroize) && s.factory)

/-! ## Translation and the Command Queue -/

/-- Two ranges share a sector (R15, R32). -/
def rangesOverlap (a m b n : Nat) : Bool := decide (a < b + n) && decide (b < a + m)

/-- A READ, WRITE or TRIM. -/
def Op.movesData : Op → Bool
  | .read | .write | .trim => true
  | _ => false

/-- An op that the Dispatcher issues to the media: READ, WRITE, TRIM or SYNC. -/
def Op.usesMedia : Op → Bool
  | .read | .write | .trim | .sync => true
  | _ => false

/-- A WRITE or TRIM. -/
def Op.alters : Op → Bool
  | .write | .trim => true
  | _ => false

/-- A management op (R226). -/
def Op.isManagement : Op → Bool
  | .read | .write | .trim | .sync | .unitInfo => false
  | _ => true

/-- The entry names the unit. -/
def QueueEntry.names (e : QueueEntry) (u : UnitNo) : Bool := decide (e.head.unit.toNat = u.val)

/-- The unit number an entry carries, when it is one of 0..7. -/
def QueueEntry.unitNo (e : QueueEntry) : UnitNo := Fin.ofNat 8 e.head.unit.toNat

/-- Sectors of the command (R24). -/
def QueueEntry.count (e : QueueEntry) : Nat := e.head.count.toNat

/-- How many segments the command is cut into: one for a TRIM (R35). -/
def QueueEntry.segments (e : QueueEntry) : Nat :=
  if e.op = .trim then 1 else (e.count + 255) / 256

/-- How many sectors segment k holds, k from 1 (R35). -/
def QueueEntry.segmentLength (e : QueueEntry) (k : Nat) : Nat :=
  if e.op = .trim then e.count
  else if k < e.segments then 256 else e.count - 256 * (e.segments - 1)

/-- The verdict is GOOD. -/
def QueueEntry.isGood (e : QueueEntry) : Bool :=
  match e.verdict with
  | some v => decide (v.status = .good)
  | none => false

/-- The entry of a tag (R24). -/
def State.entryOf (s : State) (t : Tag) : Option QueueEntry := s.queue.find? fun e => decide (e.tag = t)

/-- A slot holds work of the command with this tag. -/
def MediaSlot.isOf (m : MediaSlot) (t : Tag) : Bool := decide (m.origin = .host t)

/-- The occupied slots. -/
def State.occupied (s : State) : List MediaSlot := s.slots.toList.filterMap id

/-- The command has a segment or flush in a slot (R31). -/
def State.hasOutstanding (s : State) (t : Tag) : Bool := s.occupied.any fun m => m.isOf t

/-- A slot's work is a host command's, of the unit (R31). -/
def MediaSlot.countsFor (m : MediaSlot) (u : UnitNo) : Bool :=
  decide (m.origin ≠ .erase) && decide (m.unit = u)

/-- The unit's in-flight count (R31). -/
def State.inFlight (s : State) (u : UnitNo) : Nat := (s.occupied.filter fun m => m.countsFor u).length

/-- The record that the Media Link slot holds: the operation of an outstanding slot (R49). -/
def State.linkSlot (s : State) (n : Fin 4) : Option MediaSlot :=
  match s.slots[n] with
  | some m => if m.stage = .outstanding then some m else none
  | none => none

/-- A free slot, which the work issued next takes (R33). Which of several the manual does not say; the model takes the
lowest-numbered (DESIGN CHOICE, notes/assumptions/28.md). -/
def State.freeSlot (s : State) : Option (Fin 4) := (List.finRange 4).find? fun n => decide (s.slots[n] = none)

/-- A free read buffer, which the READ segment issued next takes (R34). Which of several the manual leaves open ("any free
buffer"); the model takes the lowest-numbered (DESIGN CHOICE, notes/assumptions/28.md). -/
def State.freeBuffer (s : State) : Option (Fin 4) :=
  (List.finRange 4).find? fun n => decide (s.port.readBuffers[n] = none)

/-- How many read buffers are free (R34). -/
def State.freeBuffers (s : State) : Nat :=
  ((List.finRange 4).filter fun n => decide (s.port.readBuffers[n] = none)).length

/-- The tag of the head of the queue (R26). -/
def State.headTag (s : State) : Option Tag := s.queue.head?.map QueueEntry.tag

/-- An entry that an earlier one holds back: an earlier QUEUED or ACTIVE entry of the unit overlaps it and one of the two
is a WRITE or TRIM (R32). -/
def QueueEntry.holdsBack (e' e : QueueEntry) : Bool :=
  e'.op.movesData && decide (e'.state ≠ .ending) && decide (e'.head.unit = e.head.unit) &&
    (e'.op.alters || e.op.alters) &&
    rangesOverlap e'.head.lba.toNat e'.count e.head.lba.toNat e.count

/-- A QUEUED entry that meets every condition of R32 except the rail: it is ready. -/
def readyAfter (earlier : List QueueEntry) (e : QueueEntry) : Bool :=
  decide (e.state = .queued) &&
    match e.op with
    | .read | .write | .trim => !(earlier.any fun e' => e'.holdsBack e)
    | .sync =>
      !(earlier.any fun e' => decide (e'.op = .write) && decide (e'.head.unit = e.head.unit) && decide (e'.state ≠ .ending))
    | _ => false

/-- An ACTIVE entry whose next segment is due (R32). -/
def State.isDue (s : State) (e : QueueEntry) : Bool :=
  decide (e.state = .active) && e.op.movesData && !e.orphan && !s.hasOutstanding e.tag &&
    decide (e.segmentsIssued < e.segments)

/-- The first entry, in order of age, that is ready or has its segment due and passes a test. -/
def State.findWork (s : State) (ok : QueueEntry → Bool) : List QueueEntry → List QueueEntry → Option QueueEntry
  | _, [] => none
  | earlier, e :: rest =>
    if (readyAfter earlier e || s.isDue e) && ok e then some e else s.findWork ok (earlier ++ [e]) rest

/-- Some command is ready or has a segment due (R32). -/
def State.anyWork (s : State) : Bool := (s.findWork (fun _ => true) [] s.queue).isSome

/-- A READ can take a buffer: any free one for the head of the queue, and otherwise one of at least two free (R34). -/
def State.bufferAvailable (s : State) (e : QueueEntry) : Bool :=
  decide (e.op ≠ .read) ||
    (if s.headTag = some e.tag then decide (1 ≤ s.freeBuffers) else decide (2 ≤ s.freeBuffers))

/-- The bulk-out pipe is free for a record (R21), and traffic is not stopped by standby (R47). -/
def State.pipeFree (s : State) : Bool :=
  decide (s.port.bulkOut = .free) && s.port.refused.isNone && !s.port.standby

/-! ## Rail -/

/-- Need is present: one of the sources of R58 holds. -/
def State.need (s : State) : Bool :=
  ((List.finRange 8).any fun u => decide (s.unitState u = .opened) || decide (s.unitState u = .closing)) ||
    s.anyWork || !s.occupied.isEmpty || decide (s.erase.state = .running) || decide (s.link.capacityRead ≠ .idle)

/-- Operations may begin: the link is READY and the rail ON (R49). -/
def State.mediaReady (s : State) : Bool := decide (s.link.state = .ready) && decide (s.rail.state = .on)

/-! ## Erase Engine -/

/-- The descriptor at the current position (R157). -/
def State.currentDescriptor (s : State) : Option Descriptor := s.erase.list[s.erase.current]

/-- A position lies in the pending window (R157). -/
def EraseEngine.inWindow (e : EraseEngine) (p : Fin 32) : Bool :=
  decide ((p - e.current).val < (e.tail - e.current).val)

/-- The sectors of the work's range. -/
def EraseWork.count (w : EraseWork) : Nat :=
  match w.range with
  | some r => r.count
  | none => 0

/-- The start of the work's range. -/
def EraseWork.start (w : EraseWork) : Nat :=
  match w.range with
  | some r => r.start
  | none => 0

/-- The phase after a phase, or none after the last (R169). -/
def EraseWork.phaseAfter (w : EraseWork) : ErasePhase → Option ErasePhase
  | .pass n =>
    if w.method = .overwrite && n < w.passes.length then some (.pass (n + 1))
    else if w.method = .overwrite && w.verify then some .verify
    else none
  | .verify => none

/-- Sectors of an erase segment at most (R169). -/
def EraseWork.segmentSize (w : EraseWork) : Nat := if w.method = .trim then 65536 else 256

/-- The unit whose descriptor is in progress past its start: claimed by the engine (R166). -/
def State.claimedUnit (s : State) : Option UnitNo :=
  match s.erase.stage with
  | .claiming | .marking | .working => s.currentDescriptor.map Descriptor.unit
  | .none | .waiting => none

/-- A target of an internal erase stands in the given stage. -/
def State.hasTarget (s : State) (u : UnitNo) (st : TargetStage) : Bool :=
  match s.erase.internal with
  | some i => i.targets.any fun t => decide (t.unit = u) && decide (t.stage = st)
  | none => false

/-- The drained signal for a unit is awaited: the unit is CLOSING, or a descriptor or an internal erase holds it ERASING
in CLAIMING. A target of an internal erase whose unit the descriptor in progress still holds waits for the descriptor's
halt instead (R31, R166, R175). -/
def State.drainAwaited (s : State) (u : UnitNo) : Bool :=
  decide (s.unitState u = .closing) ||
    (decide (s.unitState u = .erasing) &&
      ((decide (s.erase.stage = .claiming) && decide (s.claimedUnit = some u)) ||
        (s.hasTarget u .claiming && decide (s.claimedUnit ≠ some u) && decide (s.erase.kept ≠ some u))))

/-- Nothing of the unit is outstanding and all its commands are ended (R31). -/
def State.unitQuiet (s : State) (u : UnitNo) : Bool :=
  decide (s.inFlight u = 0) &&
    s.queue.all fun e => !(e.names u && e.op.usesMedia) || decide (e.state = .ending)

/-- The Dispatcher signals drained for the unit (R31). -/
def State.drainDue (s : State) (u : UnitNo) : Bool := s.drainAwaited u && s.unitQuiet u

/-- The four conditions of a descriptor's start (R164), and no stop request, which acts without a start (R172). -/
def State.startDue (s : State) : Bool :=
  decide (s.erase.state = .running) && decide (s.erase.stage = .waiting) && !s.vbusLow && s.erase.internal.isNone &&
    !s.configuring && decide (s.erase.stop = .none)

/-! ## Configuration Store -/

/-- The record of a content. -/
def RecordContent.id : RecordContent → RecordId
  | .credential k _ => .credential k
  | .unit u _ => .unit u
  | .key u _ => .key u
  | .policy _ => .policy
  | .attempt _ => .attempt
  | .latch _ => .latch

/-- A write of the record is pending or running. -/
def State.writeOutstanding (s : State) (id : RecordId) : Bool :=
  (s.store.pendingSet.any fun w => decide (w.content.id = id)) ||
    match s.store.running with
    | some w => decide (w.content.id = id)
    | none => false

end Sys2Proof.Machine
end

