-- ==== Sys2Proof/Machine/Formats.lean ====
section
/-! DEFINITION. The records that the part forms (R225, R228 to R231): the status record, the returned data of STATUS,
EVENT READ and UNIT INFO, and their codes. -/

namespace Sys2Proof.Machine

/-! ## Bytes -/

/-- A number as one byte. -/
def byteOf (n : Nat) : Byte := BitVec.ofNat 8 n

/-- A number as `n` bytes, least significant first (R224). -/
def fieldOf : Nat → Nat → List Byte
  | 0, _ => []
  | n + 1, v => byteOf v :: fieldOf n (v / 256)

/-- `n` bytes of FFh: an absent field (R224). -/
def absentField (n : Nat) : List Byte := List.replicate n 0xFF

/-- `n` reserved bytes: 00h (R224). -/
def reserved (n : Nat) : List Byte := List.replicate n 0

/-- Yes is 01h and no 00h (R224). -/
def flagOf (b : Bool) : Byte := if b then 1 else 0

/-- A list of bytes cut or filled with 00h to `n` bytes. -/
def padTo (n : Nat) (b : List Byte) : List Byte := (b ++ reserved n).take n

/-- One returned-data transfer: the content, then zeros to 512 bytes (R23). -/
def transferOf (content : List Byte) : List Byte := padTo 512 content

/-! ## Codes -/

/-- Status codes (R228). -/
def Status.code : Status → Byte
  | .good => 0x00
  | .notReady => 0x01
  | .noUnit => 0x02
  | .outOfRange => 0x03
  | .locked => 0x04
  | .erasing => 0x05
  | .writeProtected => 0x06
  | .mediaError => 0x07
  | .invalid => 0x08
  | .tagInUse => 0x09
  | .denied => 0x0A
  | .unitBusy => 0x0B
  | .overlap => 0x0C
  | .listBusy => 0x0E
  | .tailInvalid => 0x0F

/-- Detail codes (R228). -/
def Detail.code : Detail → Byte
  | .none => 0x00
  | .failed => 0x01
  | .timeout => 0x02
  | .reset => 0x03
  | .power => 0x04

/-- Outcome codes (R229). -/
def Outcome.code : Outcome → Byte
  | .good => 0x00
  | .zeroLength => 0x01
  | .noUnit => 0x02
  | .outOfRange => 0x03
  | .invalidMethod => 0x04
  | .stale => 0x05
  | .mediaError => 0x06
  | .verifyMismatch => 0x07
  | .genExhausted => 0x08
  | .aborted => 0x09
  | .preempted => 0x0A

/-- Mode codes (R229 to R231). -/
def Mode.code : Mode → Byte
  | .readOnly => 0x00
  | .readWrite => 0x01

/-- Kind codes of a unit (R230, R231). -/
def UnitKind.code : UnitKind → Byte
  | .secure => 0x00
  | .clear => 0x01

/-- State codes of a unit (R230, R231). -/
def UnitState.code : UnitState → Byte
  | .locked => 0x00
  | .opened => 0x01
  | .closing => 0x02
  | .erasing => 0x03

/-- Causes of UNIT_LOCKED (R229). -/
def CloseCause.code : CloseCause → Byte
  | .lockKey => 0x00
  | .lockCommand => 0x01
  | .idle => 0x02
  | .suspend => 0x03
  | .temperature => 0x04
  | .enclosure => 0x05
  | .erase => 0x06
  | .internal => 0x07

/-- Reasons of ENROLL_FAILED (R229). -/
def AbandonReason.code : AbandonReason → Byte
  | .short => 0x00
  | .mismatch => 0x01
  | .pinInUse => 0x02
  | .timeout => 0x03
  | .lock => 0x04
  | .alarm => 0x05
  | .session => 0x06
  | .removed => 0x07

/-- Details of TAMPER_CLEAR (R229). -/
def ClearDetail.code : ClearDetail → Byte
  | .inRange => 0x00
  | .disabled => 0x01
  | .cleared => 0x02

/-- Operations in LINK_RESET (R229). -/
def MediaOp.code : MediaOp → Byte
  | .read => 0x00
  | .write => 0x01
  | .trim => 0x02
  | .patternWrite => 0x03
  | .flush => 0x04

/-- Method codes (R227, R231). -/
def EraseMethod.code : EraseMethod → Byte
  | .keyReplace => 0x01
  | .trim => 0x02
  | .overwrite => 0x03

/-- Entry Controller states (R230). -/
def EntryCtl.code : EntryCtl → Byte
  | .disabled => 0x00
  | .idle => 0x01
  | .collecting => 0x02
  | .verifying => 0x03
  | .penalty => 0x04
  | .replugWait => 0x05
  | .enrollFirst => 0x06
  | .enrollConfirm => 0x07

/-- Actual rail states (R230). -/
def RailState.code : RailState → Byte
  | .off => 0x00
  | .ramping => 0x01
  | .on => 0x02
  | .fault => 0x03
  | .failed => 0x04

/-- Media Link states (R230). -/
def LinkState.code : LinkState → Byte
  | .sizing => 0x00
  | .ready => 0x01
  | .resetting => 0x02
  | .absent => 0x03

/-- Engine states (R230). -/
def EngineState.code : EngineState → Byte
  | .idle => 0x00
  | .running => 0x01
  | .halted => 0x02

/-- Phases (R230). -/
def ErasePhase.code : ErasePhase → Byte
  | .pass n => byteOf n
  | .verify => 0x05

/-- Key slot states (R230). -/
def KeySlotState.code : KeySlotState → Byte
  | .empty => 0x00
  | .loaded => 0x01
  | .draining => 0x02

/-- Enclosure actions (R227). -/
def EnclosureAction.code : EnclosureAction → Byte
  | .lockOnly => 0x00
  | .zeroize => 0x01

/-- An absent one-byte field is FFh (R224). -/
def optByte {α : Type} (code : α → Byte) : Option α → Byte
  | some a => code a
  | none => 0xFF

/-! ## Status record (R228) -/

/-- The 16 bytes of a status record. -/
def StatusRecord.bytes (r : StatusRecord) : List Byte :=
  [r.tag, r.status.code, r.detail.code] ++ reserved 1 ++ fieldOf 4 r.residue ++ reserved 8

/-! ## Event entries (R229) -/

/-- The kind code, the unit, the slot and the detail of an entry. -/
def Event.fields : Event → Byte × Option UnitNo × Option SlotNo × List Byte
  | .unitOpened u k m => (0x01, some u, some k, [m.code])
  | .unitLocked u k c => (0x02, some u, k, [c.code])
  | .unitBusy u k e => (0x03, some u, some k, [flagOf e])
  | .attemptFailed f => (0x04, none, none, [byteOf f])
  | .penaltyStart d => (0x05, none, none, fieldOf 2 d)
  | .replugRequired => (0x06, none, none, [])
  | .bruteEraseStart => (0x07, none, none, [])
  | .bruteEraseDone => (0x08, none, none, [])
  | .enrollDone k => (0x09, none, some k, [])
  | .enrollFailed k r => (0x0A, none, some k, [r.code])
  | .eraseProgress n => (0x0B, none, none, [byteOf n])
  | .eraseHalted u p o n => (0x0C, u, none, [optByte (fun q : Fin 32 => byteOf q.val) p, o.code, byteOf n])
  | .tamperAlarm c v => (0x0D, none, none, byteOf c.val :: fieldOf 2 v.toNat)
  | .tamperClear c d => (0x0E, none, none, [byteOf c.val, d.code])
  | .wpChanged on => (0x0F, none, none, [flagOf on])
  | .railFault lost n => (0x10, none, none, [flagOf lost, byteOf n])
  | .railFailed => (0x11, none, none, [])
  | .linkReset u op => (0x12, some u, none, [op.code])

/-- The 8 bytes of an event entry. -/
def Event.bytes (e : Event) : List Byte :=
  let (kind, u, k, detail) := e.fields
  [kind, optByte (fun v : UnitNo => byteOf v.val) u, optByte (fun v : SlotNo => byteOf v.val) k] ++ padTo 5 detail

/-- The content of EVENT READ (R225). -/
def eventReadContent (entries : List Event) (lost : Bool) : List Byte :=
  [byteOf entries.length, flagOf lost] ++ reserved 6 ++ entries.flatMap Event.bytes

/-! ## The policy block (R227) -/

/-- The five bytes of a channel. -/
def ChannelPolicy.bytes (c : ChannelPolicy) : List Byte := fieldOf 2 c.low ++ fieldOf 2 c.high ++ [flagOf c.enabled]

/-- The 32 bytes of a policy. -/
def Policy.bytes (p : Policy) : List Byte :=
  [byteOf p.attemptLimit, byteOf p.freeAttempts, byteOf p.replugPoint, byteOf p.baseDelay] ++ fieldOf 2 p.cap ++
    [byteOf p.minPin, byteOf p.adminIdle, byteOf p.threshold, byteOf p.delay] ++
    p.channels.toList.flatMap ChannelPolicy.bytes ++ [p.action.code] ++ reserved 1

/-! ## UNIT INFO (R215, R231) -/

/-- The mode and the opener are reported while OPEN or CLOSING (R1, R215). -/
def UnitRun.reported (r : UnitRun) : Bool := decide (r.state = .opened) || decide (r.state = .closing)

/-- The mode as reported: absent unless OPEN or CLOSING. -/
def UnitRun.modeByte (r : UnitRun) : Byte := if r.reported then optByte Mode.code r.mode else 0xFF

/-- The 17 label bytes: the length and the characters. -/
def labelBytes : Option (List Byte) → List Byte
  | none => absentField 17
  | some cs => byteOf cs.length :: padTo 16 cs

/-- The 16 marker bytes after the presence byte. -/
def markerBytes : Option EraseWork → List Byte
  | none => absentField 16
  | some w =>
    [w.method.code, flagOf w.range.isSome] ++
      (match w.range with
        | some r => fieldOf 4 r.start ++ fieldOf 4 r.count
        | none => absentField 8) ++
      [byteOf w.passes.length] ++ padTo 4 w.passes ++ [flagOf w.verify]

/-- The 53 bytes of UNIT INFO for a unit. -/
def State.unitInfoContent (s : State) (u : UnitNo) : List Byte :=
  match s.unitDef u with
  | none => 0x00 :: absentField 52
  | some d =>
    let r := s.unitRun u
    [0x01, d.kind.code, r.state.code, r.modeByte,
      if r.reported then optByte (fun k : SlotNo => byteOf k.val) r.opener else 0xFF] ++
      fieldOf 4 d.base ++ fieldOf 4 d.length ++ fieldOf 2 d.generation ++
      [flagOf d.honorWp, byteOf d.idleTimeout, flagOf d.lockOnSuspend, flagOf r.unusable] ++
      labelBytes d.label ++ [flagOf d.marker.isSome] ++ markerBytes d.marker

/-! ## STATUS (R213, R230) -/

/-- The device state code: 00h CONFIGURING, 01h READY, 02h FACTORY. -/
def State.deviceCode (s : State) : Byte := if s.configuring then 0x00 else if s.factory then 0x02 else 0x01

/-- The eight bytes of unit n: of an undefined one, every field but the first is absent, and the reserved byte is 00h. -/
def State.unitStatusBytes (s : State) (u : UnitNo) : List Byte :=
  match s.unitDef u with
  | none => 0x00 :: absentField 6 ++ reserved 1
  | some d =>
    let r := s.unitRun u
    [0x01, d.kind.code, r.state.code, r.modeByte] ++ fieldOf 2 d.generation ++ [flagOf r.unusable] ++ reserved 1

/-- The four bytes of a tamper channel. The alarm of channel 3 is the enclosure latch (R181). -/
def State.channelStatusBytes (s : State) (c : Fin 4) : List Byte :=
  fieldOf 2 (s.channel c).last.toNat ++
    [flagOf (s.channelPolicy c).enabled, flagOf (if c = 3 then s.reportedLatch else (s.channel c).alarm)]

/-- The penalty remaining in whole seconds: a value of 1 to the timer's length while the phase is PENALTY, free within
that range because the model keeps no clock (DESIGN CHOICE, notes/assumptions/4.md); 0 outside PENALTY. -/
def State.penaltyRemaining (s : State) : Nat :=
  match s.attempt.phase, s.attempt.penaltyTimer with
  | .penalty, some d => d - Config.penaltyElapsed s.draws % d
  | _, _ => 0

/-- M as STATUS gives it: 0 while SIZING or ABSENT. -/
def State.reportedCapacity (s : State) : Nat :=
  match s.link.state with
  | .sizing | .absent => 0
  | .ready | .resetting => s.link.capacity.getD 0

/-- Phase and sectors done at the current position: bytes 18 to 23. -/
def State.phaseBytes (s : State) : List Byte :=
  match s.currentDescriptor with
  | none => [0xFF] ++ reserved 1 ++ absentField 4
  | some d => [optByte ErasePhase.code d.phase] ++ reserved 1 ++ fieldOf 4 d.sectorsDone

/-- The 152 bytes of STATUS. -/
def State.statusContent (s : State) : List Byte :=
  [s.deviceCode, flagOf s.control.session, byteOf s.reportedFailed, s.entry.state.code] ++
    fieldOf 2 s.penaltyRemaining ++
    [flagOf s.scanner.switchOn, flagOf s.need, s.rail.state.code, s.link.state.code] ++
    fieldOf 4 s.reportedCapacity ++
    [s.erase.state.code, byteOf s.erase.current.val, byteOf s.erase.tail.val, flagOf s.erase.internal.isSome] ++
    s.phaseBytes ++
    [flagOf s.reportedLatch, byteOf s.events.entries.length, flagOf s.events.lost] ++ reserved 5 ++
    (List.finRange 8).flatMap s.unitStatusBytes ++
    (List.finRange 8).map (fun u => s.cipher.slots[u].state.code) ++
    (List.finRange 4).flatMap s.channelStatusBytes ++
    s.store.image.policy.bytes

end Sys2Proof.Machine
end

