-- ==== Sys2Proof/Machine/Operands.lean ====
section
/-! DEFINITION. The operands that the parameter blocks of management commands carry (R224, R226, R227). A reading answers
`none` where the command's own chapter refuses the content with INVALID. -/

namespace Sys2Proof.Machine

/-! ## Bytes -/

/-- The byte at an offset. -/
def byteAt (b : List Byte) (i : Nat) : Nat := (b.getD i 0).toNat

/-- The field of `n` bytes at an offset, least significant byte first (R224). -/
def fieldAt (b : List Byte) (i : Nat) : Nat → Nat
  | 0 => 0
  | n + 1 => byteAt b i + 256 * fieldAt b (i + 1) n

/-- A yes-or-no field (R224). -/
def yesNo : Nat → Option Bool
  | 0 => some false
  | 1 => some true
  | _ => none

/-- A unit number, none above 7. -/
def unitOf (n : Nat) : Option UnitNo := if h : n < 8 then some ⟨n, h⟩ else none

/-- A credential slot, none above 5. -/
def slotOf (n : Nat) : Option SlotNo := if h : n < 6 then some ⟨n, h⟩ else none

/-- A position of the Erase List, none above 31. -/
def positionOf (n : Nat) : Option (Fin 32) := if h : n < 32 then some ⟨n, h⟩ else none

/-- The unit a record names, none above 7 (R9). -/
def recordUnit (h : RecordHead) : Option UnitNo := unitOf h.unit.toNat

/-- The tag a record carries, none above 15 (R21). -/
def recordTag (h : RecordHead) : Option Tag :=
  if p : h.tag.toNat < 16 then some ⟨h.tag.toNat, p⟩ else none

/-- The fixed parameter length of a management op (R226). -/
def Op.paramLength : Op → Nat
  | .unitDefine => 30
  | .unitDelete => 1
  | .grantSet => 18
  | .credentialRemove => 1
  | .enroll => 2
  | .policySet => 32
  | .lock => 1
  | .eraseListWrite => 18
  | .eraseTail => 1
  | .status | .eventRead | .eraseAbort | .eraseClear | .tamperClear => 0
  | .read | .write | .trim | .sync | .unitInfo => 0

/-- The management ops that need the admin session or FACTORY (R210). -/
def Op.gated : Op → Bool
  | .unitDefine | .unitDelete | .grantSet | .credentialRemove | .enroll | .policySet | .eraseListWrite | .eraseTail
  | .eraseAbort | .eraseClear | .tamperClear => true
  | .status | .eventRead | .lock | .read | .write | .trim | .sync | .unitInfo => false

/-! ## UNIT DEFINE (R14, R227) -/

/-- The kind code of R227. -/
def kindOf : Nat → Option UnitKind
  | 0 => some .secure
  | 1 => some .clear
  | _ => none

/-- The label: absent for length 0; none for a length above 16 or a character code outside 32..126. -/
def labelOf (b : List Byte) : Option (Option (List Byte)) :=
  let n := byteAt b 13
  let chars := (b.drop 14).take n
  if n = 0 then some none
  else if n ≤ 16 && chars.all (fun c => decide (32 ≤ c.toNat) && decide (c.toNat ≤ 126)) then some (some chars)
  else none

/-- The unit and the new record, with generation 0, no marker and the idle timeout clamped to 240. -/
def defineOf (b : List Byte) : Option (UnitNo × UnitDef) := do
  let u ← unitOf (byteAt b 0)
  let kind ← kindOf (byteAt b 1)
  let length := fieldAt b 6 4
  let honorWp ← yesNo (byteAt b 10)
  let lockOnSuspend ← yesNo (byteAt b 12)
  let label ← labelOf b
  if length < 8 then none
  else
    some (u, { kind, base := fieldAt b 2 4, length, generation := 0, honorWp, idleTimeout := min 240 (byteAt b 11),
               lockOnSuspend, label, marker := none })

/-! ## GRANT SET (R106, R227) and ENROLL (R101) -/

/-- The mode code of R227. -/
def modeOf : Nat → Option Mode
  | 0 => some .readOnly
  | 1 => some .readWrite
  | _ => none

/-- Grant entry n, at offset 2 + 2n. -/
def grantOf (b : List Byte) (n : Nat) : Option Grant := do
  let u ← unitOf (byteAt b (2 + 2 * n))
  let m ← modeOf (byteAt b (3 + 2 * n))
  some { unit := u, mode := m }

/-- The slot and the grant list. -/
def grantsOf (b : List Byte) : Option (SlotNo × List Grant) := do
  let k ← slotOf (byteAt b 0)
  if 8 < byteAt b 1 then none
  else
    let gs ← (List.range (byteAt b 1)).mapM (grantOf b)
    if (gs.map Grant.unit).Nodup then some (k, gs) else none

/-- The slot 1..5 and the uses-left value, 0 for unlimited and only 0 for slot 5. -/
def enrollOf (b : List Byte) : Option (SlotNo × Nat) := do
  let k ← slotOf (byteAt b 0)
  if k = 0 then none
  else if k = 5 && byteAt b 1 ≠ 0 then none
  else some (k, byteAt b 1)

/-! ## POLICY SET (R108, R191, R216, R227) -/

/-- Lower to `hi`, raise to `lo`; the bounds are in order wherever this is used. -/
def clampTo (lo hi n : Nat) : Nat := max lo (min hi n)

/-- Channel n of the block. A threshold above 4,095, a low one above the high one, or an enable other than yes or no is
refused (R191). -/
def channelPolicyOf (b : List Byte) (n : Nat) : Option ChannelPolicy := do
  let low := fieldAt b (10 + 5 * n) 2
  let high := fieldAt b (12 + 5 * n) 2
  let enabled ← yesNo (byteAt b (14 + 5 * n))
  if 4095 < low || 4095 < high || high < low then none else some { low, high, enabled }

/-- The enclosure action code of R227. -/
def actionOf : Nat → Option EnclosureAction
  | 0 => some .lockOnly
  | 1 => some .zeroize
  | _ => none

/-- The refusals of R108, on the clamped set, with the present F. -/
def attemptFieldsFit (f l q p minPin : Nat) : Bool :=
  decide (4 ≤ l) && decide (l ≤ 50) && decide (1 ≤ q) && decide (q + 1 < l) && decide (q + 1 ≤ p) && decide (p ≤ l - 1) &&
    decide (f < l) && decide (6 ≤ minPin) && decide (minPin ≤ 12)

/-- The policy that a block sets, clamped in the first pass of R216 against the stored threshold; none when the second
pass refuses it with the present F. -/
def policyOf (stored : Policy) (f : Nat) (b : List Byte) : Option Policy := do
  let c0 ← channelPolicyOf b 0
  let c1 ← channelPolicyOf b 1
  let c2 ← channelPolicyOf b 2
  let c3 ← channelPolicyOf b 3
  let action ← actionOf (byteAt b 30)
  let base := clampTo 1 60 (byteAt b 3)
  let l := byteAt b 0
  let q := byteAt b 1
  let p := byteAt b 2
  let minPin := byteAt b 6
  if attemptFieldsFit f l q p minPin then
    some { attemptLimit := l, freeAttempts := q, replugPoint := p, baseDelay := base,
           cap := clampTo base 3600 (fieldAt b 4 2), minPin, adminIdle := clampTo 1 60 (byteAt b 7),
           threshold := if byteAt b 8 = 0 then stored.threshold else min 32 (byteAt b 8), delay := byteAt b 9,
           channels := #v[c0, c1, c2, c3], action }
  else none

/-! ## LOCK (R148) -/

/-- The mask names a unit: bit n, from the least significant bit (R226). -/
def maskNames (b : List Byte) (u : UnitNo) : Bool := (byteAt b 0).testBit u.val

/-- The mask names all eight units. -/
def maskFull (b : List Byte) : Bool := decide (byteAt b 0 = 255)

/-! ## ERASE LIST WRITE (R159, R227) -/

/-- The method code of R227. -/
def methodOf : Nat → Option EraseMethod
  | 1 => some .keyReplace
  | 2 => some .trim
  | 3 => some .overwrite
  | _ => none

/-- Passes and verify fit the method: 1 to 4 passes for OVERWRITE, none and no verify for the others (R159). -/
def passesFit (m : EraseMethod) (passes : Nat) (verify : Bool) : Bool :=
  match m with
  | .overwrite => decide (1 ≤ passes) && decide (passes ≤ 4)
  | .keyReplace | .trim => decide (passes = 0) && !verify

/-- The position and the descriptor, fresh: done no, outcome and phase absent, sectors done 0. -/
def descriptorOf (b : List Byte) : Option (Fin 32 × Descriptor) := do
  let p ← positionOf (byteAt b 0)
  let u ← unitOf (byteAt b 1)
  let method ← methodOf (byteAt b 2)
  let ranged ← yesNo (byteAt b 3)
  let verify ← yesNo (byteAt b 17)
  let n := byteAt b 12
  if passesFit method n verify then
    some (p, { unit := u,
               work := { method, range := if ranged then some ⟨fieldAt b 4 4, fieldAt b 8 4⟩ else none,
                         passes := (b.drop 13).take n, verify },
               done := false, outcome := none, phase := none, sectorsDone := 0 })
  else none

end Sys2Proof.Machine
end

