-- ==== Sys2Proof/Decode.lean ====
section
/-! DEFINITION. From bits to commands. The opcode table gives no row any bits, so no word spells a command there. What the
manual does lay out is the 32-byte command record (R224, R226): reading one, and writing one. -/

namespace Sys2Proof

/-- The command that a word spells by the bits of spec/opcode_table.json: none, since no row has any. -/
def decodeTableWord (_nbits _w : Nat) : Option Instr := none

namespace Machine

/-- The op of a code (R226). -/
def opOf (code : Byte) : Option Op :=
  match code.toNat with
  | 0x01 => some .read
  | 0x02 => some .write
  | 0x03 => some .trim
  | 0x04 => some .sync
  | 0x05 => some .unitInfo
  | 0x40 => some .status
  | 0x41 => some .eventRead
  | 0x42 => some .unitDefine
  | 0x43 => some .unitDelete
  | 0x44 => some .grantSet
  | 0x45 => some .credentialRemove
  | 0x46 => some .enroll
  | 0x47 => some .policySet
  | 0x48 => some .lock
  | 0x49 => some .eraseListWrite
  | 0x4A => some .eraseTail
  | 0x4B => some .eraseAbort
  | 0x4C => some .eraseClear
  | 0x4D => some .tamperClear
  | _ => none

/-- The fields of a command record that are read: the flags byte and bytes 12 to 31 are not (R224, R226). -/
def recordHead (b : List Byte) : RecordHead :=
  { tag := b.getD 0 0, unit := b.getD 2 0, lba := BitVec.ofNat 32 (fieldAt b 4 4),
    count := BitVec.ofNat 16 (fieldAt b 8 2), paramLength := BitVec.ofNat 16 (fieldAt b 10 2) }

/-- The command of a record of a known op, with the parameter block that follows a management record. -/
def recordCommand (op : Op) (h : RecordHead) (block : List Byte) : Instr :=
  match op with
  | .read => .read h
  | .write => .write h
  | .trim => .trim h
  | .sync => .sync h
  | .unitInfo => .unitInfo h
  | .status => .status h block
  | .eventRead => .eventRead h block
  | .unitDefine => .unitDefine h block
  | .unitDelete => .unitDelete h block
  | .grantSet => .grantSet h block
  | .credentialRemove => .credentialRemove h block
  | .enroll => .enroll h block
  | .policySet => .policySet h block
  | .lock => .lock h block
  | .eraseListWrite => .eraseListWrite h block
  | .eraseTail => .eraseTail h block
  | .eraseAbort => .eraseAbort h block
  | .eraseClear => .eraseClear h block
  | .tamperClear => .tamperClear h block

/-- The command that a bulk-out transfer is, where a record is expected (R21, R226): any length other than 32 bytes is
discarded, and a code outside the nineteen is unknown. -/
def transferCommand (b block : List Byte) : Instr :=
  if b.length = 32 then
    match opOf (b.getD 1 0) with
    | some op => recordCommand op (recordHead b) block
    | none => .unknownOp (b.getD 1 0) (recordHead b)
  else .discardedTransfer b.length

/-- The 32 bytes of a record with an op code, its unread bytes 00h. -/
def recordBytes (code : Byte) (h : RecordHead) : List Byte :=
  [h.tag, code, h.unit, 0] ++ fieldOf 4 h.lba.toNat ++ fieldOf 2 h.count.toNat ++ fieldOf 2 h.paramLength.toNat ++ reserved 20

/-- The record and the parameter block that a command is sent as; none for a command that is no record. -/
def encodeRecord : Instr → Option (List Byte × List Byte)
  | .read h => some (recordBytes 0x01 h, [])
  | .write h => some (recordBytes 0x02 h, [])
  | .trim h => some (recordBytes 0x03 h, [])
  | .sync h => some (recordBytes 0x04 h, [])
  | .unitInfo h => some (recordBytes 0x05 h, [])
  | .status h b => some (recordBytes 0x40 h, b)
  | .eventRead h b => some (recordBytes 0x41 h, b)
  | .unitDefine h b => some (recordBytes 0x42 h, b)
  | .unitDelete h b => some (recordBytes 0x43 h, b)
  | .grantSet h b => some (recordBytes 0x44 h, b)
  | .credentialRemove h b => some (recordBytes 0x45 h, b)
  | .enroll h b => some (recordBytes 0x46 h, b)
  | .policySet h b => some (recordBytes 0x47 h, b)
  | .lock h b => some (recordBytes 0x48 h, b)
  | .eraseListWrite h b => some (recordBytes 0x49 h, b)
  | .eraseTail h b => some (recordBytes 0x4A h, b)
  | .eraseAbort h b => some (recordBytes 0x4B h, b)
  | .eraseClear h b => some (recordBytes 0x4C h, b)
  | .tamperClear h b => some (recordBytes 0x4D h, b)
  | .unknownOp code h => some (recordBytes code h, [])
  | _ => none

end Machine

end Sys2Proof
end

