-- ==== Sys2Proof/Machine/Ops.lean ====
section
/-! DEFINITION. The shared operations: one named update for each field of State, the placement of events, the image and
write requests of the Configuration Store, the random source, the indicators and the rail's following of need. -/

namespace Sys2Proof.Machine

/-! ## Updates -/

/-- The state with the queue of commands that wait replaced. -/
def State.withPending (s : State) (pending : List Instr) : State := { s with pending := pending }

/-- The state with supply and start-up replaced. -/
def State.withPower (s : State) (power : Power) : State := { s with power := power }

/-- The state with the Upstream Port replaced. -/
def State.withPort (s : State) (port : Port) : State := { s with port := port }

/-- The state with the Command Queue replaced. -/
def State.withQueue (s : State) (queue : List QueueEntry) : State := { s with queue := queue }

/-- The state with the media slots replaced. -/
def State.withSlots (s : State) (slots : Vector (Option MediaSlot) 4) : State := { s with slots := slots }

/-- The state with the Media Link replaced. -/
def State.withLink (s : State) (link : Link) : State := { s with link := link }

/-- The state with the Rail Controller replaced. -/
def State.withRail (s : State) (rail : Rail) : State := { s with rail := rail }

/-- The state with the unit fields that are not persisted replaced. -/
def State.withUnits (s : State) (units : Vector UnitRun 8) : State := { s with units := units }

/-- The state with Unit Control replaced. -/
def State.withControl (s : State) (control : UnitControl) : State := { s with control := control }

/-- The state with the Cipher Unit replaced. -/
def State.withCipher (s : State) (cipher : Cipher) : State := { s with cipher := cipher }

/-- The state with the enrollment under way replaced. -/
def State.withEnrolling (s : State) (enrolling : Option Enrolling) : State := { s with enrolling := enrolling }

/-- The state with Attempt Control replaced. -/
def State.withAttempt (s : State) (attempt : AttemptControl) : State := { s with attempt := attempt }

/-- The state with the Keypad Scanner replaced. -/
def State.withScanner (s : State) (scanner : Scanner) : State := { s with scanner := scanner }

/-- The state with the Entry Controller replaced. -/
def State.withEntry (s : State) (entry : Entry) : State := { s with entry := entry }

/-- The state with the Indicator Driver replaced. -/
def State.withLeds (s : State) (leds : Indicators) : State := { s with leds := leds }

/-- The state with the Erase Engine replaced. -/
def State.withErase (s : State) (erase : EraseEngine) : State := { s with erase := erase }

/-- The state with the Tamper Monitor replaced. -/
def State.withTamper (s : State) (tamper : Tamper) : State := { s with tamper := tamper }

/-- The state with the Configuration Store replaced. -/
def State.withStore (s : State) (store : Store) : State := { s with store := store }

/-- The state with the Management Handler replaced. -/
def State.withHandler (s : State) (handler : Option Tag) : State := { s with handler := handler }

/-- The state with the Event Queue replaced. -/
def State.withEvents (s : State) (events : EventQueue) : State := { s with events := events }

/-- The state with the count of free values drawn replaced. -/
def State.withDraws (s : State) (draws : Nat) : State := { s with draws := draws }

/-- The state with the count of ages given replaced. -/
def State.withClock (s : State) (clock : Nat) : State := { s with clock := clock }

/-! ## Times

The lengths that timers start with (DESIGN CHOICE, notes/assumptions/1.md). -/

/-- The ramp timer, in ms (R59). -/
def rampTime : Nat := 5

/-- The retry timer, in ms (R60, R61). -/
def retryTime : Nat := 50

/-- The switch-off timer, in ms (R62). -/
def switchOffTime : Nat := 2000

/-- The link reset timer, in ms (R51). -/
def resetTime : Nat := 20

/-- The inter-key timer, in s (R117). -/
def interKeyTime : Nat := 10

/-- The enrollment window, in s (R101, R102). -/
def enrollTime : Nat := 60

/-- The hold timer, in s (R114). -/
def holdTime : Nat := 3

/-- The rest timer, in s (R133). -/
def restTime : Nat := 30

/-- The media timeout of an operation, in ms (R48). -/
def MediaOp.timeout : MediaOp → Nat
  | .read => 100
  | .write => 500
  | .trim => 2000
  | .patternWrite => 500
  | .flush => 500

/-! ## Event Queue -/

/-- A block places an entry: appended when fewer than 16 are held, with attention when none were; dropped otherwise, with
the lost flag (R219, R221). -/
def EventQueue.place (q : EventQueue) (e : Event) : EventQueue :=
  if 16 ≤ q.entries.length then { q with lost := true }
  else { q with entries := q.entries ++ [e], attention := q.attention || q.entries.isEmpty }

/-- Place an entry in the Event Queue. -/
def State.place (s : State) (e : Event) : State := s.withEvents (s.events.place e)

/-! ## Records: the image and write requests -/

/-- Replace the image (R195). -/
def State.withImage (s : State) (r : Records) : State := s.withStore { s.store with image := r }

/-- Change a unit record in the image. -/
def State.setUnitDef (s : State) (u : UnitNo) (d : Option UnitDef) : State :=
  s.withImage { s.store.image with units := s.store.image.units.set u d }

/-- Change a key record in the image. -/
def State.setKey (s : State) (u : UnitNo) (k : Option CipherKey) : State :=
  s.withImage { s.store.image with keys := s.store.image.keys.set u k }

/-- Change a credential record in the image. -/
def State.setCred (s : State) (k : SlotNo) (c : CredRecord) : State :=
  s.withImage { s.store.image with creds := s.store.image.creds.set k c }

/-- Change the policy record in the image. -/
def State.setPolicy (s : State) (p : Policy) : State := s.withImage { s.store.image with policy := p }

/-- Change the attempt record in the image. -/
def State.setAttemptRecord (s : State) (a : AttemptRecord) : State := s.withImage { s.store.image with attempt := a }

/-- Change the tamper latch record in the image. -/
def State.setLatchRecord (s : State) (l : LatchRecord) : State := s.withImage { s.store.image with latch := l }

/-- A record as the image holds it (R195). -/
def Records.content (r : Records) : RecordId → RecordContent
  | .credential k => .credential k r.creds[k]
  | .unit u => .unit u r.units[u]
  | .key u => .key u r.keys[u]
  | .policy => .policy r.policy
  | .attempt => .attempt r.attempt
  | .latch => .latch r.latch

/-- Write a record's content. -/
def Records.write (r : Records) : RecordContent → Records
  | .credential k c => { r with creds := r.creds.set k c }
  | .unit u d => { r with units := r.units.set u d }
  | .key u k => { r with keys := r.keys.set u k }
  | .policy p => { r with policy := p }
  | .attempt a => { r with attempt := a }
  | .latch l => { r with latch := l }

/-- The request is for the record. -/
def WriteRequest.isOf (w : WriteRequest) (id : RecordId) : Bool := decide (w.content.id = id)

/-- A request joins the pending set at the end, or replaces the content held for its record at its earlier place, whose
requesters then wait for it too (R197, R199). -/
def joinPending (set : List WriteRequest) (r : WriteRequest) : List WriteRequest :=
  if set.any (fun w => w.isOf r.content.id) then
    set.map fun w => if w.isOf r.content.id then { content := r.content, waiters := w.waiters ++ r.waiters } else w
  else set ++ [r]

/-- Request the write of a record as the image holds it, for those who wait for its completion. -/
def State.requestWrite (s : State) (id : RecordId) (waiters : List Waiter) : State :=
  s.withStore { s.store with pendingSet := joinPending s.store.pendingSet { content := s.store.image.content id, waiters } }

/-! ## The random source and the order of age -/

/-- The next key of the random source (R16, R78). -/
def State.freshKey (s : State) : CipherKey := Config.freshKey s.draws

/-- The next salt of the random source (R104). -/
def State.freshSalt (s : State) : Salt := Config.freshSalt s.draws

/-- One free value has been drawn. -/
def State.drawn (s : State) : State := s.withDraws (s.draws + 1)

/-- One age has been given. -/
def State.aged (s : State) : State := s.withClock (s.clock + 1)

/-! ## Units, slots, entries -/

/-- Change a unit's fields that are not persisted. -/
def State.setUnit (s : State) (u : UnitNo) (r : UnitRun) : State := s.withUnits (s.units.set u r)

/-- Change a key slot. -/
def State.setKeySlot (s : State) (u : UnitNo) (k : KeySlot) : State :=
  s.withCipher { s.cipher with slots := s.cipher.slots.set u k }

/-- Change a media slot. -/
def State.setSlot (s : State) (n : Fin 4) (m : Option MediaSlot) : State := s.withSlots (s.slots.set n m)

/-- Change a read buffer. -/
def State.setBuffer (s : State) (n : Fin 4) (b : Option ReadBuffer) : State :=
  s.withPort { s.port with readBuffers := s.port.readBuffers.set n b }

/-- Free the read buffer of a slot, where it has one. -/
def State.freeBufferOf (s : State) (m : MediaSlot) : State :=
  match m.buffer with
  | some n => s.setBuffer n none
  | none => s

/-- Change the queue entry of a tag. -/
def State.updateEntry (s : State) (t : Tag) (f : QueueEntry → QueueEntry) : State :=
  s.withQueue (s.queue.map fun e => if e.tag = t then f e else e)

/-- Remove the queue entry of a tag. -/
def State.dropEntry (s : State) (t : Tag) : State := s.withQueue (s.queue.filter fun e => decide (e.tag ≠ t))

/-- Change a channel record. -/
def State.setChannel (s : State) (c : Fin 4) (k : Channel) : State :=
  s.withTamper { s.tamper with channels := s.tamper.channels.set c k }

/-! ## Indicators -/

/-- A standing request stands (R130). The two kinds of feedback are transients and stand no longer than their pattern. -/
def State.stands (s : State) : LedRequest → Bool
  | .failFeedback => s.leds.fail
  | .okFeedback => decide (s.leds.green = some .ok)
  | .pulseFeedback => decide (s.leds.green = some .pulse)
  | .latch => s.latch
  | .erasure => s.anyErasing || s.erase.internal.isSome
  | .attemptWait => decide (s.entry.state = .penalty) || decide (s.entry.state = .replugWait)
  | .session => s.control.session
  | .unitOpen => s.anyOpen
  | .rest =>
    !(s.latch || s.anyErasing || s.erase.internal.isSome || decide (s.entry.state = .penalty) ||
      decide (s.entry.state = .replugWait) || s.control.session || s.anyOpen)

/-- The requests of an LED, highest level first (R131). -/
def ledRequests : Led → List LedRequest
  | .red => [.failFeedback, .latch, .attemptWait, .rest]
  | .green => [.okFeedback, .pulseFeedback, .unitOpen]
  | .blue => [.erasure, .session]

/-- The request an LED shows: its highest one, and in standby the tamper latch alone (R131, R134;
DEDUCED, notes/assumptions/19.md). -/
def State.winner (s : State) (l : Led) : Option LedRequest :=
  if s.port.standby then (ledRequests l).find? fun r => decide (r = .latch) && s.stands r
  else (ledRequests l).find? s.stands

/-- A display takes its winner: a request that gains the LED starts from its beginning (R129, R131). -/
def Display.take (d : Display) (w : Option LedRequest) : Display :=
  if d.shown = w then d else { shown := w, phase := 0 }

/-- Every arbiter chooses again (R131). -/
def State.refreshLeds (s : State) : State :=
  s.withLeds { s.leds with redDisplay := s.leds.redDisplay.take (s.winner .red),
                           greenDisplay := s.leds.greenDisplay.take (s.winner .green),
                           blueDisplay := s.leds.blueDisplay.take (s.winner .blue) }

/-- FAIL is raised on red and replaces a running transient (R130, R132). -/
def State.showFail (s : State) : State :=
  s.withLeds { s.leds with fail := true,
                           redDisplay := if s.port.standby then s.leds.redDisplay else ⟨some .failFeedback, 0⟩ }

/-- OK is raised on green and replaces a running transient. -/
def State.showOk (s : State) : State :=
  s.withLeds { s.leds with green := some .ok,
                           greenDisplay := if s.port.standby then s.leds.greenDisplay else ⟨some .okFeedback, 0⟩ }

/-- PULSE is raised on green and replaces a running transient. -/
def State.showPulse (s : State) : State :=
  s.withLeds { s.leds with green := some .pulse,
                           greenDisplay := if s.port.standby then s.leds.greenDisplay else ⟨some .pulseFeedback, 0⟩ }

/-- The six patterns (R129). -/
inductive LedPattern where
  | on
  | slow
  | fast
  | pulse
  | fail
  | ok
deriving DecidableEq, Repr

/-- The pattern of a request (R130). -/
def LedRequest.pattern : LedRequest → LedPattern
  | .failFeedback => .fail
  | .okFeedback => .ok
  | .pulseFeedback => .pulse
  | .latch => .fast
  | .erasure => .fast
  | .attemptWait => .slow
  | .session => .on
  | .unitOpen => .on
  | .rest => .on

/-- The display of an LED. -/
def Indicators.display (i : Indicators) : Led → Display
  | .red => i.redDisplay
  | .green => i.greenDisplay
  | .blue => i.blueDisplay

/-- An LED is lit: in an even phase of SLOW, FAST and FAIL, throughout ON, PULSE and OK, and for the rest request while
the rest timer runs (R129, R133). -/
def State.lit (s : State) (l : Led) : Bool :=
  match (s.leds.display l).shown with
  | none => false
  | some r =>
    match r.pattern with
    | .on => decide (r ≠ .rest) || s.leds.restTimer.isSome
    | .pulse | .ok => true
    | .slow | .fast | .fail => decide ((s.leds.display l).phase % 2 = 0)

/-! ## The rail follows need -/

/-- What need's presence or absence changes in the rail: a switched-off rail ramps when need is present (R59), the
switch-off timer of a rail that is ON starts when need is absent and stops when it is present (R62). -/
def Rail.follow (r : Rail) (need : Bool) : Rail :=
  match r.state with
  | .off => if need then { r with state := .ramping, rampTimer := some rampTime } else r
  | .on =>
    if need then { r with switchOffTimer := none }
    else if r.switchOffTimer.isNone then { r with switchOffTimer := some switchOffTime } else r
  | .ramping | .fault | .failed => r

/-- The rail follows need as it stands (R58). -/
def State.followNeed (s : State) : State := s.withRail (s.rail.follow s.need)

/-! ## The meaning of a command -/

/-- A command acts on a part with VBUS and changes nothing on one without it (DESIGN CHOICE, notes/assumptions/7.md). -/
def State.act (s : State) (f : State → State) : Host.Outcome State Fault Refusal :=
  .next (if s.power.vbus then f s else s)

end Sys2Proof.Machine
end

