-- ==== Sys2Proof/Machine/Path.lean ====
section
/-! DEFINITION. The command path: records at arrival, admission, the Command Queue, the results of media operations, and
the commands of a closing unit (02_the_command_path.md), with the sector transform where data passes the Cipher Unit. -/

namespace Sys2Proof.Machine

/-! ## Entries that end -/

/-- A verdict with detail none. -/
def Verdict.plain (st : Status) : Verdict := { status := st, detail := .none }

/-- A WRITE whose entry has ended leaves the rest of its data stage to be taken and discarded (R22). -/
def State.releaseStage (s : State) : State :=
  match s.port.bulkOut with
  | .writeStage t _ =>
    match s.entryOf t with
    | some e => if e.state = .ending then s.withPort { s.port with bulkOut := .discarding } else s
    | none => s
  | .free | .discarding => s

/-- An entry becomes ENDING with its verdict (R25). -/
def State.endEntry (s : State) (t : Tag) (v : Verdict) : State :=
  (s.updateEntry t fun e => { e with state := .ending, verdict := some v }).releaseStage

/-- The verdict that commands of a unit end with while it is CLOSING or claimed: LOCKED for a SECURE unit that is not
OPEN, ERASING for a CLEAR one that is ERASING (R42 to R44). -/
def State.closingStatus (s : State) (u : UnitNo) : Option Status :=
  match s.unitDef u with
  | none => none
  | some d =>
    match d.kind with
    | .secure => if s.unitState u = .opened then none else some .locked
    | .clear => if s.unitState u = .erasing then some .erasing else none

/-! ## Commands of a closing unit (R42, R44) -/

/-- Buffered data of the command waits to be sent. -/
def State.hasBuffered (s : State) (t : Tag) : Bool :=
  s.port.readBuffers.toList.any fun b =>
    match b with
    | some r => decide (r.tag = t) && r.data.isSome
    | none => false

/-- What a close or claim makes of one entry of the unit. -/
def State.closedEntry (s : State) (st : Status) (e : QueueEntry) : QueueEntry :=
  if e.state = .queued || (decide (e.state = .active) && !s.hasOutstanding e.tag) then
    { e with state := .ending, verdict := some (.plain st) }
  else if decide (e.state = .ending) && e.isGood && s.hasBuffered e.tag then { e with verdict := some (.plain st) }
  else e

/-- A tag belongs to a storage entry of the unit. -/
def State.tagOfUnit (s : State) (u : UnitNo) (t : Tag) : Bool :=
  s.queue.any fun e => decide (e.tag = t) && e.names u && e.op.usesMedia

/-- Buffered data of the unit's READs is discarded. -/
def State.discardBuffered (s : State) (u : UnitNo) : State :=
  s.withPort { s.port with readBuffers := s.port.readBuffers.map fun b =>
    match b with
    | some r => if r.data.isSome && s.tagOfUnit u r.tag then none else some r
    | none => none }

/-- The Dispatcher ends the unit's commands at a close or claim. -/
def State.endCommands (s : State) (u : UnitNo) (st : Status) : State :=
  ((s.withQueue (s.queue.map fun e => if e.names u && e.op.usesMedia then s.closedEntry st e else e)).discardBuffered u).releaseStage

/-! ## The sector transform (R72 to R75) -/

/-- Sectors from an LBA on, enciphered under a key and a generation. -/
def encipher (k : CipherKey) (g lba : Nat) (data : List Sector) : List Sector :=
  data.mapIdx fun j x => Config.sectorTransform k { generation := g, lba := lba + j } x

/-- Sectors from an LBA on, deciphered under a key and a generation. -/
def decipher (k : CipherKey) (g lba : Nat) (data : List Sector) : List Sector :=
  data.mapIdx fun j x => (Config.sectorTransform k { generation := g, lba := lba + j }).symm x

/-- The unit-relative LBA at which a segment of a command starts (R35). -/
def QueueEntry.segmentLba (e : QueueEntry) (k : Nat) : Nat := e.head.lba.toNat + 256 * (k - 1)

/-- The sectors of a WRITE segment as the slot's buffer holds them: enciphered under the key slot of a SECURE unit,
unchanged for a CLEAR one (R37, R73; a SECURE unit with no key in its slot: DESIGN CHOICE, notes/assumptions/23.md). -/
def State.intakeData (s : State) (u : UnitNo) (lba : Nat) (data : List Sector) : List Sector :=
  match s.cipher.slots[u].key with
  | some k => if s.isSecure u then encipher k (s.generation u) lba data else data
  | none => data

/-- The sectors of a completed READ segment as they reach the read buffer: deciphered for a SECURE unit (R38, R74). -/
def State.readData (s : State) (u : UnitNo) (lba : Nat) (data : List Sector) : List Sector :=
  match s.cipher.slots[u].key with
  | some k => if s.isSecure u then decipher k (s.generation u) lba data else data
  | none => data

/-! ## Results of host operations (R38 to R40, R43, R56) -/

/-- The results of R56. -/
inductive MediaResult where
  | ok (data : List Sector)
  | failed
  | timeout
  | reset
  | power
deriving DecidableEq, Repr

/-- The verdict of a result. -/
def MediaResult.verdict : MediaResult → Verdict
  | .ok _ => .plain .good
  | .failed => { status := .mediaError, detail := .failed }
  | .timeout => { status := .mediaError, detail := .timeout }
  | .reset => { status := .mediaError, detail := .reset }
  | .power => { status := .mediaError, detail := .power }

/-- Data of a READ segment reaches its buffer. -/
def State.fillBuffer (s : State) (m : MediaSlot) (t : Tag) (data : List Sector) : State :=
  match m.buffer with
  | some n => s.setBuffer n (some { tag := t, segment := m.segment, data := some data, sent := 0 })
  | none => s

/-- A READ segment of the host completes (R38, R39, R43). -/
def State.readResult (s : State) (m : MediaSlot) (e : QueueEntry) (r : MediaResult) : State :=
  match s.closingStatus m.unit, r with
  | some st, _ => (s.freeBufferOf m).endEntry e.tag (.plain st)
  | none, .ok data =>
    let s' := s.fillBuffer m e.tag (s.readData m.unit (e.segmentLba m.segment) data)
    if e.segments ≤ m.segment then s'.endEntry e.tag (.plain .good) else s'
  | none, r => (s.freeBufferOf m).endEntry e.tag r.verdict

/-- A WRITE or TRIM segment of the host completes (R39, R43). -/
def State.writeResult (s : State) (m : MediaSlot) (e : QueueEntry) (r : MediaResult) : State :=
  match r with
  | .ok _ =>
    let s' := s.updateEntry e.tag fun e => { e with sectorsDone := e.sectorsDone + m.sectors }
    match s.closingStatus m.unit with
    | some st => s'.endEntry e.tag (.plain st)
    | none => if e.segments ≤ m.segment then s'.endEntry e.tag (.plain .good) else s'
  | r => s.endEntry e.tag r.verdict

/-- A result reaches a host command, whose slot is already free. An entry left by a bus reset is dropped (R45). -/
def State.hostResult (s : State) (m : MediaSlot) (t : Tag) (r : MediaResult) : State :=
  match s.entryOf t with
  | none => s
  | some e =>
    if e.orphan then s.dropEntry t
    else
      match m.op with
      | .read => s.readResult m e r
      | .write | .trim | .patternWrite => s.writeResult m e r
      | .flush => s.endEntry t r.verdict

/-! ## Issue of host work (R33 to R35, R37, R40) -/

/-- The media operation of a storage op. -/
def Op.mediaOp : Op → MediaOp
  | .write => .write
  | .trim => .trim
  | .sync => .flush
  | _ => .read

/-- The slot as the issue of a command's next segment, or of its flush, sets it. A READ, TRIM or FLUSH begins at its
issue; a WRITE takes its sectors first (R37, R49). -/
def QueueEntry.issued (e : QueueEntry) (buffer : Option (Fin 4)) : MediaSlot :=
  let k := e.segmentsIssued + 1
  { origin := .host e.tag, unit := e.unitNo, op := e.op.mediaOp,
    start := if e.op = .sync then none else e.mediaStart.map (· + 256 * (k - 1)),
    sectors := if e.op = .sync then 0 else e.segmentLength k,
    pattern := none, segment := k,
    stage := if e.op = .write then .intake else .outstanding,
    timeout := if e.op = .write then none else some e.op.mediaOp.timeout,
    data := [], buffer := if e.op = .read then buffer else none }

/-- The Dispatcher issues a command's next work into a free slot. A READ takes a free buffer. -/
def State.issueHost (s : State) (n : Fin 4) (e : QueueEntry) : State :=
  let s' := (s.setSlot n (some (e.issued s.freeBuffer))).updateEntry e.tag fun e =>
    { e with state := .active, segmentsIssued := e.segmentsIssued + 1 }
  match e.op, s.freeBuffer with
  | .read, some b =>
    s'.setBuffer b (some { tag := e.tag, segment := e.segmentsIssued + 1, data := none, sent := 0 })
  | _, _ => s'

/-! ## Admission (R9 to R12, R27 to R29) -/

/-- A range passes the two comparisons of R11. -/
def rangeFits (lba count length : Nat) : Bool := decide (lba ≤ length) && decide (count ≤ length - lba)

/-- Steps 1 to 11 of R27: none when the command is admitted. A SECURE unit that an erase has claimed and that is still CLOSING
stops at step 7 with LOCKED, as R27, R141 and R30 of a close have it; R30 of an erase claim has an arrival after the claim
refused ERASING, which the model takes of a unit that the claim has made ERASING (DEDUCED, notes/assumptions/33.md). -/
def State.admission (s : State) (op : Op) (h : RecordHead) : Option Status :=
  if s.configuring || s.mediaAbsent then some .notReady
  else
    match recordUnit h with
    | none => some .noUnit
    | some u =>
      match s.unitDef u with
      | none => some .noUnit
      | some d =>
        if h.count = 0 then some .good
        else if !rangeFits h.lba.toNat h.count.toNat d.length then some .outOfRange
        else if (s.unitRun u).unusable then some .outOfRange
        else if s.unitState u = .erasing then some .erasing
        else if d.kind = .secure && s.unitState u ≠ .opened then some .locked
        else if d.kind = .secure && (s.unitRun u).mode ≠ some .readWrite && op.alters then some .writeProtected
        else if d.kind = .clear && op.alters && !s.control.session then some .locked
        else if op.alters && d.honorWp && s.scanner.switchOn then some .writeProtected
        else if s.temperatureAlarm then some .notReady
        else none

/-- Steps 1, 2, 5, 6, 7 and 11 of R27 for a SYNC (R28), with LOCKED for a claimed unit that is still CLOSING (DEDUCED,
notes/assumptions/33.md). -/
def State.syncAdmission (s : State) (h : RecordHead) : Option Status :=
  if s.configuring || s.mediaAbsent then some .notReady
  else
    match recordUnit h with
    | none => some .noUnit
    | some u =>
      match s.unitDef u with
      | none => some .noUnit
      | some d =>
        if (s.unitRun u).unusable then some .outOfRange
        else if s.unitState u = .erasing then some .erasing
        else if d.kind = .secure && s.unitState u ≠ .opened then some .locked
        else if s.temperatureAlarm then some .notReady
        else none

/-- A countdown of a length, stopped for 0. -/
def countdown (n : Nat) : Option Nat := if n = 0 then none else some n

/-- An admitted command restarts the idle timer of an OPEN unit (R29, R145). -/
def State.restartIdle (s : State) (u : UnitNo) : State :=
  match s.unitDef u with
  | some d =>
    if s.unitState u = .opened then s.setUnit u { s.unitRun u with idleTimer := countdown d.idleTimeout } else s
  | none => s

/-- The restart at an arrival: for a command that is admitted, or of count 0 to a defined unit. -/
def State.admittedRestart (s : State) (h : RecordHead) (verdict : Option Status) : State :=
  match recordUnit h with
  | some u => if verdict = none || verdict = some .good then s.restartIdle u else s
  | none => s

/-! ## Arrival (R21, R22, R24) -/

/-- A new entry in state QUEUED. -/
def State.newEntry (s : State) (t : Tag) (op : Op) (h : RecordHead) (block : Option (List Byte)) : QueueEntry :=
  { tag := t, op, head := h, block, mediaStart := none, verdict := none, segmentsIssued := 0, sectorsDone := 0,
    state := .queued, returned := none, age := s.clock, orphan := false }

/-- An entry joins the queue at the end. -/
def State.enqueue (s : State) (e : QueueEntry) : State := (s.withQueue (s.queue ++ [e])).aged

/-- A refused record takes no entry: its status is held, and its data stage, where one follows, is discarded
(DEDUCED, notes/assumptions/11.md). -/
def State.refuse (s : State) (h : RecordHead) (st : Status) (residue : Nat) (stage : Bool) : State :=
  s.withPort { s.port with refused := some { tag := h.tag, status := st, detail := .none, residue },
                           bulkOut := if stage then .discarding else .free }

/-- The arrival checks of R21 on a record of a known op, in order; the residue and the data stage are those of the record
where it is refused. -/
def State.takeRecord (s : State) (op : Op) (h : RecordHead) (residue : Nat) (stage : Bool) (accept : Tag → State) : State :=
  match recordTag h with
  | none => s.refuse h .invalid residue stage
  | some t =>
    if (s.entryOf t).isSome then s.refuse h .tagInUse residue stage
    else if op.isManagement && decide (512 < h.paramLength.toNat) then s.refuse h .invalid residue stage
    else accept t

/-- The media start of an admitted command (R12). -/
def State.mediaStartOf (s : State) (h : RecordHead) : Option Nat :=
  (recordUnit h).bind fun u => (s.unitDef u).map fun d => d.base + h.lba.toNat

/-- A READ, WRITE or TRIM takes its entry and goes to admission. -/
def State.admitData (s : State) (op : Op) (h : RecordHead) (t : Tag) : State :=
  let e := s.newEntry t op h none
  match s.admission op h with
  | none => (s.enqueue { e with mediaStart := s.mediaStartOf h }).admittedRestart h none
  | some st => (s.enqueue { e with state := .ending, verdict := some (.plain st) }).admittedRestart h (some st)

/-- The data stage of a WRITE holds the bulk-out pipe: for its segments when the WRITE is admitted, to be discarded when
it is refused (R22). -/
def State.holdStage (s : State) (h : RecordHead) (t : Tag) : State :=
  if h.count = 0 then s
  else
    match s.entryOf t with
    | some e =>
      s.withPort { s.port with bulkOut := if e.state = .ending then .discarding else .writeStage t h.count.toNat }
    | none => s

/-- A READ record is taken. -/
def State.acceptRead (s : State) (h : RecordHead) : State :=
  s.takeRecord .read h h.count.toNat false (s.admitData .read h)

/-- A WRITE record is taken. -/
def State.acceptWrite (s : State) (h : RecordHead) : State :=
  s.takeRecord .write h h.count.toNat (decide (h.count ≠ 0)) fun t => (s.admitData .write h t).holdStage h t

/-- A TRIM record is taken. -/
def State.acceptTrim (s : State) (h : RecordHead) : State :=
  s.takeRecord .trim h h.count.toNat false (s.admitData .trim h)

/-- A SYNC record is taken (R28). -/
def State.acceptSync (s : State) (h : RecordHead) : State :=
  s.takeRecord .sync h 0 false fun t =>
    let e := s.newEntry t .sync h none
    match s.syncAdmission h with
    | none => (s.enqueue e).admittedRestart h none
    | some st => s.enqueue { e with state := .ending, verdict := some (.plain st) }

/-- A UNIT INFO record is taken and served (R28, R215). -/
def State.acceptUnitInfo (s : State) (h : RecordHead) : State :=
  s.takeRecord .unitInfo h 0 false fun t =>
    let e := { s.newEntry t .unitInfo h none with state := .ending }
    if s.configuring then s.enqueue { e with verdict := some (.plain .notReady) }
    else
      match recordUnit h with
      | none => s.enqueue { e with verdict := some (.plain .noUnit) }
      | some u =>
        s.enqueue { e with verdict := some (.plain .good), returned := some (transferOf (s.unitInfoContent u)) }

/-- A record of a management op is taken: its block is held in its entry, which waits for the Handler (R22, R41;
DEDUCED, notes/assumptions/24.md). -/
def State.acceptManagement (s : State) (op : Op) (h : RecordHead) (block : List Byte) : State :=
  s.takeRecord op h 0 (decide (h.paramLength ≠ 0)) fun t => s.enqueue (s.newEntry t op h (some block))

/-- A record of an unknown op is refused, and the data stage of its parameter length is discarded (R21, R22). -/
def State.acceptUnknown (s : State) (h : RecordHead) : State :=
  s.takeRecord .read h 0 (decide (h.paramLength ≠ 0)) fun _ => s.refuse h .invalid 0 (decide (h.paramLength ≠ 0))

/-- A transfer from the host is taken from a pipe that is free. One of another length than 32 bytes is discarded (R21). -/
def State.takeTransfer (s : State) : Instr → State
  | .read h => s.acceptRead h
  | .write h => s.acceptWrite h
  | .trim h => s.acceptTrim h
  | .sync h => s.acceptSync h
  | .unitInfo h => s.acceptUnitInfo h
  | .status h b => s.acceptManagement .status h b
  | .eventRead h b => s.acceptManagement .eventRead h b
  | .unitDefine h b => s.acceptManagement .unitDefine h b
  | .unitDelete h b => s.acceptManagement .unitDelete h b
  | .grantSet h b => s.acceptManagement .grantSet h b
  | .credentialRemove h b => s.acceptManagement .credentialRemove h b
  | .enroll h b => s.acceptManagement .enroll h b
  | .policySet h b => s.acceptManagement .policySet h b
  | .lock h b => s.acceptManagement .lock h b
  | .eraseListWrite h b => s.acceptManagement .eraseListWrite h b
  | .eraseTail h b => s.acceptManagement .eraseTail h b
  | .eraseAbort h b => s.acceptManagement .eraseAbort h b
  | .eraseClear h b => s.acceptManagement .eraseClear h b
  | .tamperClear h b => s.acceptManagement .tamperClear h b
  | .unknownOp _ h => s.acceptUnknown h
  | _ => s

/-- A transfer waits on the pipe behind those that already wait (R21). -/
def State.wait (s : State) (i : Instr) : State := s.withPort { s.port with waiting := s.port.waiting ++ [i] }

/-- The pipe is free for this transfer: free for a record, and no earlier transfer waits (R21). -/
def State.takesNow (s : State) : Bool := s.pipeFree && s.port.waiting.isEmpty

end Sys2Proof.Machine
end

