-- ==== Sys2Proof/Machine/EraseWork.lean ====
section
/-! DEFINITION. The Erase Engine's work on a unit once it holds it: markers, segments, halts and good ends of the
descriptor in progress, hand-over to an internal erase, and the start-up reruns (R166 to R173, R176, R178, R179). -/

namespace Sys2Proof.Machine

/-! ## Markers and release -/

/-- Place a marker in the unit record of the image (R6, R167). -/
def State.setMarker (s : State) (u : UnitNo) (w : Option EraseWork) : State :=
  s.setUnitDef u ((s.unitDef u).map fun d => { d with marker := w })

/-- The marker of an internal erase (R6, R175). -/
def EraseWork.internal : EraseWork := { method := .keyReplace, range := none, passes := [], verify := false }

/-- Unit Control sets a unit of the engine LOCKED, with no mode and no opener (R144). -/
def State.unlockErasing (s : State) (u : UnitNo) : State :=
  s.setUnit u { s.unitRun u with state := .locked, mode := none, opener := none, claimPending := false }

/-- The engine releases a unit: LOCKED, and its marker cleared by a write for which nobody waits (R170, R171). -/
def State.releaseUnit (s : State) (u : UnitNo) : State :=
  if s.unitState u = .erasing then
    let s' := s.unlockErasing u
    (if (s.marker u).isSome then (s'.setMarker u none).requestWrite (.unit u) [] else s').refreshLeds
  else s

/-! ## Targets of an internal erase -/

/-- The first target of a unit in one stage goes to another. -/
def advanceTarget (u : UnitNo) (a b : TargetStage) : List Target → List Target
  | [] => []
  | t :: ts => if t.unit = u && t.stage = a then { t with stage := b } :: ts else t :: advanceTarget u a b ts

/-- Move a target of the internal erase in progress. -/
def State.moveTarget (s : State) (u : UnitNo) (a b : TargetStage) : State :=
  match s.erase.internal with
  | some i => s.withErase { s.erase with internal := some { i with targets := advanceTarget u a b i.targets } }
  | none => s

/-- A target enters MARKING: the KEY_REPLACE marker is placed and its write requested (R175). -/
def State.markTarget (s : State) (u : UnitNo) (from_ : TargetStage) : State :=
  ((s.moveTarget u from_ .marking).setMarker u (some .internal)).requestWrite (.unit u) [.internalMarker u]

/-- A unit that the descriptor gives up is handed over to the internal erase that targets it, and released otherwise
(R171, R176). -/
def State.giveUp (s : State) (u : UnitNo) : State :=
  if s.hasTarget u .claiming then s.markTarget u .claiming
  else if s.hasTarget u .pending then s.markTarget u .pending
  else s.releaseUnit u

/-! ## Ends of the descriptor in progress -/

/-- Change the descriptor at the current position. -/
def State.setCurrent (s : State) (f : Descriptor → Descriptor) : State :=
  s.withErase { s.erase with list := s.erase.list.set s.erase.current (s.currentDescriptor.map f) }

/-- The unit that the engine holds for its list: the one claimed, or the kept one. -/
def State.heldUnit (s : State) : Option UnitNo := s.claimedUnit <|> s.erase.kept

/-- The unit held is given up, the engine becomes HALTED, and ERASE_HALTED is placed with the count, which becomes 0
(R171, R172; DEDUCED, notes/assumptions/14.md). -/
def State.enterHalted (s : State) (held : Option UnitNo) (o : Outcome) : State :=
  let s' := match held with
    | some u => s.giveUp u
    | none => s
  let n := s'.erase.progress
  (s'.withErase { s'.erase with state := .halted, stage := .none, kept := none, segment := .none, progress := 0 }).place
    (.eraseHalted (s.currentDescriptor.map Descriptor.unit) (some s.erase.current) o n)

/-- The descriptor at the current position halts (R171). STALE leaves it as it was. -/
def State.haltDescriptor (s : State) (o : Outcome) : State :=
  (if o = .stale then s else s.setCurrent fun d => { d with done := true, outcome := some o }).enterHalted s.heldUnit o

/-- A good end adds to the progress count, which is reported when it reaches the threshold (R173). -/
def State.countGood (s : State) : State :=
  let n := s.erase.progress + 1
  if s.store.image.policy.threshold ≤ n then (s.withErase { s.erase with progress := 0 }).place (.eraseProgress n)
  else s.withErase { s.erase with progress := n }

/-- The engine enters IDLE; with a count and a delay the progress delay timer starts (R158, R173). -/
def State.enterIdle (s : State) : State :=
  s.withErase { s.erase with
    state := .idle, stage := .none,
    delayTimer := if 0 < s.erase.progress then countdown s.store.image.policy.delay else none }

/-- The engine becomes RUNNING with stage WAITING, stops the progress delay timer, and presents need (R158, R160, R173). -/
def State.enterWaiting (s : State) : State :=
  (s.withErase { s.erase with state := .running, stage := .waiting, delayTimer := none }).followNeed

/-- The unit stays ERASING for the next descriptor: the next position lies in the window and holds a descriptor that is
not done and names the same unit (R170). -/
def EraseEngine.keeps (e : EraseEngine) (u : UnitNo) : Bool :=
  decide (e.current + 1 ≠ e.tail) &&
    match e.list[e.current + 1] with
    | some d => !d.done && decide (d.unit = u)
    | none => false

/-- The engine goes on to the next position (R158). -/
def State.advance (s : State) : State :=
  let next := s.erase.current + 1
  let s' := s.withErase { s.erase with current := next }
  if next = s.erase.tail then s'.enterIdle else s'.withErase { s'.erase with stage := .waiting }

/-- The descriptor at the current position, on this unit, ends GOOD; a stop request then halts the engine (R170, R172). -/
def State.endGood (s : State) (u : UnitNo) : State :=
  let s1 := (s.setCurrent fun d => { d with done := true, outcome := some .good }).countGood
  if s.erase.stop = .none then
    if s.erase.keeps u then (s1.withErase { s1.erase with kept := some u }).advance else (s1.releaseUnit u).advance
  else s1.enterHalted (some u) .good

/-- The outcome that a stop request gives. -/
def StopRequest.outcome : StopRequest → Option Outcome
  | .none => .none
  | .aborted => some .aborted
  | .preempted => some .preempted

/-- The outcome with which a descriptor of a method stops at its next boundary: none without a stop request, and none for
KEY_REPLACE, which runs to its end (R172). -/
def State.stopFor (s : State) (m : EraseMethod) : Option Outcome :=
  if m = .keyReplace then none else s.erase.stop.outcome

/-- A stop request is acted on at once in WAITING, and while a segment is presented and not issued (R172;
DEDUCED, notes/assumptions/14.md). -/
def State.stopNow (s : State) : State :=
  match s.erase.stop.outcome with
  | none => s
  | some o =>
    match s.erase.stage with
    | .waiting => s.haltDescriptor o
    | .working => if s.erase.segment = .presented then s.haltDescriptor o else s
    | .none | .claiming | .marking => s

/-! ## Stages of the descriptor in progress -/

/-- A key replacement is asked of the Cipher Unit (R77). -/
def State.requestKey (s : State) (u : UnitNo) (p : KeyPath) : State :=
  s.withCipher { s.cipher with requests := s.cipher.requests ++ [{ unit := u, path := p }] }

/-- The claimed unit is drained: the descriptor stops at this boundary, or writes its marker (R166, R167, R172). -/
def State.descriptorDrained (s : State) (d : Descriptor) : State :=
  match s.stopFor d.work.method with
  | some o => s.haltDescriptor o
  | none =>
    ((s.withErase { s.erase with stage := .marking }).setMarker d.unit (some d.work)).requestWrite (.unit d.unit)
      [.descriptorMarker]

/-- The descriptor enters WORKING (R167 to R169). -/
def State.enterWorking (s : State) (d : Descriptor) : State :=
  let s' := (s.withErase { s.erase with stage := .working, workAge := s.clock }).aged
  if d.work.method = .keyReplace then s'.requestKey d.unit .descriptor
  else s'.withErase { s'.erase with segment := .presented }

/-- The marker of the descriptor in progress is written (R167, R172). -/
def State.markerWritten (s : State) : State :=
  match s.currentDescriptor with
  | some d =>
    if s.erase.stage = .marking then
      match s.stopFor d.work.method with
      | some o => s.haltDescriptor o
      | none => s.enterWorking d
    else s
  | none => s

/-! ## Segments (R169) -/

/-- A segment of erase work: the unit, the work, the phase, and the sectors of it already covered. -/
structure EraseJob where
  unit : UnitNo
  work : EraseWork
  phase : ErasePhase
  sectorsDone : Nat
deriving DecidableEq, Repr

/-- The work that the engine presents segments of: a rerun's, or the descriptor's in WORKING. -/
def State.eraseJob (s : State) : Option EraseJob :=
  match s.erase.rerun with
  | some r => if r.stage = .working then some ⟨r.unit, r.work, r.phase, r.sectorsDone⟩ else none
  | none =>
    if s.erase.stage = .working then
      match s.currentDescriptor with
      | some d => d.phase.map fun p => ⟨d.unit, d.work, p, d.sectorsDone⟩
      | none => none
    else none

/-- The operation of a phase. -/
def EraseJob.op (j : EraseJob) : MediaOp :=
  match j.work.method, j.phase with
  | .overwrite, .verify => .read
  | .overwrite, .pass _ => .patternWrite
  | _, _ => .trim

/-- The pattern byte of a pass, in list order. -/
def EraseJob.pattern (j : EraseJob) : Option Byte :=
  match j.work.method, j.phase with
  | .overwrite, .pass n => j.work.passes[n - 1]?
  | _, _ => none

/-- The sectors of the next segment. -/
def EraseJob.sectors (j : EraseJob) : Nat := min j.work.segmentSize (j.work.count - j.sectorsDone)

/-- The slot as the issue of the next segment sets it: the segment starts at media sector base + start + the sectors
covered, and begins at its issue (R49, R169). -/
def State.eraseSlot (s : State) (j : EraseJob) : MediaSlot :=
  { origin := .erase, unit := j.unit, op := j.op,
    start := (s.unitDef j.unit).map fun d => d.base + j.work.start + j.sectorsDone,
    sectors := j.sectors, pattern := j.pattern, segment := 0, stage := .outstanding, timeout := some j.op.timeout,
    data := [], buffer := none }

/-- The Dispatcher issues the presented segment. -/
def State.issueErase (s : State) (n : Fin 4) (j : EraseJob) : State :=
  (s.setSlot n (some (s.eraseSlot j))).withErase { s.erase with segment := .issued }

/-- A sector of 512 repetitions of a byte (R48, R169). -/
def patternSector (p : Byte) : Sector := BitVec.replicate 512 p

/-- Verify data holds the last pattern byte in every sector. -/
def EraseWork.verified (w : EraseWork) (data : List Sector) : Bool :=
  match w.passes.getLast? with
  | some p => data.all fun x => decide (x = patternSector p)
  | none => true

/-- What a completed segment makes of the work: a mismatch, or the phase it goes on in with its sectors done, or the end of
its last phase (R169). -/
inductive EraseStep where
  | mismatch
  | more (phase : ErasePhase) (sectorsDone : Nat)
  | finished (sectorsDone : Nat)
deriving DecidableEq, Repr

/-- The step that the data of a segment of so many sectors makes. -/
def EraseJob.step (j : EraseJob) (sectors : Nat) (data : List Sector) : EraseStep :=
  if decide (j.phase = .verify) && !j.work.verified data then .mismatch
  else
    let n := j.sectorsDone + sectors
    if n < j.work.count then .more j.phase n
    else
      match j.work.phaseAfter j.phase with
      | some p => .more p 0
      | none => .finished n

/-- A segment of the descriptor in progress completes OK. The sectors are counted; a stop request then halts, and otherwise
the work goes on or ends (R169, R170, R172). -/
def State.descriptorStep (s : State) (j : EraseJob) (sectors : Nat) (data : List Sector) : State :=
  match j.step sectors data with
  | .mismatch => s.haltDescriptor .verifyMismatch
  | st =>
    let counted := s.setCurrent fun d => { d with sectorsDone := j.sectorsDone + sectors }
    match s.stopFor j.work.method, st with
    | some o, _ => counted.haltDescriptor o
    | none, .more p n =>
      let s' := s.setCurrent fun d => { d with phase := some p, sectorsDone := n }
      s'.withErase { s'.erase with segment := .presented }
    | none, _ => counted.endGood j.unit

/-! ## Start-up reruns (R178, R179) -/

/-- Change the rerun in progress. -/
def State.setRerun (s : State) (f : Rerun → Rerun) : State := s.withErase { s.erase with rerun := s.erase.rerun.map f }

/-- The marker of a rerun is cleared by a write that the rerun waits for. -/
def State.rerunClear (s : State) (u : UnitNo) : State :=
  ((s.setRerun fun r => { r with stage := .clearing }).setMarker u none).requestWrite (.unit u) [.rerunClear u]

/-- A rerun asks for a key replacement on the internal path. -/
def State.rerunReplace (s : State) (u : UnitNo) : State :=
  (s.setRerun fun r => { r with stage := .replacing }).requestKey u .internal

/-- A rerun that cannot complete falls back, to a key replacement on a SECURE unit and to the clearing of the marker on a
CLEAR one, and ERASE_HALTED is placed with no position (R179). -/
def State.rerunFallback (s : State) (u : UnitNo) (o : Outcome) : State :=
  (if s.isSecure u then s.rerunReplace u else s.rerunClear u).place (.eraseHalted (some u) none o 0)

/-- The rerun of a marked unit begins: KEY_REPLACE by a key replacement, TRIM and OVERWRITE from the first segment of the
first phase, or by the fallback on a unit that is unusable. R179 names no outcome for that fallback's ERASE_HALTED; the model
takes OUT_OF_RANGE, which the start check of R165 gives such a unit (DESIGN CHOICE, notes/assumptions/31.md). -/
def State.startRerun (s : State) (u : UnitNo) (w : EraseWork) : State :=
  let s' := (s.withErase { s.erase with
    state := .running, workAge := s.clock,
    rerun := some { unit := u, work := w, phase := .pass 1, sectorsDone := 0, stage := .working } }).aged
  if w.method = .keyReplace then s'.rerunReplace u
  else if (s.unitRun u).unusable then s'.rerunFallback u .outOfRange
  else s'.withErase { s'.erase with segment := .presented }

/-- A segment of a rerun completes OK. -/
def State.rerunStep (s : State) (j : EraseJob) (sectors : Nat) (data : List Sector) : State :=
  match j.step sectors data with
  | .mismatch => s.rerunFallback j.unit .verifyMismatch
  | .more p n =>
    let s' := s.setRerun fun r => { r with phase := p, sectorsDone := n }
    s'.withErase { s'.erase with segment := .presented }
  | .finished _ => s.rerunClear j.unit

/-- The clearing write of a rerun's marker completes: the unit, ERASING, becomes LOCKED and the rerun ends (R178;
DESIGN CHOICE, notes/assumptions/23.md). -/
def State.rerunCleared (s : State) (u : UnitNo) : State :=
  let s' := if s.unitState u = .erasing then s.unlockErasing u else s
  (s'.withErase { s'.erase with rerun := none }).refreshLeds

/-! ## Results of erase segments (R50, R56, R169) -/

/-- A result reaches the engine, for a segment of so many sectors whose slot is already free. -/
def State.eraseResult (s : State) (sectors : Nat) (r : MediaResult) : State :=
  match s.eraseJob with
  | none => s
  | some j =>
    let s' := s.withErase { s.erase with segment := .none }
    match r, s.erase.rerun.isSome with
    | .ok data, true => s'.rerunStep j sectors data
    | .ok data, false => s'.descriptorStep j sectors data
    | _, true => s'.rerunFallback j.unit .mediaError
    | _, false => s'.haltDescriptor .mediaError

/-- The Media Link hands a result to the operation's origin, once the slot is free (R50). -/
def State.handResult (s : State) (m : MediaSlot) (r : MediaResult) : State :=
  match m.origin with
  | .host t => s.hostResult m t r
  | .erase => s.eraseResult m.sectors r

/-- A slot frees and its result is handed over. -/
def State.endSlot (s : State) (n : Fin 4) (r : MediaResult) : State :=
  match s.slots[n] with
  | some m => (s.setSlot n none).handResult m r
  | none => s

/-- Every outstanding operation ends with a result (R51, R61). -/
def State.endOutstanding (s : State) (r : MediaResult) : State :=
  (List.finRange 4).foldl (fun s n => if (s.linkSlot n).isSome then s.endSlot n r else s) s

end Sys2Proof.Machine
end

