-- ==== Sys2Proof/Machine/EntryControl.lean ====
section
/-! DEFINITION. The Entry Controller's state (R116 to R127): abandonment, the disabling conditions, and the PIN's
verifier (R85). What keys do is in Keypad.lean. -/

namespace Sys2Proof.Machine

/-- A state change that another block gives the Entry Controller, not made while it is DISABLED (R121, R126). -/
def State.entryGoes (s : State) (c : EntryCtl) : State :=
  if s.entry.state = .disabled then s else s.withEntry { s.entry with state := c }

/-- The buffer is cleared and the inter-key timer stopped. -/
def State.clearEntry (s : State) : State := s.withEntry { s.entry with buffer := [], interKeyTimer := none }

/-- The slot of the enrollment that is under way and not yet committed (R105). -/
def State.uncommitted (s : State) : Option SlotNo :=
  if s.entry.commitPending then none else s.entry.target.map EnrollTarget.slot

/-- An uncommitted enrollment of a slot is abandoned: the slot is again as it was, both timers stop, the buffer, the first
entry and the target go, FAIL shows and ENROLL_FAILED is placed (R105, R125). -/
def State.abandon (s : State) (k : SlotNo) (r : AbandonReason) : State :=
  (((s.withEnrolling none).withEntry
    { s.entry with state := if s.entryDisabled then .disabled else .idle, buffer := [], first := none, target := none,
                   interKeyTimer := none, window := none }).showFail).place (.enrollFailed k r)

/-- Abandon the enrollment under way, where one is uncommitted. -/
def State.abandonAny (s : State) (r : AbandonReason) : State :=
  match s.uncommitted with
  | some k => s.abandon k r
  | none => s

/-- Entering DISABLED acts on the state left (R126). -/
def State.enterDisabled (s : State) : State :=
  match s.entry.state with
  | .collecting => (s.clearEntry).withEntry { s.clearEntry.entry with state := .disabled }
  | .enrollFirst | .enrollConfirm =>
    let s' := s.abandonAny .alarm
    s'.withEntry { s'.entry with state := .disabled }
  | .disabled | .idle | .verifying | .penalty | .replugWait => s.withEntry { s.entry with state := .disabled }

/-- The state for which DISABLED is left (R127). -/
def State.entryAfterDisabled (s : State) : EntryCtl :=
  if s.entry.commitPending then .verifying
  else
    match s.attempt.phase with
    | .charging | .bruteForce => .verifying
    | .penalty => .penalty
    | .replug => .replugWait
    | .idle => .idle

/-- The Entry Controller re-evaluates its disabling conditions (R126, R127). -/
def State.reevaluate (s : State) : State :=
  if s.entryDisabled then
    if s.entry.state = .disabled then s else s.enterDisabled
  else if s.entry.state = .disabled then s.withEntry { s.entry with state := s.entryAfterDisabled }
  else s

/-! ## Verifiers -/

/-- The digits of a PIN as one number: base 11 with digits 1 to 10, so that a list of another length or with another digit
spells another number. -/
def pinCode (digits : List Digit) : Nat := digits.foldl (fun n d => 11 * n + (d.val + 1)) 0

/-- The number that a salt and the digits of a PIN spell, which the digest is applied to (R85; DEDUCED, notes/assumptions/3.md). -/
def pinNumber (salt : Salt) (digits : List Digit) : Nat := salt.toNat + 2 ^ 128 * pinCode digits

/-- The verifier of a PIN under a salt (R85). -/
def verifierOf (salt : Salt) (digits : List Digit) : Verifier := Config.digest (pinNumber salt digits)

/-- An entry matches a record: the digest of its salt and the entry is its verifier (R85). -/
def CredRecord.matches (c : CredRecord) (digits : List Digit) : Bool :=
  match c.salt, c.verifier with
  | some salt, some v => decide (verifierOf salt digits = v)
  | _, _ => false

/-- The slot that an entry matches: compared with every ACTIVE slot, of which at most one can match (R90). -/
def State.matchingSlot (s : State) (digits : List Digit) : Option SlotNo :=
  (List.finRange 6).find? fun k => s.isActive k && (s.cred k).matches digits

end Sys2Proof.Machine
end

