-- ==== Sys2Proof/Machine/UnitControl.lean ====
section
/-! DEFINITION. Unit Control (07_opening_and_closing_units.md): the drained signal, closes, claims, opens and the admin
session. -/

namespace Sys2Proof.Machine

/-! ## The drained signal (R31, R71, R143) -/

/-- The close of a CLOSING unit ends: LOCKED, or ERASING when an erase has claimed it; its key slot becomes EMPTY. -/
def State.endClose (s : State) (u : UnitNo) : State :=
  if s.unitState u = .closing then
    (s.setUnit u { s.unitRun u with
      state := if (s.unitRun u).claimPending then .erasing else .locked,
      mode := none, opener := none, claimPending := false }).setKeySlot u { state := .empty, key := none }
  else s

/-- A unit that is ERASING and drained is handed to the work that claimed it: the descriptor in CLAIMING, or the target of
an internal erase (R166, R175). -/
def State.claimDrained (s : State) (u : UnitNo) : State :=
  if s.unitState u = .erasing then
    match s.currentDescriptor with
    | some d =>
      if s.erase.stage = .claiming && d.unit = u then s.descriptorDrained d
      else if s.hasTarget u .claiming then s.markTarget u .claiming
      else s
    | none => if s.hasTarget u .claiming then s.markTarget u .claiming else s
  else s

/-- The Dispatcher signals drained for a unit. -/
def State.signalDrained (s : State) (u : UnitNo) : State := (s.endClose u).claimDrained u

/-- The signal is given at once where nothing of the unit is outstanding and all its commands are ended (R31). -/
def State.drainNow (s : State) (u : UnitNo) : State := if s.drainDue u then s.signalDrained u else s

/-! ## Closing (R141, R142) -/

/-- An OPEN unit becomes CLOSING with its slot DRAINING, its timer stopped, out of the open order, with UNIT_LOCKED. -/
def State.startClose (s : State) (u : UnitNo) (c : CloseCause) : State :=
  let r := s.unitRun u
  ((((s.setUnit u { r with state := .closing, idleTimer := none }).setKeySlot u
      { s.cipher.slots[u] with state := .draining }).withControl
      { s.control with openOrder := s.control.openOrder.filter fun v => decide (v ≠ u) }).place
      (.unitLocked u r.opener c))

/-- A close cause reaches a unit: an OPEN one closes, any other is left as it is. -/
def State.closeUnit (s : State) (c : CloseCause) (u : UnitNo) : State :=
  if s.unitState u = .opened then ((s.startClose u c).endCommands u .locked).drainNow u else s

/-- A close cause reaches several units, in unit number order. -/
def State.closeUnits (s : State) (c : CloseCause) (us : List UnitNo) : State := us.foldl (State.closeUnit · c) s

/-- A close cause reaches every unit. -/
def State.closeAll (s : State) (c : CloseCause) : State := s.closeUnits c (List.finRange 8)

/-! ## Claims (R144) -/

/-- Unit Control handles a claim by the unit's kind and state; a unit that is ERASING stays so, and one that is undefined is
not changed. The drained signal follows at once where it is due. -/
def State.claimUnit (s : State) (c : CloseCause) (u : UnitNo) : State :=
  match s.unitDef u with
  | none => s
  | some d =>
    let r := s.unitRun u
    match r.state, d.kind with
    | .opened, _ => (s.setUnit u { r with claimPending := true }).closeUnit c u
    | .closing, _ => s.setUnit u { r with claimPending := true }
    | .locked, .secure => (s.setUnit u { r with state := .erasing, mode := none, opener := none }).drainNow u
    | .locked, .clear =>
      ((s.setUnit u { r with state := .erasing, mode := none, opener := none }).endCommands u .erasing).drainNow u
    | .erasing, _ => s.drainNow u

/-! ## Opening (R136 to R139) -/

/-- The wider of two modes. -/
def Mode.wider : Mode → Mode → Mode
  | .readOnly, m => m
  | .readWrite, _ => .readWrite

/-- A unit joins the end of the open order. -/
def State.orderLast (s : State) (u : UnitNo) : State :=
  s.withControl { s.control with openOrder := (s.control.openOrder.filter fun v => decide (v ≠ u)) ++ [u] }

/-- A LOCKED SECURE unit opens (R138). -/
def State.openUnit (s : State) (k : SlotNo) (d : UnitDef) (u : UnitNo) (m : Mode) : State :=
  (((s.setUnit u { s.unitRun u with
      state := .opened, mode := some m, opener := some k, idleTimer := countdown d.idleTimeout }).setKeySlot u
      { state := .loaded, key := s.store.image.keys[u] }).orderLast u).place (.unitOpened u k m)

/-- An OPEN unit is widened (R139). -/
def State.widenUnit (s : State) (k : SlotNo) (d : UnitDef) (u : UnitNo) (m : Mode) : State :=
  let r := s.unitRun u
  let wide := (r.mode.getD m).wider m
  ((s.setUnit u { r with mode := some wide, opener := some k, idleTimer := countdown d.idleTimeout }).orderLast u).place
    (.unitOpened u k wide)

/-- One grant of an open request, in READY (R137). -/
def State.openGrant (s : State) (k : SlotNo) (g : Grant) : State :=
  match s.unitDef g.unit with
  | none => s
  | some d =>
    match d.kind with
    | .clear => s
    | .secure =>
      if (s.unitRun g.unit).unusable then s
      else
        match s.unitState g.unit with
        | .locked => if d.marker.isSome then s else s.openUnit k d g.unit g.mode
        | .opened => s.widenUnit k d g.unit g.mode
        | .closing => s.place (.unitBusy g.unit k false)
        | .erasing => s.place (.unitBusy g.unit k true)

/-- An open request: its grants in list order, all skipped in FACTORY (R136). -/
def State.openRequest (s : State) (k : SlotNo) (grants : List Grant) : State :=
  if s.factory then s else grants.foldl (State.openGrant · k) s

/-! ## The admin session (R140, R151, R152) -/

/-- The session opens, or is restarted where it is open. -/
def State.openSession (s : State) : State :=
  s.withControl { s.control with session := true, sessionTimer := some s.store.image.policy.adminIdle }

/-- A gated command taken under the session restarts its timer (R151, R211). -/
def State.restartSession (s : State) : State :=
  if s.control.session then s.withControl { s.control with sessionTimer := some s.store.image.policy.adminIdle } else s

/-- The enrollment under way is bound to the session. -/
def State.sessionBound (s : State) : Bool :=
  match s.entry.target with
  | some t => t.sessionBound
  | none => false

/-- The session closes: its timer stops, and a session-bound enrollment is abandoned (R152). -/
def State.closeSession (s : State) : State :=
  if s.control.session then
    let s' := s.withControl { s.control with session := false, sessionTimer := none }
    if s.sessionBound then s'.abandonAny .session else s'
  else s

end Sys2Proof.Machine
end

