-- ==== Sys2Proof/Machine/InternalErase.lean ====
section
/-! DEFINITION. Internal erases (R174 to R177), the key replacement that carries them out (R77 to R80), their reports to
Attempt Control and the Tamper Monitor, and the start of descriptors on the list path (R164 to R166). -/

namespace Sys2Proof.Machine

/-! ## Reports of completion (R99, R188) -/

/-- The clearing stage of a brute-force erase: every slot EMPTY, the six credential records and then the attempt record
with F 0 requested, and the device FACTORY (R99). -/
def State.clearCredentials (s : State) : State :=
  let s1 := (List.finRange 6).foldl (fun s k => (s.setCred k .blank).requestWrite (.credential k) []) s
  let s2 := ((s1.setAttemptRecord ⟨0, 0⟩).requestWrite .attempt [.clearing]).withEnrolling none
  (s2.withAttempt { s2.attempt with failed := 0, brute := .clearing }).reevaluate

/-- The Tamper Monitor's report: zeroize owed becomes no and the latch record is requested (R188). -/
def State.zeroizeReported (s : State) : State :=
  ((s.withTamper { s.tamper with zeroizeOwed := false }).setLatchRecord ⟨s.latch, false⟩).requestWrite .latch []

/-- One requester's report. A duress match waits for none. -/
def State.report (s : State) (r : Requester) : State :=
  match r with
  | .duress => s
  | .bruteForce => if s.attempt.brute = .erasing then s.clearCredentials else s
  | .zeroize => s.zeroizeReported

/-- The internal erase completes at the event that makes every entry DONE: the record goes and each requester has its
report (R177; their order: DESIGN CHOICE, notes/assumptions/16.md). -/
def State.completeInternal (s : State) : State :=
  match s.erase.internal with
  | none => s
  | some i =>
    if i.targets.all fun t => decide (t.stage = .done) then
      i.requesters.foldl State.report ((s.withErase { s.erase with internal := none }).refreshLeds)
    else s

/-! ## Requests (R174, R175, R177) -/

/-- A unit stands among the targets in PENDING, CLAIMING or MARKING, and is not added again. -/
def standsOpen (ts : List Target) (u : UnitNo) : Bool :=
  ts.any fun t => decide (t.unit = u) && (decide (t.stage = .pending) || decide (t.stage = .claiming) || decide (t.stage = .marking))

/-- A unit is added to the end as PENDING, unless it stands open; an entry of it that is DONE goes. -/
def addTarget (ts : List Target) (u : UnitNo) : List Target :=
  if standsOpen ts u then ts
  else (ts.filter fun t => !(decide (t.unit = u) && decide (t.stage = .done))) ++ [{ unit := u, stage := .pending }]

/-- The record with a request's units and requester, formed or merged. -/
def InternalErase.merge (i : Option InternalErase) (r : Requester) (us : List UnitNo) : InternalErase :=
  match i with
  | none => { targets := us.foldl addTarget [], requesters := [r] }
  | some i => { targets := us.foldl addTarget i.targets,
                requesters := if i.requesters.contains r then i.requesters else i.requesters ++ [r] }

/-- A unit has an earlier entry that is REPLACING, behind which a PENDING one waits. -/
def State.replacingTarget (s : State) (u : UnitNo) : Bool := s.hasTarget u .replacing

/-- A unit that is a PENDING target is claimed; one that is undefined or CLEAR is DONE without a claim. -/
def State.claimTarget (s : State) (u : UnitNo) : State :=
  if s.hasTarget u .pending && !s.replacingTarget u then
    if s.isSecure u then (s.moveTarget u .pending .claiming).claimUnit .internal u else s.moveTarget u .pending .done
  else s

/-- A RUNNING engine takes the stop request PREEMPTED, unless it has one. -/
def State.preempt (s : State) : State :=
  if s.erase.state = .running && s.erase.stop = .none then s.withErase { s.erase with stop := .preempted } else s

/-- The units that a request leaves its targets: the SECURE ones of those named, unusable ones included, in the order named. Units
undefined or CLEAR at the request are left out (R174). -/
def State.secureAmong (s : State) (us : List UnitNo) : List UnitNo := us.filter s.isSecure

/-- The internal erase skips an unusable unit that a DURESS grant names (R86). The other requests skip no unit (R174). -/
def State.skips (s : State) (r : Requester) (u : UnitNo) : Bool := decide (r = .duress) && (s.unitRun u).unusable

/-- The targets that a request adds and the internal erase skips: a unit that stands open for an earlier request is not added,
and stays that request's target (R86, R177). -/
def State.skippedAmong (s : State) (r : Requester) (us : List UnitNo) : List UnitNo :=
  us.filter fun u =>
    s.skips r u && !(s.hasTarget u .pending || s.hasTarget u .claiming || s.hasTarget u .marking)

/-- The record is formed or merged with a request's units, PENDING, the unusable SECURE ones among them (R174, R177). A skipped
target is DONE without a claim, as R175 has one that is undefined or CLEAR before its claim, and its unit keeps every field (R86;
DEDUCED, notes/assumptions/30.md). -/
def State.addTargets (s : State) (r : Requester) (us : List UnitNo) : State :=
  (s.skippedAmong r us).foldl (fun s u => s.moveTarget u .pending .done)
    (s.withErase { s.erase with internal := some (InternalErase.merge s.erase.internal r us) })

/-- An internal erase is requested: the record is formed or merged, descriptor work preempted, and the PENDING targets
claimed, in unit number order, in which those that are OPEN close (R142, R175). A request that leaves no target open completes
at once. A descriptor in WAITING halts PREEMPTED at the request, as R172 and R175 have it, although R164 lets a start that
meets the request wait for the erase's completion (DEDUCED, notes/assumptions/14.md). -/
def State.requestInternal (s : State) (r : Requester) (us : List UnitNo) : State :=
  let s1 := s.addTargets r (s.secureAmong us)
  let s2 := (s1.refreshLeds.preempt).stopNow
  ((List.finRange 8).foldl State.claimTarget s2).completeInternal

/-! ## Targets after their writes (R175) -/

/-- The marker of a target is written: REPLACING, and a replacement on the internal path is requested. -/
def State.targetMarked (s : State) (u : UnitNo) : State :=
  if s.hasTarget u .marking then (s.moveTarget u .marking .replacing).requestKey u .internal else s

/-- A target's replacement is complete: DONE, and then claimed again where it is also PENDING, or released. -/
def State.targetReplaced (s : State) (u : UnitNo) : State :=
  if s.hasTarget u .replacing then
    let s' := s.moveTarget u .replacing .done
    if s'.hasTarget u .pending then (s'.moveTarget u .pending .replacing).requestKey u .internal
    else (s'.releaseUnit u).completeInternal
  else s

/-! ## Key replacement (R77 to R80) -/

/-- A request is refused: the descriptor path on a unit whose generation is at 65,535 (R79). -/
def State.genExhausted (s : State) (q : KeyRequest) : Bool :=
  decide (q.path = .descriptor) && decide (65535 ≤ s.generation q.unit)

/-- The generation raised by one and saturated at 65,535 (R4, R78, R79). -/
def raised (g : Nat) : Nat := min 65535 (g + 1)

/-- A request is taken: a fresh key, the generation raised or held, and the writes of the key and then the unit record;
or GEN_EXHAUSTED, with nothing changed. -/
def State.replaceKey (s : State) (q : KeyRequest) : State :=
  if s.genExhausted q then s.haltDescriptor .genExhausted
  else
    let s1 := (s.setKey q.unit (some s.freshKey)).drawn
    let s2 := s1.setUnitDef q.unit ((s1.unitDef q.unit).map fun d => { d with generation := raised d.generation })
    let s3 := (s2.requestWrite (.key q.unit) []).requestWrite (.unit q.unit) [.replacement q.unit q.path]
    s3.withCipher { s3.cipher with replacing := s3.cipher.replacing ++ [q.unit] }

/-- The first request of a unit is removed. -/
def removeRequest (u : UnitNo) : List KeyRequest → List KeyRequest
  | [] => []
  | q :: qs => if q.unit = u then qs else q :: removeRequest u qs

/-- A unit's request can be taken: SECURE, ERASING, its slot EMPTY, and no replacement of it in progress (R77). -/
def State.replaceable (s : State) (u : UnitNo) : Bool :=
  s.isSecure u && decide (s.unitState u = .erasing) && decide (s.cipher.slots[u].state = .empty) &&
    !s.cipher.replacing.contains u

/-- The Cipher Unit takes a unit's oldest request. -/
def State.takeRequest (s : State) (u : UnitNo) : State :=
  match s.cipher.requests.find? fun q => decide (q.unit = u) with
  | none => s
  | some q =>
    if s.replaceable u then
      (s.withCipher { s.cipher with requests := removeRequest u s.cipher.requests }).replaceKey q
    else s

/-- The answer complete reaches the work that asked. -/
def State.replaced (s : State) (u : UnitNo) (p : KeyPath) : State :=
  match p with
  | .descriptor => s.endGood u
  | .internal =>
    match s.erase.rerun with
    | some r => if r.unit = u && r.stage = .replacing then s.rerunClear u else s.targetReplaced u
    | none => s.targetReplaced u

/-- A replacement is complete at the write completion of its unit record. A request for the unit that waits behind it, or
that a target named again makes at this completion, is taken then (R77, R78, R80). -/
def State.replacementWritten (s : State) (u : UnitNo) (p : KeyPath) : State :=
  ((s.withCipher { s.cipher with replacing := s.cipher.replacing.filter fun v => decide (v ≠ u) }).replaced u p).takeRequest u

/-! ## The start of a descriptor (R164 to R166) -/

/-- The start checks, in order: the outcome of the first that fails. -/
def State.startCheck (s : State) : Option Outcome :=
  match s.currentDescriptor with
  | none => some .stale
  | some d =>
    if d.done then some .stale
    else
      match s.unitDef d.unit with
      | none => some .noUnit
      | some r =>
        match d.work.method, d.work.range with
        | .keyReplace, some _ => some .invalidMethod
        | .keyReplace, none => if r.kind = .clear then some .invalidMethod else none
        | .trim, none => some .invalidMethod
        | .overwrite, none => some .invalidMethod
        | _, some g =>
          if g.count = 0 then some .zeroLength
          else if !rangeFits g.start g.count r.length then some .outOfRange
          else if (s.unitRun d.unit).unusable then some .outOfRange
          else none

/-- The descriptor enters CLAIMING and its unit is claimed. -/
def State.enterClaiming (s : State) (d : Descriptor) : State :=
  let s1 := s.setCurrent fun d => { d with phase := if d.work.method = .keyReplace then none else some (.pass 1), sectorsDone := 0 }
  let s2 := s1.withErase { s1.erase with stage := .claiming, kept := none }
  s2.claimUnit .erase d.unit

/-- The descriptor at the current position starts: it halts at a failed check, and claims its unit otherwise. -/
def State.startDescriptor (s : State) : State :=
  match s.startCheck, s.currentDescriptor with
  | some o, _ => s.haltDescriptor o
  | none, some d => s.enterClaiming d
  | none, none => s

end Sys2Proof.Machine
end

