-- ==== Sys2Proof/Machine/Attempt.lean ====
section
/-! DEFINITION. Attempt Control (R88 to R99), enrollment and its commit (R101 to R105, R123 to R125). -/

namespace Sys2Proof.Machine

/-! ## The charge (R89) -/

/-- A verification request: F raised, the attempt record requested with penalty owed 0, CHARGING; a charge that brings F to
L begins the brute-force erase in its pending stage. -/
def State.charge (s : State) : State :=
  let f := s.attempt.failed + 1
  let s1 := (s.setAttemptRecord ⟨f, 0⟩).requestWrite .attempt [.charge]
  s1.withAttempt { s1.attempt with
    failed := f, phase := .charging,
    brute := if s.store.image.policy.attemptLimit ≤ f then .pending else s1.attempt.brute }

/-! ## Penalties (R95 to R97) -/

/-- The penalty delay after a failure with F (R95). -/
def Policy.penaltyDelay (p : Policy) (f : Nat) : Nat :=
  let e := f - p.freeAttempts - 1
  if 12 ≤ e then p.cap else min p.cap (p.baseDelay * 2 ^ e)

/-- A delay starts: the timer, PENALTY, the attempt record with the delay owed, and PENALTY_START (R96). The replug latch
is due for F at or above P (R97). -/
def State.startPenalty (s : State) : State :=
  let p := s.store.image.policy
  let f := s.attempt.failed
  let d := p.penaltyDelay f
  let s1 := (s.withAttempt { s.attempt with
    phase := .penalty, penaltyTimer := some d, replugDue := decide (p.replugPoint ≤ f), brute := .none })
  (((s1.setAttemptRecord ⟨f, d⟩).requestWrite .attempt []).place (.penaltyStart d)).entryGoes .penalty

/-- Attempt Control returns to IDLE, and the Entry Controller with it. -/
def State.attemptIdle (s : State) : State :=
  (s.withAttempt { s.attempt with phase := .idle, penaltyTimer := none, brute := .none }).entryGoes .idle

/-- The penalty timer expires: penalty owed 0 is written, and REPLUG or IDLE follows (R96, R97). -/
def State.penaltyExpired (s : State) : State :=
  let s1 := (s.setAttemptRecord ⟨s.attempt.failed, 0⟩).requestWrite .attempt []
  if s.attempt.replugDue then
    ((s1.withAttempt { s1.attempt with
      phase := .replug, penaltyTimer := none, replugLatch := true, replugDue := false }).entryGoes .replugWait).place
      .replugRequired
  else s1.attemptIdle

/-! ## The brute-force erase (R99) -/

/-- The erase stage starts: BRUTE_ERASE_START, the session closes, and an internal erase of every SECURE unit is
requested. -/
def State.startBrute (s : State) : State :=
  let s1 := ((s.withAttempt { s.attempt with phase := .bruteForce, brute := .erasing }).place .bruteEraseStart).closeSession
  (s1.entryGoes .verifying).requestInternal .bruteForce s1.secureUnits

/-! ## The verdict (R90 to R94) -/

/-- A failed attempt acts by F (R94; an F above L: DESIGN CHOICE, notes/assumptions/15.md). -/
def State.failureByF (s : State) : State :=
  let p := s.store.image.policy
  if p.attemptLimit ≤ s.attempt.failed then s.startBrute
  else if s.attempt.failed ≤ p.freeAttempts then s.attemptIdle
  else s.startPenalty

/-- FAIL shows and ATTEMPT_FAILED is placed. -/
def State.showFailure (s : State) : State := s.showFail.place (.attemptFailed s.attempt.failed)

/-- No match (R94). -/
def State.failedAttempt (s : State) : State := s.showFailure.failureByF

/-- The units of the DURESS slot's grants, in list order (R174). -/
def State.duressUnits (s : State) : List UnitNo := (s.cred 5).grants.map Grant.unit

/-- A match on the DURESS slot: the internal erase of its units, then the failure path, or the brute-force erase where F
equals L, with ATTEMPT_FAILED after both requests (R93). -/
def State.duressMatch (s : State) : State :=
  let s1 := s.requestInternal .duress s.duressUnits
  if s.store.image.policy.attemptLimit ≤ s.attempt.failed then s1.startBrute.place (.attemptFailed s.attempt.failed) |>.showFail
  else s1.failedAttempt

/-- A counted use is spent; the last one makes the slot SPENT, and the credential record is requested (R92). -/
def State.spendUse (s : State) (k : SlotNo) : State :=
  match (s.cred k).usesLeft with
  | none => s
  | some n =>
    (s.setCred k { s.cred k with usesLeft := some (n - 1), state := if n ≤ 1 then .spent else .active }).requestWrite
      (.credential k) []

/-- A match on ADMIN or a USER slot: a use spent where they are counted, F 0 written, the open request, the session for
ADMIN, OK, and IDLE (R91, R92). -/
def State.goodMatch (s : State) (k : SlotNo) : State :=
  let grants := (s.cred k).grants
  let s1 := if k = 0 then s else s.spendUse k
  let s2 := (s1.withAttempt { s1.attempt with failed := 0 }).setAttemptRecord ⟨0, 0⟩
  let s3 := (s2.requestWrite .attempt []).openRequest k grants
  let s4 := if k = 0 then s3.openSession else s3
  s4.showOk.attemptIdle

/-- The charge is written: the entry is compared, the buffer cleared, and the result taken (R89, R90). -/
def State.verdict (s : State) : State :=
  if s.attempt.phase = .charging then
    let s' := s.withEntry { s.entry with buffer := [] }
    match s.matchingSlot s.entry.buffer with
    | none => s'.failedAttempt
    | some k => if k = 5 then s'.duressMatch else s'.goodMatch k
  else s

/-! ## Enrollment (R101 to R105, R123 to R125) -/

/-- A slot becomes ENROLLING, and the Entry Controller gathers its first entry within the window. -/
def State.startEnrolling (s : State) (t : EnrollTarget) : State :=
  (s.withEnrolling (some { slot := t.slot, before := (s.cred t.slot).state })).withEntry
    { s.entry with state := .enrollFirst, buffer := [], first := none, target := some t, interKeyTimer := none,
                   window := some enrollTime }

/-- The slot that a long press selects, with whether it is bound to the session (R102). -/
def State.longPressTarget (s : State) : Option EnrollTarget :=
  if s.factory then some { slot := 0, uses := none, sessionBound := false }
  else if s.control.session &&
      (List.finRange 8).any (fun u => decide (s.unitState u = .opened) && decide ((s.unitRun u).opener = some 0)) then
    some { slot := 0, uses := none, sessionBound := true }
  else
    match s.control.openOrder.getLast?.bind fun u => (s.unitRun u).opener with
    | some k => if k ≠ 0 && k ≠ 5 && s.isActive k then some { slot := k, uses := none, sessionBound := false } else none
    | none => none

/-- A long press: in IDLE it selects a slot or shows FAIL; in any other state it is ignored (R123). -/
def State.longPress (s : State) : State :=
  if s.entry.state = .idle then
    match s.longPressTarget with
    | some t => s.startEnrolling t
    | none => s.showFail
  else s

/-- The checks of R103 on the two entries, in order: the reason of the first that fails. -/
def State.enrollCheck (s : State) (first second : List Digit) : Option AbandonReason :=
  if first.length < s.store.image.policy.minPin || second.length < s.store.image.policy.minPin then some .short
  else if first ≠ second then some .mismatch
  else if (s.matchingSlot second).isSome then some .pinInUse
  else none

/-- The credential record of a commit: ACTIVE, the fresh salt and the new verifier, the kept grants, and the uses left of
the ENROLL or as they stand (R101, R102, R104). -/
def State.committedRecord (s : State) (t : EnrollTarget) (pin : List Digit) : CredRecord :=
  { s.cred t.slot with
    state := .active, salt := some s.freshSalt, verifier := some (verifierOf s.freshSalt pin),
    usesLeft := match t.uses with
      | none => (s.cred t.slot).usesLeft
      | some n => countdown n }

/-- The checks pass: the enrollment is committed (R104, R125). -/
def State.commit (s : State) (t : EnrollTarget) (pin : List Digit) : State :=
  let s1 := ((s.setCred t.slot (s.committedRecord t pin)).drawn).requestWrite (.credential t.slot) [.commit]
  s1.withEntry { s1.entry with
    state := .verifying, buffer := [], first := none, commitPending := true, commitRemoved := false,
    interKeyTimer := none, window := none }

/-- The commit's write completes: ENROLL_DONE, or ENROLL_FAILED for a slot removed since (R104, R107, R125). -/
def State.commitWritten (s : State) : State :=
  match s.entry.commitPending, s.entry.target with
  | true, some t =>
    let s1 := if s.entry.commitRemoved then s else s.withEnrolling none
    let s2 := s1.withEntry { s1.entry with commitPending := false, commitRemoved := false, target := none }
    (if s.entry.commitRemoved then (s2.showFail.place (.enrollFailed t.slot .removed)).entryGoes .idle
     else (s2.showOk.place (.enrollDone t.slot)).entryGoes .idle).reevaluate
  | _, _ => s

/-- The clearing stage ends: IDLE, the replug latch clear, and BRUTE_ERASE_DONE (R99). -/
def State.clearingWritten (s : State) : State :=
  if s.attempt.brute = .clearing then
    ((s.withAttempt { s.attempt with replugLatch := false, replugDue := false }).attemptIdle).place .bruteEraseDone
  else s

end Sys2Proof.Machine
end

