-- ==== Sys2Proof/Machine/TamperMonitor.lean ====
section
/-! DEFINITION. The Tamper Monitor (09_tamper_monitor.md): runs and levels, alarms, the enclosure trip, and what a policy
change does to its channels. -/

namespace Sys2Proof.Machine

/-! ## Supply and temperature alarms (R183 to R185) -/

/-- What follows the change of an alarm: the disabling conditions for the supply channels. -/
def State.alarmChanged (s : State) (c : Fin 4) : State := if c.val < 2 then s.reevaluate else s

/-- The alarm of channel 0, 1 or 2 is raised, with its effects: TEMPERATURE closes every OPEN unit, and VBUS_LOW disables
entry; its holds on the store and on descriptor starts are read where they act. TAMPER_ALARM is placed before what the alarm's
effects place: the UNIT_LOCKED entries of the closes, or the ENROLL_FAILED of an enrollment that VBUS_LOW abandons (the order:
DESIGN CHOICE, notes/assumptions/16.md). -/
def State.raiseAlarm (s : State) (c : Fin 4) (v : Sample) : State :=
  let s' := (s.setChannel c { s.channel c with alarm := true }).place (.tamperAlarm c v)
  if c = 2 then s'.closeAll .temperature else s'.alarmChanged c

/-- A standing alarm of channel 0, 1 or 2 is cleared. -/
def State.clearAlarm (s : State) (c : Fin 4) (d : ClearDetail) : State :=
  if (s.channel c).alarm then
    ((s.setChannel c { s.channel c with alarm := false }).place (.tamperClear c d)).alarmChanged c
  else s

/-! ## The enclosure trip (R186 to R189) -/

/-- A trip before the marker reruns of start-up have ended leaves its erase owed (R189). -/
def State.eraseLeftOwed (s : State) : Bool :=
  decide (s.power.startUp = .step2) || decide (s.power.startUp = .step4Reruns)

/-- An enclosure trip, in the order of R187. -/
def State.trip (s : State) (v : Sample) : State :=
  let zeroize := decide (s.store.image.policy.action = .zeroize)
  let owed := zeroize || s.tamper.zeroizeOwed
  let s1 := (s.closeAll .enclosure).closeSession
  let s2 := s1.setChannel 3 { s1.channel 3 with alarm := true }
  let s3 := (s2.withTamper { s2.tamper with zeroizeOwed := owed }).setLatchRecord ⟨true, owed⟩
  let s4 := (s3.requestWrite .latch []).place (.tamperAlarm 3 v)
  (if zeroize && !s4.eraseLeftOwed then s4.requestInternal .zeroize s4.secureUnits else s4).reevaluate

/-! ## Levels and samples (R182) -/

/-- The effects of a change of level (R183, R186). -/
def State.levelChanged (s : State) (c : Fin 4) (v : Sample) : Level → State
  | .outOfRange => if c = 3 then s.trip v else s.raiseAlarm c v
  | .inRange => if c = 3 then s else s.clearAlarm c .inRange

/-- A channel after one sample: last value and runs, with the level as it stood. -/
def Channel.sampled (k : Channel) (p : ChannelPolicy) (v : Sample) : Channel :=
  if p.inRange v then { k with last := v, inRun := min 3 (k.inRun + 1), outRun := 0 }
  else { k with last := v, outRun := min 3 (k.outRun + 1), inRun := 0 }

/-- The level that the runs call for, when it is another than the one that stands. -/
def Channel.newLevel (k : Channel) : Option Level :=
  match k.level with
  | .inRange => if k.outRun = 3 then some .outOfRange else none
  | .outOfRange => if k.inRun = 3 then some .inRange else none

/-- The level changes, with its effects. -/
def State.changeLevel (s : State) (c : Fin 4) (v : Sample) (l : Level) : State :=
  (s.setChannel c { s.channel c with level := l }).levelChanged c v l

/-- One sample of a channel: taken once sampling has begun, when the channel is enabled. -/
def State.sampleChannel (s : State) (c : Fin 4) (v : Sample) : State :=
  if s.tamper.sampling && (s.channelPolicy c).enabled then
    let k := (s.channel c).sampled (s.channelPolicy c) v
    match k.newLevel with
    | none => s.setChannel c k
    | some l => (s.setChannel c k).changeLevel c v l
  else s

/-- A completed run, told as one event: the channel is sampled, its level is not yet the new one, and the value lies on the
new side (DEDUCED, notes/assumptions/20.md). -/
def State.completeRun (s : State) (c : Fin 4) (v : Sample) (l : Level) : State :=
  let p := s.channelPolicy c
  if s.tamper.sampling && p.enabled && decide ((s.channel c).level ≠ l) && (p.inRange v == decide (l = .inRange)) then
    (s.setChannel c { s.channel c with
      last := v, outRun := if l = .outOfRange then 3 else 0, inRun := if l = .inRange then 3 else 0 }).changeLevel c v l
  else s

/-! ## A policy change (R191) -/

/-- A channel that becomes disabled: runs 0; channels 0 to 2 go to level IN and a standing alarm clears with DISABLED;
channel 3 goes to OUT where the latch is set. -/
def State.disableChannel (s : State) (c : Fin 4) : State :=
  let k := { s.channel c with outRun := 0, inRun := 0 }
  if c = 3 then s.setChannel c { k with level := if k.alarm then .outOfRange else .inRange }
  else (s.setChannel c { k with level := .inRange }).clearAlarm c .disabled

/-- A channel that becomes enabled: runs from 0, level as it stands. -/
def State.enableChannel (s : State) (c : Fin 4) : State := s.setChannel c { s.channel c with outRun := 0, inRun := 0 }

/-- What a new policy does to one channel; the new policy stands in the image. -/
def State.applyChannel (s : State) (old : Policy) (c : Fin 4) : State :=
  match old.channels[c].enabled, (s.channelPolicy c).enabled with
  | true, false => s.disableChannel c
  | false, true => s.enableChannel c
  | _, _ => s

/-- An accepted policy stands in the image and acts on each block; channel by channel in the monitor, and through the
disabling conditions for a change of the enclosure action (R191, R217). The manual says "channel by channel" and no order of
the channels; the model goes from 0 to 3 (DESIGN CHOICE, notes/assumptions/16.md). -/
def State.applyPolicy (s : State) (p : Policy) : State :=
  ((List.finRange 4).foldl (fun t c => t.applyChannel s.store.image.policy c) (s.setPolicy p)).reevaluate

end Sys2Proof.Machine
end

