-- ==== Sys2Proof/Machine/Keypad.lean ====
section
/-! DEFINITION. The Keypad Scanner and what its presses do at the Entry Controller (R110 to R125). -/

namespace Sys2Proof.Machine

/-! ## What is delivered to the Entry Controller -/

/-- The states in which digits are gathered. -/
def EntryCtl.gathers : EntryCtl → Bool
  | .collecting | .enrollFirst | .enrollConfirm => true
  | .disabled | .idle | .verifying | .penalty | .replugWait => false

/-- A digit press (R117). -/
def State.digitPress (s : State) (d : Digit) : State :=
  if s.entry.state = .idle then
    (s.withEntry { s.entry with state := .collecting, buffer := [d], interKeyTimer := some interKeyTime }).showPulse
  else if s.entry.state.gathers then
    if s.entry.buffer.length < 16 then
      (s.withEntry { s.entry with buffer := s.entry.buffer ++ [d], interKeyTimer := some interKeyTime }).showPulse
    else s.withEntry { s.entry with interKeyTimer := some interKeyTime }
  else s

/-- The first entry of an enrollment ends (R124). -/
def State.firstEntryEnds (s : State) : State :=
  s.withEntry { s.entry with state := .enrollConfirm, first := some s.entry.buffer, buffer := [], interKeyTimer := none }

/-- The confirming entry ends: the enrollment is committed or abandoned (R103, R125). -/
def State.confirmEnds (s : State) : State :=
  match s.entry.first, s.entry.target with
  | some first, some t =>
    match s.enrollCheck first s.entry.buffer with
    | none => s.commit t s.entry.buffer
    | some r => s.abandonAny r
  | _, _ => s

/-- A KEY press (R118, R124). -/
def State.keyPress (s : State) : State :=
  match s.entry.state with
  | .collecting =>
    if s.entry.buffer.length < s.store.image.policy.minPin then
      ((s.clearEntry).withEntry { s.clearEntry.entry with state := .idle }).showFail
    else (s.withEntry { s.entry with state := .verifying, interKeyTimer := none }).charge
  | .enrollFirst => if s.entry.buffer.isEmpty then s else s.firstEntryEnds
  | .enrollConfirm => if s.entry.buffer.isEmpty then s else s.confirmEnds
  | .disabled | .idle | .verifying | .penalty | .replugWait => s

/-- The effect of a LOCK press on the entry (R120). -/
def State.lockEntry (s : State) : State :=
  match s.entry.state with
  | .collecting => (s.clearEntry).withEntry { s.clearEntry.entry with state := .idle }
  | .enrollFirst | .enrollConfirm => s.abandonAny .lock
  | .disabled | .idle | .verifying | .penalty | .replugWait => s

/-- A LOCK press: every OPEN unit closes, and the session (R120, R147). The entry is discarded or abandoned before them, so
that ENROLL_FAILED stands before the UNIT_LOCKED entries; the manual orders the abandonment before the session's close
alone (DESIGN CHOICE, notes/assumptions/16.md). -/
def State.lockPress (s : State) : State := (s.lockEntry.closeAll .lockKey).closeSession

/-- The inter-key timer expires: the entry being typed is discarded (R119). -/
def State.interKeyExpired (s : State) : State :=
  match s.entry.state with
  | .collecting => (s.clearEntry).withEntry { s.clearEntry.entry with state := .idle }
  | .enrollFirst | .enrollConfirm => s.clearEntry
  | .disabled | .idle | .verifying | .penalty | .replugWait => s

/-! ## The scanner (R110 to R115) -/

/-- The place of a key in a sample: the digits, KEY, LOCK. -/
def padIndex : PadKey → Fin 12
  | .digit d => ⟨d.val, by omega⟩
  | .key => 10
  | .lock => 11

/-- The twelve keys. -/
def allKeys : List PadKey := (List.finRange 10).map PadKey.digit ++ [.key, .lock]

/-- The stable level of a key is DOWN. -/
def Scanner.isDown (k : Scanner) (p : PadKey) : Bool := k.down[padIndex p]

/-- The stable level of a key changes and its run is 0 (R111). -/
def Scanner.setLevel (k : Scanner) (p : PadKey) (down : Bool) : Scanner :=
  { k with down := k.down.set (padIndex p) down, run := k.run.set (padIndex p) 0 }

/-- One sample against a stable level and its run (R111). -/
def debounce (stable : Bool) (run : Nat) (sample : Bool) : Bool × Nat :=
  if sample = stable then (stable, 0) else if 2 ≤ run then (sample, 0) else (stable, run + 1)

/-- A recognised press is key activity: the rest timer restarts, and the first of a standby period signals resume where
remote wake is enabled (R112, R128, R133). -/
def State.keyActivity (s : State) : State :=
  let s' := s.withLeds { s.leds with restTimer := some restTime }
  if s.port.standby && !s.port.pressSeen then
    s'.withPort { s.port with pressSeen := true, resumeSignalled := s.port.remoteWake }
  else s'

/-- A key becomes held: a digit or LOCK is delivered, and KEY starts the hold timer (R112, R114). -/
def State.holdKey (s : State) (p : PadKey) : State :=
  let s' := s.withScanner { s.scanner with held := some p, holdTimer := if p = .key then some holdTime else none }
  match p with
  | .digit d => s'.digitPress d
  | .lock => s'.lockPress
  | .key => s'

/-- The presses recognised in one sample are taken: one with no key held and lockout clear is acted on, two or more set
lockout, and any other is ignored (R112, R113). -/
def State.takePresses (s : State) (ps : List PadKey) : State :=
  match ps with
  | [] => s
  | [p] => if s.scanner.held = none && !s.scanner.lockout then s.keyActivity.holdKey p else s.keyActivity
  | _ =>
    let s' := s.keyActivity
    if s.scanner.held = none && !s.scanner.lockout then s'.withScanner { s'.scanner with lockout := true } else s'

/-- A recognised release: the held key is let go, and a KEY whose hold timer runs is delivered (R112, R114). -/
def State.takeRelease (s : State) (p : PadKey) : State :=
  if s.scanner.held = some p then
    let s' := s.withScanner { s.scanner with held := none, holdTimer := none }
    if p = .key && s.scanner.holdTimer.isSome then s'.keyPress else s'
  else s

/-- Lockout clears once every key's stable level is UP (R113). -/
def State.clearLockout (s : State) : State :=
  if allKeys.any s.scanner.isDown then s else s.withScanner { s.scanner with lockout := false }

/-- The switch changes its stable level, with WP_CHANGED (R115). -/
def State.switchChanged (s : State) (on : Bool) : State :=
  (s.withScanner { s.scanner with switchOn := on, switchRun := 0 }).place (.wpChanged on)

/-- The switch's part of a sample: the first level since power-on stands without debouncing and without an event (R110,
R111; DESIGN CHOICE, notes/assumptions/13.md). -/
def State.sampleSwitch (s : State) (on : Bool) : State :=
  if s.scanner.switchSampled then
    let (level, run) := debounce s.scanner.switchOn s.scanner.switchRun on
    if level = s.scanner.switchOn then s.withScanner { s.scanner with switchRun := run } else s.switchChanged level
  else s.withScanner { s.scanner with switchOn := on, switchSampled := true, switchRun := 0 }

/-- A key's level in a sample. -/
def sampledDown (keys : BitVec 12) (p : PadKey) : Bool := keys.getLsbD (padIndex p).val

/-- The keys whose stable level a sample changes to the given level. -/
def Scanner.recognised (k : Scanner) (keys : BitVec 12) (down : Bool) : List PadKey :=
  allKeys.filter fun p =>
    decide (sampledDown keys p = down) && decide (k.isDown p ≠ down) && decide (2 ≤ k.run[padIndex p])

/-- The levels and runs of all keys after a sample (R111). -/
def Scanner.sampled (k : Scanner) (keys : BitVec 12) : Scanner :=
  { k with
    down := Vector.ofFn fun i => (debounce k.down[i] k.run[i] (keys.getLsbD i.val)).1,
    run := Vector.ofFn fun i => (debounce k.down[i] k.run[i] (keys.getLsbD i.val)).2 }

/-- One sample of all keys and the switch, taken whole: releases before presses, then lockout, then the switch (R111 to
R113, R115; DESIGN CHOICE, notes/assumptions/13.md). -/
def State.sampleKeys (s : State) (keys : BitVec 12) (switchOn : Bool) : State :=
  let released := s.scanner.recognised keys false
  let pressed := s.scanner.recognised keys true
  let s1 := s.withScanner (s.scanner.sampled keys)
  (((released.foldl State.takeRelease s1).takePresses pressed).clearLockout).sampleSwitch switchOn

end Sys2Proof.Machine
end

