-- ==== Sys2Proof/Machine/StartUp.lean ====
section
/-! DEFINITION. Power-on, the capacity read's end and start-up (R20, R54, R98, R178, R189, R202 to R207). -/

namespace Sys2Proof.Machine

/-! ## Steps 1 and 2 -/

/-- The array as it loads: a key beside a CLEAR or undefined unit record is disregarded (R76, R203). -/
def Records.loaded (r : Records) : Records :=
  { r with keys := Vector.ofFn fun u =>
      match r.units[u] with
      | some d => if d.kind = .secure then r.keys[u] else none
      | none => none }

/-- A unit as it loads: ERASING when its marker is present and LOCKED otherwise (R8). Until the capacity check sets it, the
unusable flag reads no, which STATUS shows (DESIGN CHOICE, notes/assumptions/25.md). -/
def loadedUnit : Option UnitDef → UnitRun
  | some d => { UnitRun.fresh with state := if d.marker.isSome then .erasing else .locked }
  | none => .fresh

/-- Application of VBUS: every block takes its power-on state, the records load, the capacity read presents need, and the
rest timer starts (R54, R134, R202, R203). The queue of commands and the count of free values drawn are the model's own and
go on. -/
def State.powered (s : State) : State :=
  let image := s.store.array.loaded
  let s0 := State.unpowered s.store.array
  let s1 := { s0 with
    pending := s.pending, draws := s.draws, power := { vbus := true, startUp := .step2 },
    store := { s0.store with image := image }, units := image.units.map loadedUnit,
    link := { s0.link with capacityRead := .awaitingRail }, leds := { s0.leds with restTimer := some restTime } }
  s1.followNeed.refreshLeds

/-- Loss of power: all volatile state goes, and the array keeps each record's last completed write (R196). -/
def State.unpoweredOf (s : State) : State :=
  { State.unpowered s.store.array with pending := s.pending, draws := s.draws }

/-- A range ends within a capacity, in the two comparisons of R15. -/
def fitsCapacity (m base length : Nat) : Bool := decide (length ≤ m) && decide (base ≤ m - length)

/-- The capacity check on one unit: unusable when its range extends past M; usable when no M is known (R20). -/
def checkedUnit (m : Option Nat) (d : Option UnitDef) (r : UnitRun) : UnitRun :=
  match m, d with
  | some m, some d => { r with unusable := !fitsCapacity m d.base d.length }
  | _, _ => { r with unusable := false }

/-- Unit Control compares every defined unit with M. -/
def State.capacityCheck (s : State) (m : Option Nat) : State :=
  s.withUnits (Vector.ofFn fun u => checkedUnit m (s.unitDef u) (s.unitRun u))

/-! ## Step 3 -/

/-- F goes to Attempt Control, the latch and zeroize owed to the Tamper Monitor, and sampling starts (R189, R204). -/
def State.stepThree (s : State) : State :=
  let l := s.store.image.latch
  let s1 := s.withAttempt { s.attempt with failed := s.store.image.attempt.failed }
  let s2 := s1.setChannel 3 { s1.channel 3 with
    alarm := l.latched, level := if l.latched then .outOfRange else .inRange }
  s2.withTamper { s2.tamper with zeroizeOwed := l.zeroizeOwed, sampling := true }

/-- The capacity read ends with M or without: the link READY or ABSENT, need withdrawn, and step 2 of start-up ends with the
capacity check; step 3 follows at once (R54, R203, R204). -/
def State.endCapacityRead (s : State) (m : Option Nat) : State :=
  let s1 := s.withLink { s.link with
    state := if m.isSome then .ready else .absent, capacity := m, capacityRead := .idle }
  if s.power.startUp = .step2 then
    ((s1.capacityCheck m).stepThree).withPower { s1.power with startUp := .step4Reruns }
  else s1

/-! ## Steps 4 to 6 -/

/-- The next unit to rerun: ERASING with a marker, the lowest number first (R178). -/
def State.nextMarked (s : State) : Option (UnitNo × EraseWork) :=
  (List.finRange 8).findSome? fun u =>
    if s.unitState u = .erasing then (s.marker u).map fun w => (u, w) else none

/-- The device leaves CONFIGURING, and the Entry Controller re-evaluates (R127, R207). -/
def State.finishStartUp (s : State) : State := (s.withPower { s.power with startUp := .done }).reevaluate

/-- Step 6 sets Attempt Control's phase: the brute-force erase for a loaded F at L, the owed penalty in full, or IDLE (R98,
R207; an F above L: DESIGN CHOICE, notes/assumptions/15.md). -/
def State.stepSix (s : State) : State :=
  let owed := s.store.image.attempt.owed
  if s.store.image.policy.attemptLimit ≤ s.attempt.failed then
    (s.withPower { s.power with startUp := .step6 }).startBrute
  else if 0 < owed then
    ((s.withAttempt { s.attempt with phase := .penalty, penaltyTimer := some owed, replugDue := false }).place
      (.penaltyStart owed)).finishStartUp
  else s.finishStartUp

/-- The owed enclosure erase is requested, once the reruns have ended (R189). -/
def State.requestOwed (s : State) : State :=
  (s.withPower { s.power with startUp := .step4Owed }).requestInternal .zeroize s.secureUnits

/-- The last rerun has ended: the engine becomes IDLE, and the owed erase or step 6 follows (R178, R205). -/
def State.endReruns (s : State) : State :=
  let s' := s.withErase { s.erase with state := .idle }
  if s.tamper.zeroizeOwed then s'.requestOwed else s'.stepSix

/-- The next move of start-up, when one is due. -/
def State.advanceStartUp (s : State) : Option State :=
  match s.power.startUp with
  | .step4Reruns =>
    if s.erase.rerun.isSome then none
    else
      match s.nextMarked with
      | some (u, w) => some (s.startRerun u w)
      | none => some s.endReruns
  | .step4Owed => if s.tamper.zeroizeOwed then none else some s.stepSix
  | .step6 => if s.attempt.phase = .idle then some s.finishStartUp else none
  | .step2 | .done => none

end Sys2Proof.Machine
end

