-- ==== Sys2Proof/Machine/Management.lean ====
section
/-! DEFINITION. The Management Handler (R209 to R212) and the effect of each management command when it is taken. -/

namespace Sys2Proof.Machine

/-! ## The command in progress -/

/-- An entry ends with a status, or is dropped where a bus reset left it (R46). -/
def State.endOrDrop (s : State) (t : Tag) (v : Verdict) : State :=
  match s.entryOf t with
  | some e => if e.orphan then s.dropEntry t else s.endEntry t v
  | none => s

/-- The Handler fixes the status of the command in progress, which ends (R212). -/
def State.endManagement (s : State) (st : Status) : State :=
  match s.handler with
  | some t => (s.withHandler none).endOrDrop t (.plain st)
  | none => s

/-- The returned data of the command in progress is held in its entry (R41). -/
def State.returnData (s : State) (content : List Byte) : State :=
  match s.handler with
  | some t => s.updateEntry t fun e => { e with returned := some (transferOf content) }
  | none => s

/-! ## STATUS and EVENT READ (R213, R220) -/

/-- STATUS: the snapshot of the taking, GOOD. -/
def State.runStatus (s : State) : State := ((s.returnData s.statusContent).drawn).endManagement .good

/-- EVENT READ: every entry moves into the returned data with the lost flag, which is cleared with attention (R220, R221). -/
def State.runEventRead (s : State) : State :=
  ((s.returnData (eventReadContent s.events.entries s.events.lost)).withEvents
    { entries := [], lost := false, attention := false }).endManagement .good

/-! ## UNIT DEFINE and UNIT DELETE (R14 to R18) -/

/-- The unit's present condition refuses a definition or deletion: not LOCKED, marked, its clearing write not complete, or
named by a storage entry of the queue (R14). An undefined unit passes. -/
def State.unitHeld (s : State) (u : UnitNo) : Bool :=
  match s.unitDef u with
  | none => false
  | some d =>
    decide (s.unitState u ≠ .locked) || d.marker.isSome || s.writeOutstanding (.unit u) ||
      s.queue.any fun e => e.names u && e.op.usesMedia

/-- The new range shares a sector with another defined unit's (R15). -/
def State.overlapsOther (s : State) (u : UnitNo) (d : UnitDef) : Bool :=
  (List.finRange 8).any fun v =>
    decide (v ≠ u) &&
      match s.unitDef v with
      | some o => rangesOverlap d.base d.length o.base o.length
      | none => false

/-- The new record stands at once: LOCKED, generation 0, usable (R16). -/
def State.putUnit (s : State) (u : UnitNo) (d : Option UnitDef) : State := (s.setUnitDef u d).setUnit u .fresh

/-- An accepted definition: a fresh key for a SECURE unit and the key record written first, or no key and the unit record
written first; the command waits for the second (R16, R17). -/
def State.acceptDefine (s : State) (u : UnitNo) (d : UnitDef) : State :=
  let s1 := s.putUnit u (some d)
  match d.kind with
  | .secure =>
    (((s1.setKey u (some s1.freshKey)).drawn).requestWrite (.key u) []).requestWrite (.unit u) [.management]
  | .clear => ((s1.setKey u none).requestWrite (.unit u) []).requestWrite (.key u) [.management]

/-- UNIT DEFINE. -/
def State.runUnitDefine (s : State) (b : List Byte) : State :=
  if s.mediaAbsent then s.endManagement .notReady
  else
    match defineOf b with
    | none => s.endManagement .invalid
    | some (u, d) =>
      if s.unitHeld u then s.endManagement .unitBusy
      else if !fitsCapacity (s.link.capacity.getD 0) d.base d.length then s.endManagement .outOfRange
      else if s.overlapsOther u d then s.endManagement .overlap
      else s.acceptDefine u d

/-- An accepted deletion: the record and its key go at once, and the unit record is written first (R18). -/
def State.acceptDelete (s : State) (u : UnitNo) : State :=
  (((s.putUnit u none).setKey u none).requestWrite (.unit u) []).requestWrite (.key u) [.management]

/-- UNIT DELETE. -/
def State.runUnitDelete (s : State) (b : List Byte) : State :=
  match unitOf (byteAt b 0) with
  | none => s.endManagement .noUnit
  | some u =>
    if (s.unitDef u).isNone then s.endManagement .noUnit
    else if s.unitHeld u then s.endManagement .unitBusy
    else s.acceptDelete u

/-! ## GRANT SET, CREDENTIAL REMOVE and ENROLL (R101, R106, R107) -/

/-- GRANT SET: the list replaces the slot's at once, and the command waits for the credential record. -/
def State.runGrantSet (s : State) (b : List Byte) : State :=
  match grantsOf b with
  | none => s.endManagement .invalid
  | some (k, gs) => (s.setCred k { s.cred k with grants := gs }).requestWrite (.credential k) [.management]

/-- The enrollment of a removed slot: an uncommitted one is abandoned with REMOVED, and a committed one will end without its
slot (R107). -/
def State.removeEnrollment (s : State) (k : SlotNo) : State :=
  match s.entry.target with
  | some t =>
    if t.slot = k then
      if s.entry.commitPending then (s.withEntry { s.entry with commitRemoved := true }).withEnrolling none
      else s.abandon k .removed
    else s
  | none => s

/-- The removal of slot 0 makes the device FACTORY and closes the session (R87, R107). -/
def State.removedRole (s : State) (k : SlotNo) : State := if k = 0 then s.closeSession.reevaluate else s

/-- CREDENTIAL REMOVE: the slot is EMPTY at once, in any state. -/
def State.runCredentialRemove (s : State) (b : List Byte) : State :=
  match slotOf (byteAt b 0) with
  | none => s.endManagement .invalid
  | some k =>
    (((s.setCred k .blank).requestWrite (.credential k) [.management]).removeEnrollment k).removedRole k

/-- ENROLL: the slot is ENROLLING, the Entry Controller in ENROLL_FIRST and the window running; GOOD at once. -/
def State.runEnroll (s : State) (b : List Byte) : State :=
  match enrollOf b with
  | none => s.endManagement .invalid
  | some (k, uses) =>
    if s.entry.state = .idle then
      (s.startEnrolling { slot := k, uses := some uses, sessionBound := s.control.session }).endManagement .good
    else s.endManagement .notReady

/-! ## POLICY SET (R216, R217) -/

/-- POLICY SET: clamped and refused, or in the image at once and written. -/
def State.runPolicySet (s : State) (b : List Byte) : State :=
  match policyOf s.store.image.policy s.attempt.failed b with
  | none => s.endManagement .invalid
  | some p => (s.applyPolicy p).requestWrite .policy [.management]

/-! ## LOCK (R148) -/

/-- LOCK: every OPEN unit of the mask closes, and a mask of all eight closes the session; GOOD at once. The units close
first, so that their UNIT_LOCKED entries stand before the ENROLL_FAILED of a session-bound enrollment; the manual gives no
order of the two (DESIGN CHOICE, notes/assumptions/16.md). -/
def State.runLock (s : State) (b : List Byte) : State :=
  let s' := s.closeUnits .lockCommand ((List.finRange 8).filter (maskNames b))
  (if maskFull b then s'.closeSession else s').endManagement .good

/-! ## The list commands (R159 to R162) -/

/-- ERASE LIST WRITE. -/
def State.runEraseListWrite (s : State) (b : List Byte) : State :=
  match descriptorOf b with
  | none => s.endManagement .invalid
  | some (p, d) =>
    if s.erase.state ≠ .idle && s.erase.inWindow p then s.endManagement .listBusy
    else (s.withErase { s.erase with list := s.erase.list.set p (some d) }).endManagement .good

/-- ERASE TAIL. -/
def State.runEraseTail (s : State) (b : List Byte) : State :=
  match positionOf (byteAt b 0) with
  | none => s.endManagement .invalid
  | some p =>
    let moved := s.withErase { s.erase with tail := p }
    match s.erase.state with
    | .idle => (if p = s.erase.current then moved else moved.enterWaiting).endManagement .good
    | .running | .halted =>
      if p = s.erase.current then s.endManagement .tailInvalid else moved.endManagement .good

/-- ERASE ABORT: a RUNNING engine without a stop request takes ABORTED, acted on at the next boundary; GOOD at once. -/
def State.runEraseAbort (s : State) : State :=
  (if s.erase.state = .running && s.erase.stop = .none then (s.withErase { s.erase with stop := .aborted }).stopNow
   else s).endManagement .good

/-- ERASE CLEAR: a HALTED engine goes on past the position. -/
def State.runEraseClear (s : State) : State :=
  (if s.erase.state = .halted then
    let next := s.erase.current + 1
    let s' := s.withErase { s.erase with current := next, stop := .none }
    if next = s.erase.tail then s'.enterIdle else s'.enterWaiting
   else s).endManagement .good

/-! ## TAMPER CLEAR (R190) -/

/-- The loop still reads out: channel 3 enabled, and its level OUT or its last sample out of range (R190). The last sample
is held against the thresholds that stand when TAMPER CLEAR is taken, also where a POLICY SET has changed them since the
sample; the manual does not say which (DESIGN CHOICE, notes/assumptions/29.md). -/
def State.loopOut (s : State) : Bool :=
  (s.channelPolicy 3).enabled &&
    (decide ((s.channel 3).level = .outOfRange) || !(s.channelPolicy 3).inRange (s.channel 3).last)

/-- TAMPER CLEAR that has passed the Handler's checks. One that a trip precedes is INVALID here, as R192 has it, but reaches this
only where the gate passes (DEDUCED, notes/assumptions/32.md). -/
def State.runTamperClear (s : State) : State :=
  if !s.latch then s.endManagement .good
  else if s.tamper.zeroizeOwed then s.endManagement .invalid
  else if s.loopOut then s.endManagement .invalid
  else
    let s1 := (s.setChannel 3 { s.channel 3 with alarm := false }).setLatchRecord ⟨false, false⟩
    ((s1.requestWrite .latch [.management]).place (.tamperClear 3 .cleared)).reevaluate

/-! ## Taking a command (R209 to R211) -/

/-- The effect of a management op with its block. -/
def State.runManagement (s : State) (op : Op) (b : List Byte) : State :=
  match op with
  | .status => s.runStatus
  | .eventRead => s.runEventRead
  | .unitDefine => s.runUnitDefine b
  | .unitDelete => s.runUnitDelete b
  | .grantSet => s.runGrantSet b
  | .credentialRemove => s.runCredentialRemove b
  | .enroll => s.runEnroll b
  | .policySet => s.runPolicySet b
  | .lock => s.runLock b
  | .eraseListWrite => s.runEraseListWrite b
  | .eraseTail => s.runEraseTail b
  | .eraseAbort => s.runEraseAbort
  | .eraseClear => s.runEraseClear
  | .tamperClear => s.runTamperClear
  | .read | .write | .trim | .sync | .unitInfo => s

/-- The ops served while CONFIGURING (R202, R210). -/
def Op.servedConfiguring : Op → Bool
  | .status | .eventRead => true
  | _ => false

/-- The Handler's own checks, in order (R210). They hold for TAMPER CLEAR too: on a READY device one that is taken after a trip
is DENIED, since the trip has closed the session (R153, R187) and R190 puts the gate before its own checks, although R192 says
INVALID of a TAMPER CLEAR that the trip precedes (DEDUCED, notes/assumptions/32.md). -/
def State.handlerCheck (s : State) (op : Op) (paramLength : Nat) : Option Status :=
  if s.configuring && !op.servedConfiguring then some .notReady
  else if paramLength ≠ op.paramLength then some .invalid
  else if op.gated && !s.gateOpen then some .denied
  else none

/-- A command that is in progress is checked and run; one that passes the gate under the session restarts its timer. -/
def State.execute (s : State) (e : QueueEntry) : State :=
  match s.handlerCheck e.op e.head.paramLength.toNat with
  | some st => s.endManagement st
  | none => (if e.op.gated then s.restartSession else s).runManagement e.op (e.block.getD [])

/-- The oldest QUEUED management entry. -/
def State.nextManagement (s : State) : Option QueueEntry :=
  s.queue.find? fun e => e.op.isManagement && decide (e.state = .queued)

/-- The Handler takes a command: its entry becomes ACTIVE and it is executed (R41, R209). -/
def State.takeManagement (s : State) (e : QueueEntry) : State :=
  ((s.withHandler (some e.tag)).updateEntry e.tag fun e => { e with state := .active }).execute e

/-! ## Answers of the Configuration Store (R199) -/

/-- One requester is answered at the write completion of its record. -/
def State.answer (s : State) (w : Waiter) : State :=
  match w with
  | .management => s.endManagement .good
  | .charge => s.verdict
  | .clearing => s.clearingWritten
  | .commit => s.commitWritten
  | .descriptorMarker => s.markerWritten
  | .internalMarker u => s.targetMarked u
  | .replacement u p => s.replacementWritten u p
  | .rerunClear u => s.rerunCleared u

/-- The store starts the write of the first record of the set, when none runs and no VBUS_LOW hold stands (R198, R201). -/
def State.startWrite (s : State) : State :=
  match s.store.pendingSet with
  | [] => s
  | w :: ws =>
    if s.store.running.isNone && !s.vbusLow then s.withStore { s.store with pendingSet := ws, running := some w } else s

/-- The running write completes: the array holds the new content, and those who waited are answered (R196, R199). -/
def State.completeWrite (s : State) : State :=
  match s.store.running with
  | none => s
  | some w =>
    w.waiters.foldl State.answer (s.withStore { s.store with array := s.store.array.write w.content, running := none })

end Sys2Proof.Machine
end

