-- ==== Sys2Proof/Machine/Settle.lean ====
section
/-! DEFINITION. What the part does by itself within one event, as soon as its condition holds: signals drained, moves
start-up on, begins issued operations, ends work that the rail or the link cannot serve, follows need, starts
descriptors, and takes waiting commands (DEDUCED, notes/assumptions/5.md). -/

namespace Sys2Proof.Machine

/-! ## The Dispatcher -/

/-- A waiting operation begins at the package: its timeout starts (R49). -/
def State.beginSlot (s : State) (n : Fin 4) (m : MediaSlot) : State :=
  s.setSlot n (some { m with stage := .outstanding, timeout := some m.op.timeout })

/-- The lowest slot whose operation waits to begin. -/
def State.waitingSlot (s : State) : Option (Fin 4 × MediaSlot) :=
  (List.finRange 4).findSome? fun n =>
    match s.slots[n] with
    | some m => if m.stage = .waiting then some (n, m) else none
    | none => none

/-- The next beginning that is due. -/
def State.nextBegin (s : State) : Option State :=
  if s.mediaReady then s.waitingSlot.map fun p => s.beginSlot p.1 p.2 else none

/-- The segment that the Erase Engine, RUNNING, presents (DESIGN CHOICE, notes/assumptions/23.md). -/
def State.presented (s : State) : Option EraseJob :=
  if s.erase.segment = .presented && s.erase.state = .running then s.eraseJob else none

/-- The candidate issued next, into a free slot: the oldest command that is eligible or has its segment due and can take
its buffer, or the presented erase segment where it is older (R33, R34). The issue is no event of settling: it is the
command SEGMENT_ISSUE, before which a close or a claim may be taken (R30; DEDUCED, notes/assumptions/6.md). -/
def State.nextIssue (s : State) : Option State :=
  if s.mediaReady then
    match s.freeSlot with
    | none => none
    | some n =>
      match s.findWork s.bufferAvailable [] s.queue, s.presented with
      | some e, some j => some (if s.erase.workAge < e.age then s.issueErase n j else s.issueHost n e)
      | some e, none => some (s.issueHost n e)
      | none, some j => some (s.issueErase n j)
      | none, none => none
  else none

/-- Work that ends instead of waiting: with the rail FAILED an operation waiting to begin, a command that is ready or has a
segment due, and a presented erase segment, with POWER; with the link ABSENT a presented erase segment, with FAILED (R36,
R55, R63). -/
def State.nextUnserved (s : State) : Option State :=
  if s.link.state = .absent && s.presented.isSome then some (s.eraseResult 0 .failed)
  else if s.rail.state = .failed then
    match s.waitingSlot with
    | some p => some (s.endSlot p.1 .power)
    | none =>
      match s.findWork (fun _ => true) [] s.queue with
      | some e => some (s.endEntry e.tag MediaResult.power.verdict)
      | none => if s.presented.isSome then some (s.eraseResult 0 .power) else none
  else none

/-- The drained signal that is due. -/
def State.nextDrained (s : State) : Option State := ((List.finRange 8).find? s.drainDue).map s.signalDrained

/-- The rail's following of need, where it changes the rail. -/
def State.nextFollow (s : State) : Option State := if s.rail.follow s.need = s.rail then none else some s.followNeed

/-- The start of a descriptor that is due. -/
def State.nextStart (s : State) : Option State := if s.startDue then some s.startDescriptor else none

/-- The Handler's next command, when none is in progress. -/
def State.nextCommand (s : State) : Option State :=
  if s.handler.isNone then s.nextManagement.map s.takeManagement else none

/-- The host's next transfer, when the pipe is free for it. -/
def State.nextTransfer (s : State) : Option State :=
  match s.port.waiting with
  | [] => none
  | i :: is => if s.pipeFree then some ((s.withPort { s.port with waiting := is }).takeTransfer i) else none

/-- The next thing that the part does by itself. -/
def State.internal (s : State) : Option State :=
  s.nextDrained <|> s.advanceStartUp <|> s.nextBegin <|> s.nextUnserved <|> s.nextFollow <|>
    s.nextStart <|> s.nextCommand <|> s.nextTransfer

/-- At most so many of them, until none is due. -/
def State.settle : Nat → State → State
  | 0, s => s
  | n + 1, s =>
    match s.internal with
    | some s' => State.settle n s'
    | none => s

/-- How many are allowed in one event: more than a full queue, all slots and all units can ask for, and as many again for
each transfer that waits. -/
def State.settleBound (s : State) : Nat := 512 + 64 * s.port.waiting.length

/-- The part settles, and every LED shows its winner. -/
def State.finish (s : State) : State := (State.settle s.settleBound s).refreshLeds

end Sys2Proof.Machine
end

