-- ==== Sys2Proof/Machine/BlockEvents.lean ====
section
/-! DEFINITION. Unit Control, the Cipher Unit, the Configuration Store, Attempt Control, the Erase Engine and the Tamper Monitor: their
timers, completions and own events. -/

namespace Sys2Proof.Machine

/-! ## Unit Control -/

/-- The drained signal for a unit, where it is due (R31, R143). -/
def execDrained (u : UnitNo) (s : State) : Host.Outcome State Fault Refusal :=
  s.act fun s => if s.drainDue u then (s.signalDrained u).finish else s

/-- A unit's idle timer expires and closes it with cause IDLE (R145). -/
def execIdleTimerExpiry (u : UnitNo) (s : State) : Host.Outcome State Fault Refusal :=
  s.act fun s => if (s.unitRun u).idleTimer.isSome then (s.closeUnit .idle u).finish else s

/-- The session idle timer expires and closes the session (R151, R152). -/
def execSessionIdleTimerExpiry (s : State) : Host.Outcome State Fault Refusal :=
  s.act fun s => if s.control.session && s.control.sessionTimer.isSome then s.closeSession.refreshLeds else s

/-! ## Cipher Unit and Configuration Store -/

/-- The Cipher Unit takes a unit's key replacement request (R77 to R79; DEDUCED, notes/assumptions/6.md). -/
def execKeyReplacement (u : UnitNo) (s : State) : Host.Outcome State Fault Refusal := s.act fun s => (s.takeRequest u).finish

/-- The store starts the write of the first record of its pending set (R198, R201; DEDUCED, notes/assumptions/6.md). -/
def execWriteStart (s : State) : Host.Outcome State Fault Refusal := s.act State.startWrite

/-- The running write completes and answers those who wait (R196, R199). -/
def execWriteCompletion (s : State) : Host.Outcome State Fault Refusal :=
  s.act fun s => if s.store.running.isSome then s.completeWrite.finish else s

/-! ## Attempt Control -/

/-- The penalty timer expires (R96, R97). -/
def execPenaltyTimerExpiry (s : State) : Host.Outcome State Fault Refusal :=
  s.act fun s =>
    if s.attempt.phase = .penalty && s.attempt.penaltyTimer.isSome then s.penaltyExpired.refreshLeds else s

/-! ## Erase Engine -/

/-- The descriptor at the current position starts, when the conditions of R164 hold together. -/
def execDescriptorStart (s : State) : Host.Outcome State Fault Refusal :=
  s.act fun s => if s.startDue then s.startDescriptor.finish else s

/-- The progress delay timer expires: ERASE_PROGRESS with the count, which becomes 0 (R173). -/
def execProgressDelayExpiry (s : State) : Host.Outcome State Fault Refusal :=
  s.act fun s =>
    if s.erase.delayTimer.isSome then
      (s.withErase { s.erase with progress := 0, delayTimer := none }).place (.eraseProgress s.erase.progress)
    else s

/-- The next marked unit is rerun, in step 4 of start-up with no rerun under way (R178). -/
def execEraseResume (s : State) : Host.Outcome State Fault Refusal :=
  s.act fun s =>
    if s.power.startUp = .step4Reruns && s.erase.rerun.isNone then
      match s.nextMarked with
      | some (u, w) => (s.startRerun u w).finish
      | none => s
    else s

/-- The owed enclosure erase is requested, once no marked unit is left to rerun (R189). -/
def execOwedEnclosureErase (s : State) : Host.Outcome State Fault Refusal :=
  s.act fun s =>
    if s.power.startUp = .step4Reruns && s.erase.rerun.isNone && s.nextMarked.isNone && s.tamper.zeroizeOwed then
      s.endReruns.finish
    else s

/-! ## Tamper Monitor -/

/-- Channel 0, 1 or 2 as one of the four. -/
def alarmChannel (c : Fin 3) : Fin 4 := c.castSucc

/-- Three out-of-range samples on channel 0, 1 or 2 raise its alarm (R183 to R185). -/
def execAlarmRaise (c : Fin 3) (v : Sample) (s : State) : Host.Outcome State Fault Refusal :=
  s.act fun s => (s.completeRun (alarmChannel c) v .outOfRange).finish

/-- Three in-range samples on channel 0, 1 or 2 clear its alarm (R183 to R185). -/
def execAlarmClear (c : Fin 3) (v : Sample) (s : State) : Host.Outcome State Fault Refusal :=
  s.act fun s => (s.completeRun (alarmChannel c) v .inRange).finish

/-- Three out-of-range samples on channel 3 trip the enclosure (R186, R187). -/
def execEnclosureTrip (v : Sample) (s : State) : Host.Outcome State Fault Refusal :=
  s.act fun s => (s.completeRun 3 v .outOfRange).finish

/-- Three in-range samples on channel 3 bring its level to IN and leave the latch (R186). -/
def execEnclosureLevelIn (v : Sample) (s : State) : Host.Outcome State Fault Refusal :=
  s.act fun s => s.completeRun 3 v .inRange

/-- One sample of the channels, each taken in turn with the effects of the level it changes (R182, R192). -/
def execChannelSample (samples : List (Fin 4 × Sample)) (s : State) : Host.Outcome State Fault Refusal :=
  s.act fun s => (samples.foldl (fun s p => s.sampleChannel p.1 p.2) s).finish

end Sys2Proof.Machine
end

