-- ==== Sys2Proof/Machine/BusEvents.lean ====
section
/-! DEFINITION. Power and the bus: application and loss of VBUS, bus reset, standby (00_scope.md, Resets; R45 to R47, R134, R149, R196,
R202, R222). -/

namespace Sys2Proof.Machine

/-! ## Power -/

/-- Application of VBUS; on a part that has it, the same as a loss and a fresh application (R202, R203;
DESIGN CHOICE, notes/assumptions/8.md). -/
def execPowerOn (s : State) : Host.Outcome State Fault Refusal := .next s.powered

/-- Loss of power (R196). -/
def execPowerLoss (s : State) : Host.Outcome State Fault Refusal := s.act State.unpoweredOf

/-! ## Bus reset (R45, R46, R128, R222) -/

/-- A host slot that has not begun is abandoned; an outstanding one completes without its buffer. -/
def resetSlot : Option MediaSlot → Option MediaSlot
  | none => none
  | some m =>
    match m.origin with
    | .erase => some m
    | .host _ => if m.stage = .outstanding then some { m with buffer := none } else none

/-- An entry stays, to be dropped later, when its operation is outstanding or its management command in progress. -/
def State.staysAfterReset (s : State) (e : QueueEntry) : Bool :=
  decide (e.state = .active) && (s.hasOutstanding e.tag || decide (s.handler = some e.tag))

/-- The command path after a bus reset (DEDUCED, notes/assumptions/19.md). -/
def State.resetPath (s : State) : State :=
  let s1 := s.withSlots (s.slots.map resetSlot)
  let s2 := s1.withQueue ((s1.queue.filter s1.staysAfterReset).map fun e => { e with orphan := true, returned := none })
  s2.withPort { s2.port with bulkOut := .free, refused := none, remoteWake := false,
                             readBuffers := Vector.replicate 4 none }

/-- A bus reset: the command path is cleared, the Event Queue emptied, remote wake cleared; everything else goes on. -/
def execBusReset (s : State) : Host.Outcome State Fault Refusal :=
  s.act fun s => ((s.resetPath).withEvents { entries := [], lost := false, attention := false }).finish

/-! ## Standby (R47, R128, R134, R149) -/

/-- The OPEN units with lock on suspend. -/
def State.suspendUnits (s : State) : List UnitNo :=
  (List.finRange 8).filter fun u =>
    match s.unitDef u with
    | some d => d.lockOnSuspend
    | none => false

/-- Standby entry: bulk traffic stops, a new standby period begins for remote wake, and units with lock on suspend close
with SUSPEND. -/
def execStandbyEntry (s : State) : Host.Outcome State Fault Refusal :=
  s.act fun s =>
    if s.port.standby then s
    else
      ((s.withPort { s.port with standby := true, pressSeen := false, resumeSignalled := false }).closeUnits .suspend
        s.suspendUnits).finish

/-- Every LED shows its winner from its beginning (R134). -/
def State.restartLeds (s : State) : State :=
  (s.withLeds { s.leds with redDisplay := ⟨none, 0⟩, greenDisplay := ⟨none, 0⟩, blueDisplay := ⟨none, 0⟩ }).refreshLeds

/-- The bus resumes: traffic continues, and the LEDs show their winners. -/
def execStandbyExit (s : State) : Host.Outcome State Fault Refusal :=
  s.act fun s =>
    if s.port.standby then ((s.withPort { s.port with standby := false }).restartLeds).finish else s

end Sys2Proof.Machine
end

