-- ==== Sys2Proof/Machine/HostTransfers.lean ====
section
/-! DEFINITION. The transfers that the host sends on the bulk-out pipe: the records of the nineteen ops, a record of an unknown op, and a
transfer of another length (R21). A transfer waits while the pipe is not free for it (DEDUCED, notes/assumptions/10.md). -/

namespace Sys2Proof.Machine

/-- A transfer is taken when the pipe is free for it, and waits otherwise (R21). -/
def State.transfer (s : State) (i : Instr) (accept : State → State) : State :=
  if s.takesNow then (accept s).finish else s.wait i

/-- READ: taken into the queue and translated and admitted or refused at once (R9 to R12, R21, R27). -/
def execRead (h : RecordHead) (s : State) : Host.Outcome State Fault Refusal :=
  s.act fun s => s.transfer (.read h) fun s => s.acceptRead h

/-- WRITE: as READ, with its data stage held for its segments or discarded (R22, R27, R37). -/
def execWrite (h : RecordHead) (s : State) : Host.Outcome State Fault Refusal :=
  s.act fun s => s.transfer (.write h) fun s => s.acceptWrite h

/-- TRIM (R27, R35). -/
def execTrim (h : RecordHead) (s : State) : Host.Outcome State Fault Refusal :=
  s.act fun s => s.transfer (.trim h) fun s => s.acceptTrim h

/-- SYNC: checked with steps 1, 2, 5, 6, 7 and 11 and left QUEUED when it passes (R28, R40). -/
def execSync (h : RecordHead) (s : State) : Host.Outcome State Fault Refusal :=
  s.act fun s => s.transfer (.sync h) fun s => s.acceptSync h

/-- UNIT INFO: served at arrival with a copy of the unit record (R28, R215, R231). -/
def execUnitInfo (h : RecordHead) (s : State) : Host.Outcome State Fault Refusal :=
  s.act fun s => s.transfer (.unitInfo h) fun s => s.acceptUnitInfo h

/-- STATUS: a snapshot of every block, taken when the Handler takes it (R213, R214, R230). -/
def execStatus (h : RecordHead) (block : List Byte) (s : State) : Host.Outcome State Fault Refusal :=
  s.act fun s => s.transfer (.status h block) fun s => s.acceptManagement .status h block

/-- EVENT READ: up to 16 entries move into the returned data (R220, R225). -/
def execEventRead (h : RecordHead) (block : List Byte) (s : State) : Host.Outcome State Fault Refusal :=
  s.act fun s => s.transfer (.eventRead h block) fun s => s.acceptManagement .eventRead h block

/-- UNIT DEFINE (R14 to R17). -/
def execUnitDefine (h : RecordHead) (block : List Byte) (s : State) : Host.Outcome State Fault Refusal :=
  s.act fun s => s.transfer (.unitDefine h block) fun s => s.acceptManagement .unitDefine h block

/-- UNIT DELETE (R18). -/
def execUnitDelete (h : RecordHead) (block : List Byte) (s : State) : Host.Outcome State Fault Refusal :=
  s.act fun s => s.transfer (.unitDelete h block) fun s => s.acceptManagement .unitDelete h block

/-- GRANT SET (R106). -/
def execGrantSet (h : RecordHead) (block : List Byte) (s : State) : Host.Outcome State Fault Refusal :=
  s.act fun s => s.transfer (.grantSet h block) fun s => s.acceptManagement .grantSet h block

/-- CREDENTIAL REMOVE (R107). -/
def execCredentialRemove (h : RecordHead) (block : List Byte) (s : State) : Host.Outcome State Fault Refusal :=
  s.act fun s => s.transfer (.credentialRemove h block) fun s => s.acceptManagement .credentialRemove h block

/-- ENROLL (R101, R124). -/
def execEnroll (h : RecordHead) (block : List Byte) (s : State) : Host.Outcome State Fault Refusal :=
  s.act fun s => s.transfer (.enroll h block) fun s => s.acceptManagement .enroll h block

/-- POLICY SET (R108, R109, R191, R216 to R218). -/
def execPolicySet (h : RecordHead) (block : List Byte) (s : State) : Host.Outcome State Fault Refusal :=
  s.act fun s => s.transfer (.policySet h block) fun s => s.acceptManagement .policySet h block

/-- LOCK (R148). -/
def execLock (h : RecordHead) (block : List Byte) (s : State) : Host.Outcome State Fault Refusal :=
  s.act fun s => s.transfer (.lock h block) fun s => s.acceptManagement .lock h block

/-- ERASE LIST WRITE (R159). -/
def execEraseListWrite (h : RecordHead) (block : List Byte) (s : State) : Host.Outcome State Fault Refusal :=
  s.act fun s => s.transfer (.eraseListWrite h block) fun s => s.acceptManagement .eraseListWrite h block

/-- ERASE TAIL (R160). -/
def execEraseTail (h : RecordHead) (block : List Byte) (s : State) : Host.Outcome State Fault Refusal :=
  s.act fun s => s.transfer (.eraseTail h block) fun s => s.acceptManagement .eraseTail h block

/-- ERASE ABORT (R161, R172). -/
def execEraseAbort (h : RecordHead) (block : List Byte) (s : State) : Host.Outcome State Fault Refusal :=
  s.act fun s => s.transfer (.eraseAbort h block) fun s => s.acceptManagement .eraseAbort h block

/-- ERASE CLEAR (R162). -/
def execEraseClear (h : RecordHead) (block : List Byte) (s : State) : Host.Outcome State Fault Refusal :=
  s.act fun s => s.transfer (.eraseClear h block) fun s => s.acceptManagement .eraseClear h block

/-- TAMPER CLEAR (R190). -/
def execTamperClear (h : RecordHead) (block : List Byte) (s : State) : Host.Outcome State Fault Refusal :=
  s.act fun s => s.transfer (.tamperClear h block) fun s => s.acceptManagement .tamperClear h block

/-- A record of an unknown op: refused, INVALID unless its tag already refuses it, its data stage discarded (R21, R22). -/
def execUnknownOp (op : Byte) (h : RecordHead) (s : State) : Host.Outcome State Fault Refusal :=
  s.act fun s => s.transfer (.unknownOp op h) fun s => s.acceptUnknown h

/-- A transfer of another length where a record is expected: discarded without a status record (R21). -/
def execDiscardedTransfer (n : Nat) (s : State) : Host.Outcome State Fault Refusal :=
  s.act fun s => s.transfer (.discardedTransfer n) fun s => s

end Sys2Proof.Machine
end

