-- ==== Sys2Proof/Machine/Media.lean ====
section
/-! DEFINITION. The Dispatcher, the Media Link and the Rail Controller: issue and beginning of operations, replies of the package,
timeouts and link resets, the capacity read, and the rail (R31 to R34, R48 to R65). -/

namespace Sys2Proof.Machine

/-! ## Issue and beginning -/

/-- Free slots are filled: as many issues as there are slots, each taking the oldest candidate (R33). -/
def State.fillSlots : Nat → State → State
  | 0, s => s
  | n + 1, s =>
    match s.nextIssue with
    | some s' => State.fillSlots n s'
    | none => s

/-- The Dispatcher fills free slots, the rail having followed the need of the work it issues (R33, R58;
DESIGN CHOICE, notes/assumptions/23.md). -/
def execSegmentIssue (s : State) : Host.Outcome State Fault Refusal :=
  s.act fun s => (State.fillSlots 4 s.followNeed).finish

/-- An issued operation that waits begins, when the link is READY and the rail ON (R49). -/
def execOperationBegin (n : Fin 4) (s : State) : Host.Outcome State Fault Refusal :=
  s.act fun s =>
    match s.slots[n] with
    | some m => if s.mediaReady && decide (m.stage = .waiting) then (s.beginSlot n m).finish else s
    | none => s

/-! ## Replies of the package -/

/-- The result that a reply brings: OK to a READ brings its sectors, and a reply with another number of them is no reply
to it (DESIGN CHOICE, notes/assumptions/17.md). -/
def replyResult (m : MediaSlot) : PackageReply → Option MediaResult
  | .ok data => if m.op = .read && data.length ≠ m.sectors then none else some (.ok data)
  | .failed => some .failed

/-- The package reports the end of a slot's operation; a reply for a slot with none outstanding is discarded (R50). -/
def execMediaCompletion (n : Fin 4) (reply : PackageReply) (s : State) : Host.Outcome State Fault Refusal :=
  s.act fun s =>
    match s.linkSlot n with
    | some m =>
      match replyResult m reply with
      | some r => (s.endSlot n r).finish
      | none => s
    | none => s

/-- The link is reset: LINK_RESETTING with the reset timer running (R51). -/
def State.startReset (s : State) : State := s.withLink { s.link with state := .resetting, resetTimer := some resetTime }

/-- A timeout expires: its operation ends TIMEOUT, every other outstanding one RESET, and the link is reset with LINK_RESET
(R51; the order of the events: DESIGN CHOICE, notes/assumptions/16.md). -/
def execMediaTimeoutExpiry (n : Fin 4) (s : State) : Host.Outcome State Fault Refusal :=
  s.act fun s =>
    match s.linkSlot n with
    | some m =>
      ((((s.endSlot n .timeout).endOutstanding .reset).startReset).place (.linkReset m.unit m.op)).finish
    | none => s

/-- Reset completion: the link is READY and the reset timer stops (R52). -/
def State.endReset (s : State) : State := s.withLink { s.link with state := .ready, resetTimer := none }

/-- The package reports its reset done; the report is discarded on a link that is not resetting (R52). -/
def execResetDoneReport (s : State) : Host.Outcome State Fault Refusal :=
  s.act fun s => if s.link.state = .resetting then s.endReset.finish else s

/-- The reset timer expires (R52). -/
def execResetTimerExpiry (s : State) : Host.Outcome State Fault Refusal :=
  s.act fun s => if s.link.state = .resetting && s.link.resetTimer.isSome then s.endReset.finish else s

/-! ## The capacity read (R54) -/

/-- M of an answer: none for 0 and for FAILED. -/
def capacityOf : CapacityAnswer → Option Nat
  | .sectors n => if n = 0 then none else some n.toNat
  | .failed => none

/-- The package answers the capacity request. -/
def execCapacityReport (answer : CapacityAnswer) (s : State) : Host.Outcome State Fault Refusal :=
  s.act fun s =>
    if s.link.capacityRead = .outstanding then (s.endCapacityRead (capacityOf answer)).finish else s

/-- The 50 ms countdown of the capacity request expires. -/
def execCapacityCountdownExpiry (s : State) : Host.Outcome State Fault Refusal :=
  s.act fun s => if s.link.capacityRead = .outstanding then (s.endCapacityRead none).finish else s

/-! ## The rail (R59 to R63) -/

/-- When the rail first reaches ON, the capacity request goes to the package (R54). -/
def State.sendCapacityRequest (s : State) : State :=
  if s.link.capacityRead = .awaitingRail then s.withLink { s.link with capacityRead := .outstanding } else s

/-- Power-good while RAMPING: the rail is ON and the retry count 0 (R59). -/
def execPowerGood (s : State) : Host.Outcome State Fault Refusal :=
  s.act fun s =>
    if s.rail.state = .ramping then
      ((s.withRail { s.rail with state := .on, retryCount := 0, rampTimer := none }).sendCapacityRequest).finish
    else s

/-- A capacity read under way ends without M. -/
def State.failCapacityRead (s : State) : State := if s.link.capacityRead = .idle then s else s.endCapacityRead none

/-- A failed ramp: the count rises, and the rail becomes FAULT to retry, or FAILED at the third (R54, R60). -/
def State.failRamp (s : State) : State :=
  let n := s.rail.retryCount + 1
  if n < 3 then
    (s.withRail { s.rail with state := .fault, retryCount := n, rampTimer := none, retryTimer := some retryTime }).place
      (.railFault false n)
  else
    ((s.withRail { s.rail with state := .failed, retryCount := 3, rampTimer := none }).place .railFailed).failCapacityRead

/-- The ramp timer expires (R60). -/
def execRampTimerExpiry (s : State) : Host.Outcome State Fault Refusal :=
  s.act fun s => if s.rail.state = .ramping && s.rail.rampTimer.isSome then s.failRamp.finish else s

/-- The retry timer expires: the rail ramps again with need, and is OFF without it (R60). -/
def execRetryTimerExpiry (s : State) : Host.Outcome State Fault Refusal :=
  s.act fun s =>
    if s.rail.state = .fault && s.rail.retryTimer.isSome then
      s.withRail (if s.need then { s.rail with state := .ramping, retryTimer := none, rampTimer := some rampTime }
                  else { s.rail with state := .off, retryTimer := none })
    else s

/-- Power-good is lost while ON: FAULT with RAIL_FAULT, every outstanding operation ends POWER, and a capacity request that
is outstanding ends without M (R54, R61; the order of the events: DESIGN CHOICE, notes/assumptions/16.md). -/
def execPowerGoodLoss (s : State) : Host.Outcome State Fault Refusal :=
  s.act fun s =>
    if s.rail.state = .on then
      ((((s.withRail { s.rail with state := .fault, switchOffTimer := none, retryTimer := some retryTime }).place
        (.railFault true s.rail.retryCount)).endOutstanding .power).failCapacityRead).finish
    else s

/-- The switch-off timer expires: the rail is OFF with the count at 0 (R62). -/
def execSwitchOffTimerExpiry (s : State) : Host.Outcome State Fault Refusal :=
  s.act fun s =>
    if s.rail.state = .on && s.rail.switchOffTimer.isSome then
      (s.withRail { s.rail with state := .off, retryCount := 0, switchOffTimer := none }).finish
    else s

end Sys2Proof.Machine
end

