-- ==== Sys2Proof/Machine/PanelEvents.lean ====
section
/-! DEFINITION. The keypad, the switch and the indicators (06_keypad_entry_and_indicators.md). -/

namespace Sys2Proof.Machine

/-! ## Keys and the switch -/

/-- Presses recognised in one sample, of keys whose stable level is UP (R112, R113;
DEDUCED, notes/assumptions/21.md). -/
def execRecognisedPress (keys : List PadKey) (s : State) : Host.Outcome State Fault Refusal :=
  s.act fun s =>
    let ps := keys.filter fun p => !s.scanner.isDown p
    ((s.withScanner (ps.foldl (fun k p => k.setLevel p true) s.scanner)).takePresses ps).finish

/-- A recognised release, of a key whose stable level is DOWN (R112 to R114). -/
def execRecognisedRelease (p : PadKey) (s : State) : Host.Outcome State Fault Refusal :=
  s.act fun s =>
    if s.scanner.isDown p then
      ((s.withScanner (s.scanner.setLevel p false)).takeRelease p).clearLockout.refreshLeds
    else s

/-- The hold timer expires with KEY still held: a long press (R114, R123). -/
def execHoldTimerExpiry (s : State) : Host.Outcome State Fault Refusal :=
  s.act fun s =>
    if s.scanner.holdTimer.isSome && decide (s.scanner.held = some .key) then
      ((s.withScanner { s.scanner with holdTimer := none }).longPress).refreshLeds
    else s

/-- A recognised change of the switch, to another position than the stable one (R115). -/
def execRecognisedSwitchChange (on : Bool) (s : State) : Host.Outcome State Fault Refusal :=
  s.act fun s => if s.scanner.switchSampled && decide (s.scanner.switchOn ≠ on) then s.switchChanged on else s

/-- One sample of all keys and the switch (R110 to R115). -/
def execScanSample (keys : BitVec 12) (switchOn : Bool) (s : State) : Host.Outcome State Fault Refusal :=
  s.act fun s => (s.sampleKeys keys switchOn).finish

/-! ## Entry timers -/

/-- The inter-key timer expires (R119). -/
def execInterKeyExpiry (s : State) : Host.Outcome State Fault Refusal :=
  s.act fun s => if s.entry.interKeyTimer.isSome then s.interKeyExpired else s

/-- The enrollment window expires: the enrollment is abandoned with TIMEOUT (R105, R125). -/
def execEnrollmentWindowExpiry (s : State) : Host.Outcome State Fault Refusal :=
  s.act fun s => if s.entry.window.isSome then (s.abandonAny .timeout).refreshLeds else s

/-! ## Indicators -/

/-- The transient of an LED ends, and the LED falls to its highest standing request (R132). Blue has none. -/
def execTransientEnd (l : Led) (s : State) : Host.Outcome State Fault Refusal :=
  s.act fun s =>
    match l with
    | .red => (s.withLeds { s.leds with fail := false }).refreshLeds
    | .green => (s.withLeds { s.leds with green := none }).refreshLeds
    | .blue => s

/-- A display after one phase of its pattern: SLOW and FAST alternate, and FAIL counts its six phases (R129). -/
def Display.nextPhase (d : Display) : Display :=
  match d.shown.map LedRequest.pattern with
  | some .slow | some .fast => { d with phase := (d.phase + 1) % 2 }
  | some .fail => { d with phase := min 5 (d.phase + 1) }
  | some .on | some .pulse | some .ok | none => d

/-- A lit or dark phase of a blink pattern ends (R129). -/
def execPatternPhaseEnd (l : Led) (s : State) : Host.Outcome State Fault Refusal :=
  s.act fun s =>
    match l with
    | .red => s.withLeds { s.leds with redDisplay := s.leds.redDisplay.nextPhase }
    | .green => s.withLeds { s.leds with greenDisplay := s.leds.greenDisplay.nextPhase }
    | .blue => s.withLeds { s.leds with blueDisplay := s.leds.blueDisplay.nextPhase }

/-- The rest timer expires, and a winning rest request leaves red dark (R133). -/
def execRestTimerExpiry (s : State) : Host.Outcome State Fault Refusal :=
  s.act fun s => s.withLeds { s.leds with restTimer := none }

end Sys2Proof.Machine
end

