-- ==== Sys2Proof/Machine/Pipes.lean ====
section
/-! DEFINITION. The bulk-in pipe, data stages on the bulk-out pipe, the interrupt pipe and the remote-wake requests (R21 to R23, R26,
R37, R38, R128, R221). -/

namespace Sys2Proof.Machine

/-! ## What may be sent -/

/-- A segment of read data is under way on the bulk-in pipe: some of its sectors are sent and some not (R42). -/
def State.sendingRead (s : State) : Bool :=
  s.port.readBuffers.toList.any fun b =>
    match b with
    | some { data := some d, sent := n, .. } => decide (0 < n) && decide (n < d.length)
    | _ => false

/-- The bulk-in pipe is at a boundary between transfers, with no refused status to go first (R21), and the bus not
suspended (R47). -/
def State.queueMaySend (s : State) : Bool := !s.port.standby && s.port.refused.isNone && !s.sendingRead

/-- Buffered data of a command, with its buffer. -/
def State.bufferedData (s : State) (t : Tag) : List (Fin 4 × ReadBuffer) :=
  (List.finRange 4).filterMap fun n =>
    match s.port.readBuffers[n] with
    | some b => if b.tag = t && b.data.isSome then some (n, b) else none
    | none => none

/-- The one of the lowest segment. -/
def lowestSegment : List (Fin 4 × ReadBuffer) → Option (Fin 4 × ReadBuffer)
  | [] => none
  | p :: ps =>
    match lowestSegment ps with
    | some q => if q.2.segment < p.2.segment then some q else some p
    | none => some p

/-- The head command's segment that goes out next: the lowest buffered one (R26, R38). -/
def State.headSegment (s : State) : Option (Fin 4 × ReadBuffer) :=
  match s.headTag with
  | some t => lowestSegment (s.bufferedData t)
  | none => none

/-- Sectors of a buffered segment not yet sent. -/
def ReadBuffer.unsent (b : ReadBuffer) : List Sector := (b.data.getD []).drop b.sent

/-- Sectors of a segment go out: they add to sectors done, and the buffer is free once all are sent (R34, R38). -/
def State.sendSectors (s : State) (n : Nat) (i : Fin 4) (b : ReadBuffer) : State :=
  let s1 := s.withPort { s.port with bulkIn := some (.readData b.tag (b.unsent.take n)) }
  let s2 := s1.updateEntry b.tag fun e => { e with sectorsDone := e.sectorsDone + n }
  s2.setBuffer i (if n = b.unsent.length then none else some { b with sent := b.sent + n })

/-- The next sectors of the head READ's segment go out, when a transfer may start or this one is under way (R23, R26,
R38; DESIGN CHOICE, notes/assumptions/12.md). -/
def execReadDataSent (n : Nat) (s : State) : Host.Outcome State Fault Refusal :=
  s.act fun s =>
    match s.headSegment with
    | none => s
    | some (i, b) =>
      if (s.queueMaySend || (!s.port.standby && decide (0 < b.sent))) && decide (1 ≤ n) && decide (n ≤ b.unsent.length) then
        (s.sendSectors n i b).finish
      else s

/-- The returned data of the head goes out (R23, R26). -/
def execReturnedDataSent (s : State) : Host.Outcome State Fault Refusal :=
  s.act fun s =>
    match s.queue with
    | e :: _ =>
      match e.returned with
      | some d =>
        if s.queueMaySend then
          (s.withPort { s.port with bulkIn := some (.returnedData d) }).updateEntry e.tag fun e => { e with returned := none }
        else s
      | none => s
    | [] => s

/-- The residue of a command: count minus sectors done for READ, WRITE and TRIM, and 0 for every other op (R23). -/
def QueueEntry.residue (e : QueueEntry) : Nat := if e.op.movesData then e.count - e.sectorsDone else 0

/-- The status record of an entry (R23). -/
def QueueEntry.statusRecord (e : QueueEntry) : StatusRecord :=
  let v := e.verdict.getD (.plain .good)
  { tag := BitVec.ofNat 8 e.tag.val, status := v.status, detail := v.detail, residue := e.residue }

/-- The status record of an ENDING head with no data left to send goes out, and the entry leaves the queue (R26). -/
def execStatusRecordSent (s : State) : Host.Outcome State Fault Refusal :=
  s.act fun s =>
    match s.queue with
    | e :: es =>
      if s.queueMaySend && decide (e.state = .ending) && e.returned.isNone && !s.hasBuffered e.tag then
        ((s.withPort { s.port with bulkIn := some (.statusRecord e.statusRecord) }).withQueue es).finish
      else s
    | [] => s

/-- The refused status goes out at the next boundary between transfers, ahead of the queue, and frees the pipe (R21). -/
def execRefusedStatusSent (s : State) : Host.Outcome State Fault Refusal :=
  s.act fun s =>
    match s.port.refused with
    | some r =>
      if !s.port.standby && !s.sendingRead then
        (s.withPort { s.port with bulkIn := some (.statusRecord r), refused := none }).finish
      else s
    | none => s

/-! ## Data stages (R22, R37) -/

/-- The slot whose intake is under way, with the WRITE whose data stage holds the pipe and the sectors of it left. -/
def State.intakeSlot (s : State) : Option (Fin 4 × MediaSlot × QueueEntry × Nat) :=
  match s.port.bulkOut with
  | .writeStage t left =>
    match s.entryOf t with
    | some e =>
      (List.finRange 4).findSome? fun n =>
        match s.slots[n] with
        | some m => if m.origin = .host t && m.stage = .intake then some (n, m, e, left) else none
        | none => none
    | none => none
  | .free | .discarding => none

/-- The segment's sectors are in its buffer, enciphered for a SECURE unit, and its WRITE waits to begin (R37, R73). The
pipe stays held while sectors of the stage are left. -/
def State.endIntake (s : State) (n : Fin 4) (m : MediaSlot) (e : QueueEntry) (left : Nat) (data : List Sector) : State :=
  (s.setSlot n (some { m with stage := .waiting, data := s.intakeData m.unit (e.segmentLba m.segment) data })).withPort
    { s.port with bulkOut := if left ≤ m.sectors then .free else .writeStage e.tag (left - m.sectors) }

/-- The last sector of a WRITE segment is taken (R37). -/
def execWriteIntakeEnd (data : List Sector) (s : State) : Host.Outcome State Fault Refusal :=
  s.act fun s =>
    match s.intakeSlot with
    | some (n, m, e, left) =>
      if !s.port.standby && decide (data.length = m.sectors) then (s.endIntake n m e left data).finish else s
    | none => s

/-- The last byte of a data stage that is discarded is taken, and the pipe is free for a record (R22). -/
def execDataStageDiscarded (s : State) : Host.Outcome State Fault Refusal :=
  s.act fun s =>
    if s.port.bulkOut = .discarding && !s.port.standby then (s.withPort { s.port with bulkOut := .free }).finish else s

/-! ## Interrupt pipe and remote wake -/

/-- The computer polls the interrupt pipe: an attention report with the number of entries held, when attention is set and
the bus not suspended (R221, R225). -/
def execInterruptPoll (s : State) : Host.Outcome State Fault Refusal :=
  s.act fun s =>
    if s.events.attention && !s.port.standby then
      (s.withPort { s.port with attentionReport := some s.events.entries.length }).withEvents
        { s.events with attention := false }
    else s

/-- The remote-wake enable request sets the enable (R128). -/
def execRemoteWakeEnable (s : State) : Host.Outcome State Fault Refusal :=
  s.act fun s => s.withPort { s.port with remoteWake := true }

/-- The remote-wake disable request clears it (R128). -/
def execRemoteWakeDisable (s : State) : Host.Outcome State Fault Refusal :=
  s.act fun s => s.withPort { s.port with remoteWake := false }

end Sys2Proof.Machine
end

