-- ==== Sys2Proof/Machine/Dispatch.lean ====
section
/-! DEFINITION. The meaning of a command: its effect on everything but the queue of commands. One arm per command. -/

namespace Sys2Proof.Machine

def exec (i : Instr) (s : State) : Host.Outcome State Fault Refusal :=
  match i with
  | .read h => Sys2Proof.Machine.execRead h s
  | .write h => Sys2Proof.Machine.execWrite h s
  | .trim h => Sys2Proof.Machine.execTrim h s
  | .sync h => Sys2Proof.Machine.execSync h s
  | .unitInfo h => Sys2Proof.Machine.execUnitInfo h s
  | .status h block => Sys2Proof.Machine.execStatus h block s
  | .eventRead h block => Sys2Proof.Machine.execEventRead h block s
  | .unitDefine h block => Sys2Proof.Machine.execUnitDefine h block s
  | .unitDelete h block => Sys2Proof.Machine.execUnitDelete h block s
  | .grantSet h block => Sys2Proof.Machine.execGrantSet h block s
  | .credentialRemove h block => Sys2Proof.Machine.execCredentialRemove h block s
  | .enroll h block => Sys2Proof.Machine.execEnroll h block s
  | .policySet h block => Sys2Proof.Machine.execPolicySet h block s
  | .lock h block => Sys2Proof.Machine.execLock h block s
  | .eraseListWrite h block => Sys2Proof.Machine.execEraseListWrite h block s
  | .eraseTail h block => Sys2Proof.Machine.execEraseTail h block s
  | .eraseAbort h block => Sys2Proof.Machine.execEraseAbort h block s
  | .eraseClear h block => Sys2Proof.Machine.execEraseClear h block s
  | .tamperClear h block => Sys2Proof.Machine.execTamperClear h block s
  | .unknownOp op h => Sys2Proof.Machine.execUnknownOp op h s
  | .discardedTransfer length => Sys2Proof.Machine.execDiscardedTransfer length s
  | .refusedStatusSent => Sys2Proof.Machine.execRefusedStatusSent s
  | .readDataSent sectors => Sys2Proof.Machine.execReadDataSent sectors s
  | .returnedDataSent => Sys2Proof.Machine.execReturnedDataSent s
  | .statusRecordSent => Sys2Proof.Machine.execStatusRecordSent s
  | .writeIntakeEnd data => Sys2Proof.Machine.execWriteIntakeEnd data s
  | .segmentIssue => Sys2Proof.Machine.execSegmentIssue s
  | .operationBegin slot => Sys2Proof.Machine.execOperationBegin slot s
  | .mediaCompletion slot reply => Sys2Proof.Machine.execMediaCompletion slot reply s
  | .mediaTimeoutExpiry slot => Sys2Proof.Machine.execMediaTimeoutExpiry slot s
  | .resetDoneReport => Sys2Proof.Machine.execResetDoneReport s
  | .resetTimerExpiry => Sys2Proof.Machine.execResetTimerExpiry s
  | .capacityReport answer => Sys2Proof.Machine.execCapacityReport answer s
  | .capacityCountdownExpiry => Sys2Proof.Machine.execCapacityCountdownExpiry s
  | .powerGood => Sys2Proof.Machine.execPowerGood s
  | .rampTimerExpiry => Sys2Proof.Machine.execRampTimerExpiry s
  | .retryTimerExpiry => Sys2Proof.Machine.execRetryTimerExpiry s
  | .powerGoodLoss => Sys2Proof.Machine.execPowerGoodLoss s
  | .switchOffTimerExpiry => Sys2Proof.Machine.execSwitchOffTimerExpiry s
  | .drained unit => Sys2Proof.Machine.execDrained unit s
  | .idleTimerExpiry unit => Sys2Proof.Machine.execIdleTimerExpiry unit s
  | .sessionIdleTimerExpiry => Sys2Proof.Machine.execSessionIdleTimerExpiry s
  | .keyReplacement unit => Sys2Proof.Machine.execKeyReplacement unit s
  | .writeStart => Sys2Proof.Machine.execWriteStart s
  | .writeCompletion => Sys2Proof.Machine.execWriteCompletion s
  | .penaltyTimerExpiry => Sys2Proof.Machine.execPenaltyTimerExpiry s
  | .recognisedPress keys => Sys2Proof.Machine.execRecognisedPress keys s
  | .recognisedRelease padKey => Sys2Proof.Machine.execRecognisedRelease padKey s
  | .holdTimerExpiry => Sys2Proof.Machine.execHoldTimerExpiry s
  | .recognisedSwitchChange on => Sys2Proof.Machine.execRecognisedSwitchChange on s
  | .interKeyExpiry => Sys2Proof.Machine.execInterKeyExpiry s
  | .enrollmentWindowExpiry => Sys2Proof.Machine.execEnrollmentWindowExpiry s
  | .transientEnd led => Sys2Proof.Machine.execTransientEnd led s
  | .patternPhaseEnd led => Sys2Proof.Machine.execPatternPhaseEnd led s
  | .restTimerExpiry => Sys2Proof.Machine.execRestTimerExpiry s
  | .alarmRaise channel value => Sys2Proof.Machine.execAlarmRaise channel value s
  | .alarmClear channel value => Sys2Proof.Machine.execAlarmClear channel value s
  | .enclosureTrip value => Sys2Proof.Machine.execEnclosureTrip value s
  | .enclosureLevelIn value => Sys2Proof.Machine.execEnclosureLevelIn value s
  | .descriptorStart => Sys2Proof.Machine.execDescriptorStart s
  | .progressDelayExpiry => Sys2Proof.Machine.execProgressDelayExpiry s
  | .eraseResume => Sys2Proof.Machine.execEraseResume s
  | .owedEnclosureErase => Sys2Proof.Machine.execOwedEnclosureErase s
  | .interruptPoll => Sys2Proof.Machine.execInterruptPoll s
  | .remoteWakeEnable => Sys2Proof.Machine.execRemoteWakeEnable s
  | .remoteWakeDisable => Sys2Proof.Machine.execRemoteWakeDisable s
  | .powerOn => Sys2Proof.Machine.execPowerOn s
  | .powerLoss => Sys2Proof.Machine.execPowerLoss s
  | .busReset => Sys2Proof.Machine.execBusReset s
  | .standbyEntry => Sys2Proof.Machine.execStandbyEntry s
  | .standbyExit => Sys2Proof.Machine.execStandbyExit s
  | .scanSample keys switchOn => Sys2Proof.Machine.execScanSample keys switchOn s
  | .channelSample samples => Sys2Proof.Machine.execChannelSample samples s
  | .dataStageDiscarded => Sys2Proof.Machine.execDataStageDiscarded s

end Sys2Proof.Machine
end

