-- ==== Sys2Proof/Safety.lean ====
section
/-! DEFINITION. What claims about the machine speak of: states that have settled, the part's own events after a command,
and the conditions that every step keeps. -/

namespace Sys2Proof.Machine

/-! ## Settling -/

/-- Nothing is due that the part does by itself. -/
def State.settled (s : State) : Prop := s.internal = none

/-- `t` is `m` after some of the part's own events, with every LED on its winner. -/
def State.leads (m t : State) : Prop := ∃ n, t = (State.settle n m).refreshLeds

/-- `t` opens nothing that `s` does not have open: no unit, and not the admin session. -/
def State.opensNothing (s t : State) : Prop :=
  (∀ u, t.unitState u = .opened → s.unitState u = .opened) ∧ (t.control.session = true → s.control.session = true)

/-! ## Management commands -/

/-- A management record of this op that the Handler takes at its arrival: the part has settled with no management command
in progress, the pipe and the tag are free, and the parameter length is at most 512. -/
structure State.takesRecord (s : State) (op : Op) (h : RecordHead) (t : Tag) : Prop where
  powered : s.power.vbus = true
  settled : s.settled
  management : op.isManagement = true
  noCommand : s.handler = none
  pipe : s.takesNow = true
  tag : h.tag.toNat = t.val
  tagFree : s.entryOf t = none
  short : h.paramLength.toNat ≤ 512

/-- A management record that passes the Handler's checks as well (R210): the device is past CONFIGURING or serves the op
there, the length is right, and the gate passes. -/
structure State.runsNow (s : State) (op : Op) (h : RecordHead) (t : Tag) : Prop extends s.takesRecord op h t where
  served : s.configuring = true → op.servedConfiguring = true
  length : h.paramLength.toNat = op.paramLength
  gate : op.gated = true → s.gateOpen = true

/-- The entry of a management record that is in progress. -/
def State.activeEntry (s : State) (t : Tag) (op : Op) (h : RecordHead) (b : List Byte) : QueueEntry :=
  { s.newEntry t op h (some b) with state := .active }

/-- The entry of a management record that has ended. -/
def State.endedEntry (s : State) (t : Tag) (op : Op) (h : RecordHead) (b : List Byte) (st : Status)
    (returned : Option (List Byte)) : QueueEntry :=
  { s.newEntry t op h (some b) with state := .ending, verdict := some ⟨st, .none⟩, returned := returned }

/-- Unit Control after a command has passed the Handler's checks: a gated one gives an open session its full time again
(R151, R211). -/
def State.handledControl (s : State) (op : Op) : UnitControl :=
  if op.gated && s.control.session then { s.control with sessionTimer := some s.store.image.policy.adminIdle }
  else s.control

/-- The state in which a management command has ended at its taking, with nothing else changed. -/
def State.ended (s : State) (t : Tag) (op : Op) (h : RecordHead) (b : List Byte) (st : Status) : State :=
  { s with queue := s.queue ++ [s.endedEntry t op h b st none], clock := s.clock + 1, control := s.handledControl op }

/-- The state in which a management command is in progress, with nothing else changed. -/
def State.inProgress (s : State) (t : Tag) (op : Op) (h : RecordHead) (b : List Byte) : State :=
  { s with queue := s.queue ++ [s.activeEntry t op h b], clock := s.clock + 1, control := s.handledControl op,
           handler := some t }

/-! ## Closes (R70, R141 to R143, R154) -/

/-- The Event Queue after a close cause has reached the units of a list: one UNIT_LOCKED for each that is OPEN, with its opener
and the cause. -/
def State.eventsAfterCloses (s : State) (c : CloseCause) (us : List UnitNo) (q : EventQueue) : EventQueue :=
  us.foldl (fun q u => if s.unitState u = .opened then q.place (.unitLocked u (s.unitRun u).opener c) else q) q

/-- `m` is what the close of the unit, OPEN in `s`, leaves: CLOSING with mode and opener kept, the idle timer stopped and the
key slot DRAINING with its key; or past its drain as well, LOCKED with an EMPTY slot, which it is at once exactly where
nothing of it is outstanding. -/
structure State.closes (s m : State) (u : UnitNo) : Prop where
  either :
    (m.unitRun u = { s.unitRun u with state := .closing, idleTimer := none } ∧
      m.cipher.slots[u] = { s.cipher.slots[u] with state := .draining }) ∨
    (m.unitRun u = { s.unitRun u with state := .locked, mode := none, opener := none, idleTimer := none } ∧
      m.cipher.slots[u] = ⟨.empty, none⟩)
  outstanding : s.inFlight u ≠ 0 → m.unitState u = .closing
  drained : s.inFlight u = 0 → (∀ e ∈ s.queue, e.names u = true → s.hasOutstanding e.tag = false) →
    m.unitState u = .locked

/-! ## Presses (R111) -/

/-- The scanner after a recognised press of a key. -/
def Scanner.pressed (k : Scanner) (p : PadKey) : Scanner :=
  { k with down := k.down.set (padIndex p) true, run := k.run.set (padIndex p) 0 }

/-! ## Ends of a descriptor (R158, R170 to R173, R176) -/

/-- What `m` holds of a unit that the engine, in `s`, held and gave up: LOCKED with its marker cleared, or handed over to the
internal erase that targets it, still ERASING and with a KEY_REPLACE marker (R171, R176). -/
structure State.gaveUp (s m : State) (u : UnitNo) : Prop where
  released : (∀ i, s.erase.internal = some i → ∀ t ∈ i.targets, t ≠ ⟨u, .claiming⟩ ∧ t ≠ ⟨u, .pending⟩) →
    s.unitState u = .erasing → m.unitState u = .locked ∧ m.marker u = none
  handedOver : ∀ (i : InternalErase) (before after : List Target) (d : UnitDef), s.erase.internal = some i →
    i.targets = before ++ ⟨u, .claiming⟩ :: after → ⟨u, .claiming⟩ ∉ before → s.unitDef u = some d →
    m.erase.internal = some { i with targets := before ++ ⟨u, .marking⟩ :: after } ∧ m.unitState u = s.unitState u ∧
      m.marker u = some { method := .keyReplace, range := none, passes := [], verify := false }

/-- `m` is what a halt of the descriptor `d` in progress makes of `s`: done with its outcome, the engine HALTED at its position
with nothing presented, ERASE_HALTED with the count, which becomes 0, and the unit given up (R171). -/
structure State.haltsWith (s m : State) (d : Descriptor) (o : Outcome) : Prop where
  list : m.erase.list = s.erase.list.set s.erase.current (some { d with done := true, outcome := some o })
  engine : m.erase.state = .halted ∧ m.erase.stage = .none ∧ m.erase.kept = none ∧ m.erase.segment = .none ∧
    m.erase.progress = 0 ∧ m.erase.current = s.erase.current
  event : m.events = s.events.place (.eraseHalted (some d.unit) (some s.erase.current) o s.erase.progress)
  unit : s.gaveUp m d.unit

/-- The progress count after one more good end, 0 where it reaches the threshold (R173). -/
def State.countAfterGood (s : State) : Nat :=
  if s.store.image.policy.threshold ≤ s.erase.progress + 1 then 0 else s.erase.progress + 1

/-- The Event Queue after one more good end, with ERASE_PROGRESS where the count reaches the threshold (R173). -/
def State.eventsAfterGood (s : State) : EventQueue :=
  if s.store.image.policy.threshold ≤ s.erase.progress + 1 then s.events.place (.eraseProgress (s.erase.progress + 1))
  else s.events

/-- The next position lies in the window and holds a descriptor of the unit that is not done (R170). -/
def State.nextKeeps (s : State) (u : UnitNo) : Prop :=
  s.erase.current + 1 ≠ s.erase.tail ∧ ∃ d, s.erase.list[s.erase.current + 1] = some d ∧ d.done = false ∧ d.unit = u

/-- `m` is what a good end of the descriptor `d` in progress makes of `s`: done with GOOD, one more counted and reported, the
unit kept for the next descriptor or released, and the engine at the next position, IDLE at the tail; or HALTED with GOOD where
a stop request stands (R158, R170, R172, R173). -/
structure State.endsGood (s m : State) (d : Descriptor) : Prop where
  list : m.erase.list = s.erase.list.set s.erase.current (some { d with done := true, outcome := some .good })
  goesOn : s.erase.stop = .none →
    m.erase.current = s.erase.current + 1 ∧ m.erase.progress = s.countAfterGood ∧ m.events = s.eventsAfterGood ∧
      (s.nextKeeps d.unit →
        m.erase.kept = some d.unit ∧ m.unitRun d.unit = s.unitRun d.unit ∧ m.marker d.unit = s.marker d.unit) ∧
      (¬ s.nextKeeps d.unit → s.unitState d.unit = .erasing → m.unitState d.unit = .locked ∧ m.marker d.unit = none) ∧
      (s.erase.current + 1 = s.erase.tail → m.erase.state = .idle ∧ m.erase.stage = .none ∧
        m.erase.delayTimer = if s.countAfterGood = 0 ∨ s.store.image.policy.delay = 0 then none
          else some s.store.image.policy.delay) ∧
      (s.erase.current + 1 ≠ s.erase.tail → m.erase.state = s.erase.state ∧ m.erase.stage = .waiting)
  stops : s.erase.stop ≠ .none →
    m.erase.state = .halted ∧ m.erase.stage = .none ∧ m.erase.kept = none ∧ m.erase.progress = 0 ∧
      m.erase.current = s.erase.current ∧
      m.events = s.eventsAfterGood.place (.eraseHalted (some d.unit) (some s.erase.current) .good s.countAfterGood) ∧
      s.gaveUp m d.unit

/-! ## Units (R1, R2, R67, R135) -/

/-- The key slot state that goes with a unit state (R67). -/
def UnitState.keySlot : UnitState → KeySlotState
  | .opened => .loaded
  | .closing => .draining
  | .locked | .erasing => .empty

/-- A unit's fields fit together, and fit its record and its key slot. -/
structure State.unitFits (s : State) (u : UnitNo) : Prop where
  undefined : s.unitDef u = none → s.unitState u = .locked
  clear : s.isClear u = true → s.unitState u = .locked ∨ s.unitState u = .erasing
  slot : s.cipher.slots[u].state = (s.unitState u).keySlot
  key : s.cipher.slots[u].state = .empty → s.cipher.slots[u].key = none
  mode : (s.unitRun u).mode.isSome = (s.unitRun u).reported
  opener : (s.unitRun u).opener.isSome = (s.unitRun u).reported
  timer : (s.unitRun u).idleTimer.isSome = true → s.unitState u = .opened
  pending : (s.unitRun u).claimPending = true → s.unitState u = .closing
  order : u ∈ s.control.openOrder ↔ s.unitState u = .opened

/-- Every unit fits, the open order names no unit twice, and the session's timer runs exactly while it is open. -/
structure State.unitsFit (s : State) : Prop where
  units : ∀ u, s.unitFits u
  order : s.control.openOrder.Nodup
  session : s.control.sessionTimer.isSome = s.control.session

/-! ## The command path, the Event Queue and the pending set (R24, R25, R197, R219) -/

/-- No two entries share a tag, an entry has its verdict exactly while it is ENDING, the Event Queue holds at most 16
entries, and the pending set holds each record at most once. -/
structure State.queuesFit (s : State) : Prop where
  tags : (s.queue.map QueueEntry.tag).Nodup
  verdicts : ∀ e ∈ s.queue, e.verdict.isSome = decide (e.state = .ending)
  events : s.events.entries.length ≤ 16
  records : (s.store.pendingSet.map fun w => w.content.id).Nodup

/-! ## The media path (R49, R52 to R62) -/

/-- The rail's timers and count go with its state (R57 to R62). -/
def Rail.fits (r : Rail) : Prop :=
  (r.rampTimer.isSome = true ↔ r.state = .ramping) ∧ (r.retryTimer.isSome = true ↔ r.state = .fault) ∧
    (r.switchOffTimer.isSome = true → r.state = .on) ∧
    (r.state = .on → r.retryCount = 0) ∧ (r.state = .failed → r.retryCount = 3) ∧
    (r.state ≠ .failed → r.retryCount ≤ 2)

/-- An operation is outstanding only with the link READY and the rail ON, its timeout running; the rail's switch-off timer
runs only with every slot free and no capacity read; a capacity read is under way only while the link is SIZING, and the reset timer runs
exactly while it is resetting. -/
structure State.mediaFits (s : State) : Prop where
  outstanding : ∀ n m, s.slots[(n : Fin 4)] = some m → m.stage = .outstanding →
    s.link.state = .ready ∧ s.rail.state = .on
  timeouts : ∀ n m, s.slots[(n : Fin 4)] = some m → (m.timeout.isSome = true ↔ m.stage = .outstanding)
  rail : s.rail.fits
  idle : s.rail.switchOffTimer.isSome = true → s.link.capacityRead = .idle ∧ ∀ n : Fin 4, s.slots[n] = none
  sizing : s.link.capacityRead ≠ .idle → s.link.state = .sizing
  request : s.link.capacityRead = .outstanding → s.rail.state = .on
  resetting : s.link.resetTimer.isSome = true ↔ s.link.state = .resetting

/-! ## Entry, keypad and sampling (R110, R116, R117, R181) -/

/-- The entry and the first entry hold at most 16 digits, every debounce run is at most 2, and every run of a tamper
channel at most 3. -/
structure State.countsFit (s : State) : Prop where
  buffer : s.entry.buffer.length ≤ 16
  first : ∀ f, s.entry.first = some f → f.length ≤ 16
  keys : ∀ i : Fin 12, s.scanner.run[i] ≤ 2
  switch : s.scanner.switchRun ≤ 2
  channels : ∀ c : Fin 4, (s.channel c).outRun ≤ 3 ∧ (s.channel c).inRun ≤ 3

/-! ## Records (R1, R2, R4, R83, R108, R180, R191, R216) -/

/-- A channel's thresholds are raw values in order. -/
def ChannelPolicy.fits (c : ChannelPolicy) : Prop := c.low ≤ c.high ∧ c.high ≤ 4095

/-- A policy is one that POLICY SET can leave. -/
structure Policy.fits (p : Policy) : Prop where
  limit : 4 ≤ p.attemptLimit ∧ p.attemptLimit ≤ 50
  free : 1 ≤ p.freeAttempts ∧ p.freeAttempts + 1 < p.attemptLimit
  replug : p.freeAttempts + 1 ≤ p.replugPoint ∧ p.replugPoint + 1 ≤ p.attemptLimit
  base : 1 ≤ p.baseDelay ∧ p.baseDelay ≤ 60
  cap : p.baseDelay ≤ p.cap ∧ p.cap ≤ 3600
  minPin : 6 ≤ p.minPin ∧ p.minPin ≤ 12
  adminIdle : 1 ≤ p.adminIdle ∧ p.adminIdle ≤ 60
  threshold : 1 ≤ p.threshold ∧ p.threshold ≤ 32
  delay : p.delay ≤ 255
  channels : ∀ c : Fin 4, p.channels[c].fits

/-- A unit record is one that UNIT DEFINE and key replacements can leave. -/
structure UnitDef.fits (d : UnitDef) : Prop where
  length : 8 ≤ d.length
  generation : d.generation ≤ 65535
  clear : d.kind = .clear → d.generation = 0
  idleTimeout : d.idleTimeout ≤ 240

/-- A credential record names no unit twice in its grants. -/
def CredRecord.fits (c : CredRecord) : Prop := (c.grants.map Grant.unit).Nodup

/-- A record's content fits its kind. -/
def RecordContent.fits : RecordContent → Prop
  | .credential _ c => c.fits
  | .unit _ (some d) => d.fits
  | .policy p => p.fits
  | .unit _ none | .key _ _ | .attempt _ | .latch _ => True

/-- Every record fits in the array, in the image, and in every write that is pending or running; and the image holds no
key for a number that is no SECURE unit (R76). -/
structure State.recordsFit (s : State) : Prop where
  array : ∀ id, (s.store.array.content id).fits
  image : ∀ id, (s.store.image.content id).fits
  pending : ∀ w ∈ s.store.pendingSet, w.content.fits
  running : ∀ w, s.store.running = some w → w.content.fits
  keys : ∀ u : UnitNo, s.isSecure u = false → s.store.image.keys[u] = none

/-! ## Persistence (R195 to R198) -/

/-- A record whose write is due carries the image's content, and while power lasts a record with no write pending or
running stands in the array as the image holds it; a key beside no SECURE unit is left out, since a load disregards it
(R76). -/
structure State.persists (s : State) : Prop where
  pending : ∀ w ∈ s.store.pendingSet, w.content = s.store.image.content w.content.id
  written : s.power.vbus = true → ∀ id, s.writeOutstanding id = false → (∀ u, id = .key u → s.isSecure u = true) →
    s.store.array.content id = s.store.image.content id
  running : ∀ w, s.store.running = some w →
    (s.store.pendingSet.any fun v => decide (v.content.id = w.content.id)) = false →
    (∀ u, w.content.id = .key u → s.isSecure u = true) → w.content = s.store.image.content w.content.id

end Sys2Proof.Machine
end

