-- ==== Sys2Proof/WellFormed.lean ====
section
/-! DEFINITION. Which commands are well formed: the checks on a command's own operands. State plays no part here. The
meanings are total; an ill-formed command is one that no run of the hardware sends. -/

namespace Sys2Proof

/-- The op codes of R226 that are known. -/
def knownOps : List Byte :=
  [0x01, 0x02, 0x03, 0x04, 0x05, 0x40, 0x41, 0x42, 0x43, 0x44, 0x45, 0x46, 0x47, 0x48, 0x49, 0x4A, 0x4B, 0x4C, 0x4D]

/-- A parameter block has the length the record gives. A record with a parameter length above 512 is refused at arrival
and its data stage is discarded without being held (R21, R22): its block is empty. -/
def blockFits (h : RecordHead) (block : List Byte) : Bool :=
  if h.paramLength.toNat ≤ 512 then block.length == h.paramLength.toNat else block.isEmpty

/-- Presses recognised in one sample name each key once, and at least one key (R112). -/
def pressesFit (keys : List PadKey) : Bool :=
  !keys.isEmpty && decide keys.Nodup

/-- One sample takes each of the four channels once (R182). -/
def samplesFit (samples : List (Fin 4 × Sample)) : Bool :=
  samples.length == 4 && decide (samples.map Prod.fst).Nodup

/-- The checks on a command's operands. -/
def Instr.wellFormed : Instr → Bool
  | .status h b | .eventRead h b | .unitDefine h b | .unitDelete h b | .grantSet h b | .credentialRemove h b
  | .enroll h b | .policySet h b | .lock h b | .eraseListWrite h b | .eraseTail h b | .eraseAbort h b
  | .eraseClear h b | .tamperClear h b => blockFits h b
  | .unknownOp op _ => !knownOps.contains op
  | .discardedTransfer n => n != 32
  | .readDataSent n => 1 ≤ n && n ≤ 256
  | .writeIntakeEnd data => 1 ≤ data.length && data.length ≤ 256
  | .mediaCompletion _ (.ok data) => data.length ≤ 256
  | .mediaCompletion _ .failed => true
  | .recognisedPress keys => pressesFit keys
  | .channelSample samples => samplesFit samples
  | .read _ | .write _ | .trim _ | .sync _ | .unitInfo _ | .refusedStatusSent | .returnedDataSent | .statusRecordSent
  | .segmentIssue | .operationBegin _ | .mediaTimeoutExpiry _ | .resetDoneReport | .resetTimerExpiry
  | .capacityReport _ | .capacityCountdownExpiry | .powerGood | .rampTimerExpiry | .retryTimerExpiry
  | .powerGoodLoss | .switchOffTimerExpiry | .drained _ | .idleTimerExpiry _ | .sessionIdleTimerExpiry
  | .keyReplacement _ | .writeStart | .writeCompletion | .penaltyTimerExpiry | .recognisedRelease _
  | .holdTimerExpiry | .recognisedSwitchChange _ | .interKeyExpiry | .enrollmentWindowExpiry | .transientEnd _
  | .patternPhaseEnd _ | .restTimerExpiry | .alarmRaise _ _ | .alarmClear _ _ | .enclosureTrip _
  | .enclosureLevelIn _ | .descriptorStart | .progressDelayExpiry | .eraseResume | .owedEnclosureErase
  | .interruptPoll | .remoteWakeEnable | .remoteWakeDisable | .powerOn | .powerLoss | .busReset | .standbyEntry
  | .standbyExit | .scanSample _ _ | .dataStageDiscarded => true

end Sys2Proof
end

