-- ==== Sys2Proof/Certificates/Slice0/Obligations.lean ====
section
/-! DEFINITION. The statements about the machine. Each names the rules of spec/ that it formalises; `s.leads t`
(Sys2Proof/Safety.lean) says that `t` is `s` after the part's own events, and `s.finish` is `s` after all of them. That
they follow at once is the model's reading (notes/assumptions/5.md), so no statement that uses either cites a rule for
that clause. -/

open Sys2Proof Sys2Proof.Machine

/-! ## The machine as a whole -/

/-- A step runs the command at the front of the queue with the queue's rest, and an empty queue idles. The queue and
the idling are the model's own (notes/assumptions/18.md). -/
def Obligations.StepRunsFrontCommand : Prop :=
  ∀ (s : State) (c : Instr) (rest : List Instr),
    (s.pending = c :: rest → step s = exec c { s with pending := rest }) ∧ (s.pending = [] → step s = .next s)

/-- What the part's own events never change, whatever they are: the queue of commands, the power, the scanner, the link, the
array and the running write, and what the port sent; and they open neither a unit nor the admin session
(R31, R33, R49, R58, R136, R164, R198). -/
def Obligations.OwnEventsKeepFrame : Prop :=
  ∀ m t : State, m.leads t →
    t.pending = m.pending ∧ t.power.vbus = m.power.vbus ∧ t.scanner = m.scanner ∧ t.link = m.link ∧
      t.store.array = m.store.array ∧ t.store.running = m.store.running ∧
      t.port.standby = m.port.standby ∧ t.port.remoteWake = m.port.remoteWake ∧
      t.port.pressSeen = m.port.pressSeen ∧ t.port.resumeSignalled = m.port.resumeSignalled ∧
      t.port.attentionReport = m.port.attentionReport ∧ t.port.bulkIn = m.port.bulkIn ∧ m.opensNothing t

/-- No command opens a unit or the admin session but the completion of a record write, at which a verification takes its
verdict (R89 to R91): nothing that the computer sends opens one. -/
def Obligations.OnlyVerdictsOpen : Prop :=
  ∀ (c : Instr) (s t : State), c ≠ .writeCompletion → exec c s = .next t → s.opensNothing t

/-- Each record write is atomic: no command but its completion changes the array, and the completion leaves the new content
of that one record and nothing else; a loss of power at any moment keeps the array, and loses the image, the pending set and
the write that runs; and the next power-on loads the image from the array (R196), but for a key beside a unit that is not
SECURE, which the load disregards (R76, R203). That the array of the reset state is blank, and that POWER_ON on a part that
has VBUS loads it too, is the model's choice (notes/assumptions/8.md). -/
def Obligations.RecordWritesAreAtomic : Prop :=
  State.reset.store.array = Records.blank ∧
  (∀ (c : Instr) (s t : State), exec c s = .next t →
    (c ≠ .writeCompletion → t.store.array = s.store.array) ∧
      (c = .writeCompletion → (∀ w, s.power.vbus = true → s.store.running = some w →
          t.store.array = s.store.array.write w.content) ∧
        (s.store.running = none → t.store.array = s.store.array))) ∧
    (∀ (r : Records) (w : RecordContent),
      (r.write w).content w.id = w ∧ ∀ id, id ≠ w.id → (r.write w).content id = r.content id) ∧
    (∀ s t : State, s.power.vbus = true → exec .powerLoss s = .next t →
      t.store = { array := s.store.array, image := Records.blank, pendingSet := [], running := none }) ∧
    ∀ s t : State, exec .powerOn s = .next t →
      t.store.pendingSet = [] ∧ t.store.running = none ∧
        ∀ id, (∀ u, id = .key u → t.isSecure u = true) → t.store.image.content id = s.store.array.content id

/-- Units, key slots, open order and session fit together after every step (R1 to R3, R66, R67, R71, R135). -/
def Obligations.StepKeepsUnitsFit : Prop := ∀ s t : State, s.unitsFit → step s = .next t → t.unitsFit

/-- The Command Queue, the Event Queue and the pending set keep their form at every step (R24, R25, R197, R219). -/
def Obligations.StepKeepsQueuesFit : Prop := ∀ s t : State, s.queuesFit → step s = .next t → t.queuesFit

/-- At every step operations are outstanding only with the link READY and the rail ON, and the timers of link and rail run
in their own states alone (R49, R52, R57 to R62). -/
def Obligations.StepKeepsMediaFits : Prop := ∀ s t : State, s.mediaFits → step s = .next t → t.mediaFits

/-- The entry buffer and the debounce and tamper runs keep their bounds at every step (R110, R116, R117, R181). -/
def Obligations.StepKeepsCountsFit : Prop := ∀ s t : State, s.countsFit → step s = .next t → t.countsFit

/-- The limits that `RecordContent.fits` states hold at every step, in the array, in the image and in each write, and the image
holds no key beside a unit that is not SECURE: a unit's length, generation and idle timeout, a grant list that names no unit
twice, and every field of the policy (R1, R2, R4, R76, R83, R108, R180, R216). The attempt record, labels and uses left are
left out. -/
def Obligations.StepKeepsRecordsFit : Prop := ∀ s t : State, s.recordsFit → step s = .next t → t.recordsFit

/-- No change of a record is lost at any step: what the image holds stands in the array, or its write is pending or
running (R195 to R198). -/
def Obligations.StepKeepsPersists : Prop := ∀ s t : State, s.persists → step s = .next t → t.persists

/-- The machine right after reset, power-on with a blank store, meets every one of these conditions (R8, R24, R53, R57, R66,
R110, R116, R135, R194, R202). The fields with no stated reset value are the model's (notes/assumptions/25.md). -/
def Obligations.ResetMeetsConditions : Prop :=
  State.reset.unitsFit ∧ State.reset.queuesFit ∧ State.reset.mediaFits ∧ State.reset.countsFit ∧
    State.reset.recordsFit ∧ State.reset.persists

/-! ## Records on the bulk-out pipe -/

/-- The 32 bytes and the block that a well-formed record is sent as are read as that record (R226). -/
def Obligations.RecordsReadBack : Prop :=
  ∀ (i : Instr) (b block : List Byte), i.wellFormed = true → encodeRecord i = some (b, block) →
    b.length = 32 ∧ transferCommand b block = i

/-- A record of any known op that fails an arrival check takes no entry: its status is held with its tag as received, and
its data stage is discarded (R21 to R23; which stage follows: notes/assumptions/11.md). -/
def Obligations.RecordRefusedAtArrival : Prop :=
  ∀ (s : State) (op : Op) (h : RecordHead) (b : List Byte) (st : Status), s.power.vbus = true → s.takesNow = true →
    (16 ≤ h.tag.toNat ∧ st = .invalid) ∨
      ((∃ e ∈ s.queue, e.tag.val = h.tag.toNat) ∧ st = .tagInUse) ∨
      (h.tag.toNat < 16 ∧ (∀ e ∈ s.queue, e.tag.val ≠ h.tag.toNat) ∧ op.isManagement = true ∧
        512 < h.paramLength.toNat ∧ st = .invalid) →
    exec (recordCommand op h b) s = .next (State.finish { s with
      port := { s.port with
        refused := some { tag := h.tag, status := st, detail := .none,
                          residue := if op.movesData then h.count.toNat else 0 },
        bulkOut := if (op = .write ∧ h.count ≠ 0) ∨ (op.isManagement = true ∧ h.paramLength ≠ 0) then .discarding
                   else .free } })

/-- A record of an unknown op is refused, INVALID unless its tag is in use, with its data stage discarded; a transfer of
another length is discarded with nothing held (R21, R22; its residue of 0: notes/assumptions/11.md). -/
def Obligations.UnknownRecordsTakeNoEntry : Prop :=
  ∀ (s : State), s.power.vbus = true → s.takesNow = true →
    (∀ (op : Byte) (h : RecordHead),
      exec (.unknownOp op h) s = .next (State.finish { s with
        port := { s.port with
          refused := some { tag := h.tag,
                            status := if ∃ e ∈ s.queue, e.tag.val = h.tag.toNat then .tagInUse else .invalid,
                            detail := .none, residue := 0 },
          bulkOut := if h.paramLength = 0 then .free else .discarding } })) ∧
      ∀ n : Nat, exec (.discardedTransfer n) s = .next s.finish

/-- While the pipe is not free, a transfer waits on it and changes nothing else (R21; waiting as a list: notes/assumptions/10.md). -/
def Obligations.TransfersWaitForThePipe : Prop :=
  ∀ (s : State) (i : Instr), s.power.vbus = true → s.takesNow = false →
    ((∃ op h b, i = recordCommand op h b) ∨ (∃ op h, i = .unknownOp op h) ∨ ∃ n, i = .discardedTransfer n) →
    exec i s = .next { s with port := { s.port with waiting := s.port.waiting ++ [i] } }

/-! ## Admission -/

/-- A READ, WRITE or TRIM passes admission exactly when none of the eleven steps stops it (R9 to R11, R27). -/
def Obligations.AdmissionPassesExactly : Prop :=
  ∀ (s : State) (op : Op) (h : RecordHead),
    s.admission op h = none ↔
      s.power.startUp = .done ∧ s.link.state ≠ .absent ∧
        ∃ (u : UnitNo) (d : UnitDef), h.unit.toNat = u.val ∧ s.unitDef u = some d ∧ h.count ≠ 0 ∧
          h.lba.toNat + h.count.toNat ≤ d.length ∧ (s.unitRun u).unusable = false ∧ s.unitState u ≠ .erasing ∧
          (d.kind = .secure →
            s.unitState u = .opened ∧ (op.alters = true → (s.unitRun u).mode = some .readWrite)) ∧
          (d.kind = .clear → op.alters = true → s.control.session = true) ∧
          (op.alters = true → d.honorWp = true → s.scanner.switchOn = false) ∧ s.temperatureAlarm = false

/-- An admitted READ, WRITE or TRIM is QUEUED with its media start, restarts the idle timer of an OPEN unit, and a WRITE's
data stage holds the pipe (R12, R21, R22, R24, R29). -/
def Obligations.AdmittedCommandIsQueued : Prop :=
  ∀ (s : State) (op : Op) (h : RecordHead) (b : List Byte) (t : Tag) (u : UnitNo) (d : UnitDef),
    s.power.vbus = true → s.takesNow = true → op.movesData = true → h.tag.toNat = t.val → s.entryOf t = none →
    h.unit.toNat = u.val → s.unitDef u = some d → s.admission op h = none →
    exec (recordCommand op h b) s = .next (State.finish { s with
      queue := s.queue ++ [{ s.newEntry t op h none with mediaStart := some (d.base + h.lba.toNat) }],
      clock := s.clock + 1,
      units := if s.unitState u = .opened then
          s.units.set u { s.unitRun u with idleTimer := if d.idleTimeout = 0 then none else some d.idleTimeout }
        else s.units,
      port := if op = .write then { s.port with bulkOut := .writeStage t h.count.toNat } else s.port })

/-- The first of the eleven steps that stops a READ, WRITE or TRIM gives its verdict: the device, the unit, count 0, the
range, and then steps 5 to 11 by the unit's condition, its kind, the session, the switch and the temperature (R7, R9 to R11,
R27). The command is ENDING with it at once and moves no data; count 0 alone restarts the idle timer of an OPEN unit, and the
data stage of a refused WRITE is discarded (R10, R22, R25, R29). LOCKED for a claimed unit that is still CLOSING is
notes/assumptions/33.md. -/
def Obligations.RefusedCommandEnds : Prop :=
  (∀ (s : State) (op : Op) (h : RecordHead),
    (s.power.startUp ≠ .done ∨ s.link.state = .absent → s.admission op h = some .notReady) ∧
      (s.power.startUp = .done → s.link.state ≠ .absent →
        (8 ≤ h.unit.toNat ∨ (∃ u : UnitNo, h.unit.toNat = u.val ∧ s.unitDef u = none) →
          s.admission op h = some .noUnit) ∧
        ∀ (u : UnitNo) (d : UnitDef), h.unit.toNat = u.val → s.unitDef u = some d →
          let three := h.count = 0
          let four := d.length < h.lba.toNat + h.count.toNat
          let five := (s.unitRun u).unusable = true
          let six := s.unitState u = .erasing
          let seven := d.kind = .secure ∧ (s.unitState u = .locked ∨ s.unitState u = .closing)
          let eight := d.kind = .secure ∧ s.unitState u = .opened ∧ (s.unitRun u).mode ≠ some .readWrite ∧
            op.alters = true
          let nine := d.kind = .clear ∧ op.alters = true ∧ s.control.session = false
          let ten := op.alters = true ∧ d.honorWp = true ∧ s.scanner.switchOn = true
          (three → s.admission op h = some .good) ∧
            (¬ three → four → s.admission op h = some .outOfRange) ∧
            (¬ three → ¬ four → five → s.admission op h = some .outOfRange) ∧
            (¬ three → ¬ four → ¬ five → six → s.admission op h = some .erasing) ∧
            (¬ three → ¬ four → ¬ five → ¬ six → seven → s.admission op h = some .locked) ∧
            (¬ three → ¬ four → ¬ five → eight → s.admission op h = some .writeProtected) ∧
            (¬ three → ¬ four → ¬ five → ¬ six → nine → s.admission op h = some .locked) ∧
            (¬ three → ¬ four → ¬ five → ¬ six → ¬ seven → ¬ eight → ¬ nine → ten →
              s.admission op h = some .writeProtected) ∧
            (¬ three → ¬ four → ¬ five → ¬ six → ¬ seven → ¬ eight → ¬ nine → ¬ ten →
              s.temperatureAlarm = true → s.admission op h = some .notReady))) ∧
  ∀ (s : State) (op : Op) (h : RecordHead) (b : List Byte) (t : Tag) (st : Status),
    s.power.vbus = true → s.takesNow = true → op.movesData = true → h.tag.toNat = t.val → s.entryOf t = none →
    s.admission op h = some st →
    (st ≠ .good →
      exec (recordCommand op h b) s = .next (State.finish { s with
        queue := s.queue ++ [{ s.newEntry t op h none with state := .ending, verdict := some ⟨st, .none⟩ }],
        clock := s.clock + 1,
        port := if op = .write ∧ h.count ≠ 0 then { s.port with bulkOut := .discarding } else s.port })) ∧
      (st = .good → ∀ (u : UnitNo) (d : UnitDef), h.unit.toNat = u.val → s.unitDef u = some d →
        h.count = 0 ∧
        exec (recordCommand op h b) s = .next (State.finish { s with
          queue := s.queue ++ [{ s.newEntry t op h none with state := .ending, verdict := some ⟨.good, .none⟩ }],
          clock := s.clock + 1,
          units := if s.unitState u = .opened then
              s.units.set u { s.unitRun u with idleTimer := if d.idleTimeout = 0 then none else some d.idleTimeout }
            else s.units }))

/-- A SYNC that passes steps 1, 2, 5, 6, 7 and 11 is QUEUED, whatever its lba and count, and restarts the idle timer of an
OPEN unit; one that the first of these steps stops is ENDING at once with that step's verdict, and restarts no timer
(R7, R25, R27 to R29). LOCKED for a claimed unit that is still CLOSING is notes/assumptions/33.md. -/
def Obligations.AdmittedSyncIsQueued : Prop :=
  ∀ (s : State) (h : RecordHead) (t : Tag),
    s.power.vbus = true → s.takesNow = true → h.tag.toNat = t.val → s.entryOf t = none →
    let refused (st : Status) : Prop := exec (.sync h) s = .next (State.finish { s with
      queue := s.queue ++ [{ s.newEntry t .sync h none with state := .ending, verdict := some ⟨st, .none⟩ }],
      clock := s.clock + 1 })
    (s.power.startUp ≠ .done ∨ s.link.state = .absent → refused .notReady) ∧
      (s.power.startUp = .done → s.link.state ≠ .absent →
        (8 ≤ h.unit.toNat ∨ (∃ u : UnitNo, h.unit.toNat = u.val ∧ s.unitDef u = none) → refused .noUnit) ∧
        ∀ (u : UnitNo) (d : UnitDef), h.unit.toNat = u.val → s.unitDef u = some d →
          ((s.unitRun u).unusable = true → refused .outOfRange) ∧
          ((s.unitRun u).unusable = false → s.unitState u = .erasing → refused .erasing) ∧
          ((s.unitRun u).unusable = false → d.kind = .secure → s.unitState u = .locked ∨ s.unitState u = .closing →
            refused .locked) ∧
          ((s.unitRun u).unusable = false → s.unitState u ≠ .erasing → (d.kind = .secure → s.unitState u = .opened) →
            (s.temperatureAlarm = true → refused .notReady) ∧
            (s.temperatureAlarm = false → exec (.sync h) s = .next (State.finish { s with
              queue := s.queue ++ [s.newEntry t .sync h none], clock := s.clock + 1,
              units := if s.unitState u = .opened then
                  s.units.set u
                    { s.unitRun u with idleTimer := if d.idleTimeout = 0 then none else some d.idleTimeout }
                else s.units }))))

/-- UNIT INFO is served at its arrival with a copy of the unit's record, defined or not, and refused NOT_READY while
CONFIGURING and NO_UNIT above 7 (R28, R215). -/
def Obligations.UnitInfoServedAtArrival : Prop :=
  ∀ (s : State) (h : RecordHead) (t : Tag),
    s.power.vbus = true → s.takesNow = true → h.tag.toNat = t.val → s.entryOf t = none →
    (∀ u : UnitNo, s.power.startUp = .done → h.unit.toNat = u.val →
      exec (.unitInfo h) s = .next (State.finish { s with
        queue := s.queue ++ [{ s.newEntry t .unitInfo h none with
          state := .ending, verdict := some ⟨.good, .none⟩, returned := some (transferOf (s.unitInfoContent u)) }],
        clock := s.clock + 1 })) ∧
      (∀ st, (s.power.startUp ≠ .done ∧ st = .notReady) ∨ (s.power.startUp = .done ∧ 8 ≤ h.unit.toNat ∧ st = .noUnit) →
        exec (.unitInfo h) s = .next (State.finish { s with
          queue := s.queue ++ [{ s.newEntry t .unitInfo h none with state := .ending, verdict := some ⟨st, .none⟩ }],
          clock := s.clock + 1 }))

/-- What the part forms has the lengths and the layouts of the Record Formats, field by field at its offset, with the codes
written out: the status record, the 18 kinds of event entry, the data of EVENT READ, STATUS and UNIT INFO, and a transfer of
512 bytes; reserved bytes are 00h and absent fields FFh (R23, R213, R215, R224, R225, R228 to R231). The policy's 32 bytes are
those that PolicyBlockReadsBack reads. M, bases and lengths are stated as 32 bits carry them. That the penalty remaining is free
from 1 to the timer's length while the phase is PENALTY is the model's (notes/assumptions/4.md). -/
def Obligations.FormedRecordLayouts : Prop :=
  (∀ (s : State) (u : UnitNo) (r : StatusRecord) (es : List Event) (lost : Bool) (p : Policy) (content : List Byte),
    r.bytes.length = 16 ∧ s.statusContent.length = 152 ∧ (s.unitInfoContent u).length = 53 ∧
      (eventReadContent es lost).length = 8 + 8 * es.length ∧ p.bytes.length = 32 ∧
      (transferOf content).length = 512 ∧
      (content.length ≤ 512 → transferOf content = content ++ List.replicate (512 - content.length) 0)) ∧
  (∀ r : StatusRecord,
    byteAt r.bytes 0 = r.tag.toNat ∧
      (r.status, byteAt r.bytes 1) ∈ [(Status.good, 0x00), (.notReady, 0x01), (.noUnit, 0x02), (.outOfRange, 0x03),
        (.locked, 0x04), (.erasing, 0x05), (.writeProtected, 0x06), (.mediaError, 0x07), (.invalid, 0x08),
        (.tagInUse, 0x09), (.denied, 0x0A), (.unitBusy, 0x0B), (.overlap, 0x0C), (.listBusy, 0x0E),
        (.tailInvalid, 0x0F)] ∧
      (r.detail, byteAt r.bytes 2) ∈
        [(Detail.none, 0x00), (.failed, 0x01), (.timeout, 0x02), (.reset, 0x03), (.power, 0x04)] ∧
      byteAt r.bytes 3 = 0 ∧ fieldAt r.bytes 4 4 = r.residue % 2 ^ 32 ∧ fieldAt r.bytes 8 8 = 0) ∧
  (∀ (u : UnitNo) (k : SlotNo) (b : Bool) (n : Nat) (ch : Fin 4) (v : Sample),
    let unit : Byte := BitVec.ofNat 8 u.val
    let slot : Byte := BitVec.ofNat 8 k.val
    let low (x : Nat) : Byte := BitVec.ofNat 8 x
    let flag : Byte := if b then 1 else 0
    (Event.unitOpened u k .readOnly).bytes = [0x01, unit, slot, 0x00, 0, 0, 0, 0] ∧
      (Event.unitOpened u k .readWrite).bytes = [0x01, unit, slot, 0x01, 0, 0, 0, 0] ∧
      (∀ p ∈ [(CloseCause.lockKey, 0x00), (.lockCommand, 0x01), (.idle, 0x02), (.suspend, 0x03), (.temperature, 0x04),
          (.enclosure, 0x05), (.erase, 0x06), (.internal, 0x07)],
        (Event.unitLocked u (some k) p.1).bytes = [0x02, unit, slot, low p.2, 0, 0, 0, 0]) ∧
      (Event.unitBusy u k b).bytes = [0x03, unit, slot, flag, 0, 0, 0, 0] ∧
      (Event.attemptFailed n).bytes = [0x04, 0xFF, 0xFF, low n, 0, 0, 0, 0] ∧
      (Event.penaltyStart n).bytes = [0x05, 0xFF, 0xFF, low n, low (n / 256), 0, 0, 0] ∧
      Event.replugRequired.bytes = [0x06, 0xFF, 0xFF, 0, 0, 0, 0, 0] ∧
      Event.bruteEraseStart.bytes = [0x07, 0xFF, 0xFF, 0, 0, 0, 0, 0] ∧
      Event.bruteEraseDone.bytes = [0x08, 0xFF, 0xFF, 0, 0, 0, 0, 0] ∧
      (Event.enrollDone k).bytes = [0x09, 0xFF, slot, 0, 0, 0, 0, 0] ∧
      (∀ p ∈ [(AbandonReason.short, 0x00), (.mismatch, 0x01), (.pinInUse, 0x02), (.timeout, 0x03), (.lock, 0x04),
          (.alarm, 0x05), (.session, 0x06), (.removed, 0x07)],
        (Event.enrollFailed k p.1).bytes = [0x0A, 0xFF, slot, low p.2, 0, 0, 0, 0]) ∧
      (Event.eraseProgress n).bytes = [0x0B, 0xFF, 0xFF, low n, 0, 0, 0, 0] ∧
      (∀ p ∈ [(Outcome.good, 0x00), (.zeroLength, 0x01), (.noUnit, 0x02), (.outOfRange, 0x03), (.invalidMethod, 0x04),
          (.stale, 0x05), (.mediaError, 0x06), (.verifyMismatch, 0x07), (.genExhausted, 0x08), (.aborted, 0x09),
          (.preempted, 0x0A)],
        (∀ q : Fin 32,
          (Event.eraseHalted (some u) (some q) p.1 n).bytes = [0x0C, unit, 0xFF, low q.val, low p.2, low n, 0, 0] ∧
          (Event.eraseHalted none (some q) p.1 n).bytes = [0x0C, 0xFF, 0xFF, low q.val, low p.2, low n, 0, 0]) ∧
        (Event.eraseHalted (some u) none p.1 n).bytes = [0x0C, unit, 0xFF, 0xFF, low p.2, low n, 0, 0]) ∧
      (Event.tamperAlarm ch v).bytes = [0x0D, 0xFF, 0xFF, low ch.val, low v.toNat, low (v.toNat / 256), 0, 0] ∧
      (∀ p ∈ [(ClearDetail.inRange, 0x00), (.disabled, 0x01), (.cleared, 0x02)],
        (Event.tamperClear ch p.1).bytes = [0x0E, 0xFF, 0xFF, low ch.val, low p.2, 0, 0, 0]) ∧
      (Event.wpChanged b).bytes = [0x0F, 0xFF, 0xFF, flag, 0, 0, 0, 0] ∧
      (Event.railFault b n).bytes = [0x10, 0xFF, 0xFF, flag, low n, 0, 0, 0] ∧
      Event.railFailed.bytes = [0x11, 0xFF, 0xFF, 0, 0, 0, 0, 0] ∧
      ∀ p ∈ [(MediaOp.read, 0x00), (.write, 0x01), (.trim, 0x02), (.patternWrite, 0x03), (.flush, 0x04)],
        (Event.linkReset u p.1).bytes = [0x12, unit, 0xFF, low p.2, 0, 0, 0, 0]) ∧
  (∀ (es : List Event) (lost : Bool), es.length ≤ 16 →
    let c := eventReadContent es lost
    byteAt c 0 = es.length ∧ byteAt c 1 = (if lost then 1 else 0) ∧ fieldAt c 2 6 = 0 ∧
      ∀ (n : Nat) (hn : n < es.length), (c.drop (8 + 8 * n)).take 8 = es[n].bytes) ∧
  (∀ s : State,
    let c := s.statusContent
    let flag (b : Bool) : Nat := if b then 1 else 0
    byteAt c 0 = (if s.power.startUp ≠ .done then 0 else if s.factory then 2 else 1) ∧
      byteAt c 1 = flag s.control.session ∧ byteAt c 2 = s.attempt.failed % 256 ∧
      (s.entry.state, byteAt c 3) ∈ [(EntryCtl.disabled, 0x00), (.idle, 0x01), (.collecting, 0x02), (.verifying, 0x03),
        (.penalty, 0x04), (.replugWait, 0x05), (.enrollFirst, 0x06), (.enrollConfirm, 0x07)] ∧
      (s.attempt.phase ≠ .penalty → fieldAt c 4 2 = 0) ∧
      (∀ d, s.attempt.phase = .penalty → s.attempt.penaltyTimer = some d → 0 < d → d < 65536 →
        1 ≤ fieldAt c 4 2 ∧ fieldAt c 4 2 ≤ d) ∧
      byteAt c 6 = flag s.scanner.switchOn ∧ byteAt c 7 = flag s.need ∧
      (s.rail.state, byteAt c 8) ∈
        [(RailState.off, 0x00), (.ramping, 0x01), (.on, 0x02), (.fault, 0x03), (.failed, 0x04)] ∧
      (s.link.state, byteAt c 9) ∈ [(LinkState.sizing, 0x00), (.ready, 0x01), (.resetting, 0x02), (.absent, 0x03)] ∧
      (s.link.state = .sizing ∨ s.link.state = .absent → fieldAt c 10 4 = 0) ∧
      (∀ m, s.link.state = .ready ∨ s.link.state = .resetting → s.link.capacity = some m →
        fieldAt c 10 4 = m % 2 ^ 32) ∧
      (s.erase.state, byteAt c 14) ∈ [(EngineState.idle, 0x00), (.running, 0x01), (.halted, 0x02)] ∧
      byteAt c 15 = s.erase.current.val ∧ byteAt c 16 = s.erase.tail.val ∧
      byteAt c 17 = flag s.erase.internal.isSome ∧
      (s.currentDescriptor = none → byteAt c 18 = 0xFF ∧ fieldAt c 20 4 = 0xFFFFFFFF) ∧
      (∀ d, s.currentDescriptor = some d → fieldAt c 20 4 = d.sectorsDone % 2 ^ 32 ∧
        (d.phase = none → byteAt c 18 = 0xFF) ∧ (d.phase = some .verify → byteAt c 18 = 5) ∧
        ∀ n, d.phase = some (.pass n) → byteAt c 18 = n % 256) ∧
      byteAt c 19 = 0 ∧ byteAt c 24 = flag s.store.image.latch.latched ∧ byteAt c 25 = s.events.entries.length % 256 ∧
      byteAt c 26 = flag s.events.lost ∧ fieldAt c 27 5 = 0 ∧
      (∀ u : UnitNo, let o := 32 + 8 * u.val
        (s.unitDef u = none → byteAt c o = 0 ∧ (∀ i, 1 ≤ i → i ≤ 6 → byteAt c (o + i) = 0xFF)) ∧
        (∀ d, s.unitDef u = some d → byteAt c o = 1 ∧
          (d.kind, byteAt c (o + 1)) ∈ [(UnitKind.secure, 0x00), (.clear, 0x01)] ∧
          (s.unitState u, byteAt c (o + 2)) ∈
            [(UnitState.locked, 0x00), (.opened, 0x01), (.closing, 0x02), (.erasing, 0x03)] ∧
          (s.unitState u = .opened ∨ s.unitState u = .closing → ∀ m, (s.unitRun u).mode = some m →
            (m, byteAt c (o + 3)) ∈ [(Mode.readOnly, 0x00), (.readWrite, 0x01)]) ∧
          (s.unitState u = .locked ∨ s.unitState u = .erasing → byteAt c (o + 3) = 0xFF) ∧
          fieldAt c (o + 4) 2 = d.generation % 65536 ∧ byteAt c (o + 6) = flag (s.unitRun u).unusable) ∧
        byteAt c (o + 7) = 0 ∧
        (s.cipher.slots[u].state, byteAt c (96 + u.val)) ∈
          [(KeySlotState.empty, 0x00), (.loaded, 0x01), (.draining, 0x02)]) ∧
      (∀ n : Fin 4, fieldAt c (104 + 4 * n.val) 2 = (s.channel n).last.toNat ∧
        byteAt c (106 + 4 * n.val) = flag (s.channelPolicy n).enabled ∧
        byteAt c (107 + 4 * n.val) = flag (if n = 3 then s.store.image.latch.latched else (s.channel n).alarm)) ∧
      c.drop 120 = s.store.image.policy.bytes) ∧
  ∀ (s : State) (u : UnitNo),
    let c := s.unitInfoContent u
    let flag (b : Bool) : Nat := if b then 1 else 0
    (s.unitDef u = none → c = 0x00 :: List.replicate 52 0xFF) ∧
      ∀ d, s.unitDef u = some d →
        byteAt c 0 = 1 ∧ (d.kind, byteAt c 1) ∈ [(UnitKind.secure, 0x00), (.clear, 0x01)] ∧
        (s.unitState u, byteAt c 2) ∈
          [(UnitState.locked, 0x00), (.opened, 0x01), (.closing, 0x02), (.erasing, 0x03)] ∧
        (s.unitState u = .opened ∨ s.unitState u = .closing →
          (∀ m, (s.unitRun u).mode = some m → (m, byteAt c 3) ∈ [(Mode.readOnly, 0x00), (.readWrite, 0x01)]) ∧
          ∀ k, (s.unitRun u).opener = some k → byteAt c 4 = k.val) ∧
        (s.unitState u = .locked ∨ s.unitState u = .erasing → byteAt c 3 = 0xFF ∧ byteAt c 4 = 0xFF) ∧
        fieldAt c 5 4 = d.base % 2 ^ 32 ∧ fieldAt c 9 4 = d.length % 2 ^ 32 ∧ fieldAt c 13 2 = d.generation % 65536 ∧
        byteAt c 15 = flag d.honorWp ∧ byteAt c 16 = d.idleTimeout % 256 ∧ byteAt c 17 = flag d.lockOnSuspend ∧
        byteAt c 18 = flag (s.unitRun u).unusable ∧
        (d.label = none → ∀ i, 19 ≤ i → i ≤ 35 → byteAt c i = 0xFF) ∧
        (∀ l, d.label = some l → l.length ≤ 16 → byteAt c 19 = l.length ∧
          (c.drop 20).take 16 = l ++ List.replicate (16 - l.length) 0) ∧
        byteAt c 36 = flag d.marker.isSome ∧
        (d.marker = none → ∀ i, 37 ≤ i → i ≤ 52 → byteAt c i = 0xFF) ∧
        ∀ w, d.marker = some w →
          (w.method, byteAt c 37) ∈ [(EraseMethod.keyReplace, 0x01), (.trim, 0x02), (.overwrite, 0x03)] ∧
          byteAt c 38 = flag w.range.isSome ∧
          (w.range = none → ∀ i, 39 ≤ i → i ≤ 46 → byteAt c i = 0xFF) ∧
          (∀ g, w.range = some g → fieldAt c 39 4 = g.start % 2 ^ 32 ∧ fieldAt c 43 4 = g.count % 2 ^ 32) ∧
          (w.passes.length ≤ 4 → byteAt c 47 = w.passes.length ∧
            (c.drop 48).take 4 = w.passes ++ List.replicate (4 - w.passes.length) 0) ∧
          byteAt c 52 = flag w.verify


/-! ## Management commands -/

/-- The Handler's own checks, in their order, end a command with their status and nothing else done (R210). A management
record that arrives while a command is in progress is QUEUED, and in a part that has settled it stays so; and at the write
completion that ends the command in progress, the oldest QUEUED management entry is taken, and is checked and run
(R22, R41, R199, R209). -/
def Obligations.HandlerChecksRefuse : Prop :=
  (∀ (s : State) (op : Op) (h : RecordHead) (b : List Byte) (t : Tag) (st : Status), s.takesRecord op h t →
    (s.configuring = true ∧ op ≠ .status ∧ op ≠ .eventRead ∧ st = .notReady) ∨
      ((s.configuring = false ∨ op = .status ∨ op = .eventRead) ∧ h.paramLength.toNat ≠ op.paramLength ∧
        st = .invalid) ∨
      (s.configuring = false ∧ h.paramLength.toNat = op.paramLength ∧ op.gated = true ∧ s.control.session = false ∧
        s.factory = false ∧ st = .denied) →
    ∃ u, exec (recordCommand op h b) s = .next u ∧
      State.leads { s with queue := s.queue ++ [s.endedEntry t op h b st none], clock := s.clock + 1 } u) ∧
  (∀ (s : State) (op : Op) (h : RecordHead) (b : List Byte) (t busy : Tag), s.power.vbus = true → s.takesNow = true →
    op.isManagement = true → h.tag.toNat = t.val → s.entryOf t = none → h.paramLength.toNat ≤ 512 →
    s.handler = some busy →
    let waits : State := { s with queue := s.queue ++ [s.newEntry t op h (some b)], clock := s.clock + 1 }
    exec (recordCommand op h b) s = .next waits.finish ∧
      (s.settled → exec (recordCommand op h b) s = .next waits.refreshLeds)) ∧
  ∀ (s : State) (c : RecordContent) (t : Tag) (y e : QueueEntry) (before after : List QueueEntry),
    s.power.vbus = true → s.settled → s.store.running = some ⟨c, [.management]⟩ → s.handler = some t →
    s.entryOf t = some y → y.op.isManagement = true → y.orphan = false →
    (∀ r left, s.port.bulkOut ≠ .writeStage r left) → (s.queue.map QueueEntry.tag).Nodup →
    s.queue = before ++ e :: after → e.op.isManagement = true → e.state = .queued → e.tag ≠ t →
    (∀ x ∈ before, x.tag ≠ t → x.op.isManagement = true → x.state ≠ .queued) →
    ∃ u, exec .writeCompletion s = .next u ∧
      (State.execute { s with
        store := { s.store with array := s.store.array.write c, running := none }, handler := some e.tag,
        queue := s.queue.map fun x =>
          if x.tag = t then { x with state := .ending, verdict := some ⟨.good, .none⟩ }
          else if x.tag = e.tag then { x with state := .active } else x } e).leads u

/-- STATUS and EVENT READ end GOOD at their taking: STATUS with a snapshot of the state it finds, EVENT READ with every
entry of the Event Queue and the lost flag, which leaves the queue empty, the flag no and attention no
(R213, R220, R221). A STATUS draws one free value for the penalty remaining (notes/assumptions/4.md). -/
def Obligations.ReportsAreServed : Prop :=
  ∀ (s : State) (h : RecordHead) (b : List Byte) (t : Tag),
    (s.runsNow .status h t → ∃ u, exec (.status h b) s = .next u ∧
      State.leads { s with
        queue := s.queue ++ [s.endedEntry t .status h b .good (some (transferOf s.statusContent))],
        clock := s.clock + 1, draws := s.draws + 1 } u) ∧
      (s.runsNow .eventRead h t → ∃ u, exec (.eventRead h b) s = .next u ∧
        State.leads { s with
          queue := s.queue ++ [s.endedEntry t .eventRead h b .good
            (some (transferOf (eventReadContent s.events.entries s.events.lost)))],
          clock := s.clock + 1, events := { entries := [], lost := false, attention := false } } u)

/-- A definition's block is read field by field: the idle timeout is clamped to 240, a label of length 0 is absent, and the
new record has generation 0 and no marker; and it is refused exactly for a unit above 7, an unknown kind, a length below 8, a
setting that is neither yes nor no, a label above 16 characters, or a character code outside 32 to 126
(R14, R16, R224, R227). -/
def Obligations.DefinitionBlockIsRead : Prop :=
  (∀ b : List Byte, defineOf b = none ↔
    8 ≤ byteAt b 0 ∨ 2 ≤ byteAt b 1 ∨ fieldAt b 6 4 < 8 ∨ 2 ≤ byteAt b 10 ∨ 2 ≤ byteAt b 12 ∨ 16 < byteAt b 13 ∨
      ∃ c ∈ (b.drop 14).take (byteAt b 13), c.toNat < 32 ∨ 126 < c.toNat) ∧
  ∀ (u : UnitNo) (kind : UnitKind) (base length idle : Nat) (wp los : Bool) (label : List Byte),
    base < 2 ^ 32 → length < 2 ^ 32 → 8 ≤ length → idle < 256 → label.length ≤ 16 →
    (∀ c ∈ label, 32 ≤ c.toNat ∧ c.toNat ≤ 126) →
    defineOf ([byteOf u.val, kind.code] ++ fieldOf 4 base ++ fieldOf 4 length ++
        [flagOf wp, byteOf idle, flagOf los, byteOf label.length] ++ padTo 16 label) =
      some (u, { kind, base, length, generation := 0, honorWp := wp, idleTimeout := min 240 idle, lockOnSuspend := los,
                 label := if label = [] then none else some label, marker := none })

/-- An accepted UNIT DEFINE stands at once, LOCKED and with its key in the image, requests its two records in the order of
its kind, and stays in progress for the second (R15 to R17). -/
def Obligations.UnitDefineIsAccepted : Prop :=
  ∀ (s : State) (h : RecordHead) (b : List Byte) (t : Tag) (u : UnitNo) (d : UnitDef) (m : Nat),
    s.runsNow .unitDefine h t → s.link.state ≠ .absent → s.link.capacity = some m → defineOf b = some (u, d) →
    (s.unitDef u = none ∨
      (s.unitState u = .locked ∧ s.marker u = none ∧ s.writeOutstanding (.unit u) = false ∧
        ∀ e ∈ s.queue, e.head.unit.toNat = u.val → e.op.usesMedia = false)) →
    d.length ≤ m → d.base ≤ m - d.length →
    (∀ v o, v ≠ u → s.unitDef v = some o → d.base + d.length ≤ o.base ∨ o.base + o.length ≤ d.base) →
    let units := s.store.image.units.set u (some d)
    let run := s.inProgress t .unitDefine h b
    ∃ x, exec (.unitDefine h b) s = .next x ∧
      (d.kind = .secure →
        State.leads { run with
          units := s.units.set u UnitRun.fresh, draws := s.draws + 1,
          store := { s.store with
            image := { s.store.image with
              units := units, keys := s.store.image.keys.set u (some (Config.freshKey s.draws)) },
            pendingSet := joinPending (joinPending s.store.pendingSet
              ⟨.key u (some (Config.freshKey s.draws)), []⟩) ⟨.unit u (some d), [.management]⟩ } } x) ∧
      (d.kind = .clear →
        State.leads { run with
          units := s.units.set u UnitRun.fresh,
          store := { s.store with
            image := { s.store.image with units := units, keys := s.store.image.keys.set u none },
            pendingSet := joinPending (joinPending s.store.pendingSet
              ⟨.unit u (some d), []⟩) ⟨.key u none, [.management]⟩ } } x)

/-- A UNIT DEFINE that fails a check of R14 or R15 ends with the first failing check's status, with nothing changed
(R14, R15). -/
def Obligations.UnitDefineIsRefused : Prop :=
  ∀ (s : State) (h : RecordHead) (b : List Byte) (t : Tag) (st : Status), s.runsNow .unitDefine h t →
    (s.link.state = .absent ∧ st = .notReady) ∨
      (s.link.state ≠ .absent ∧ defineOf b = none ∧ st = .invalid) ∨
      (s.link.state ≠ .absent ∧ ∃ u d, defineOf b = some (u, d) ∧
        ((s.unitHeld u = true ∧ st = .unitBusy) ∨
          (s.unitHeld u = false ∧ ∃ m, s.link.capacity = some m ∧
            ((¬(d.length ≤ m ∧ d.base ≤ m - d.length) ∧ st = .outOfRange) ∨
              (d.length ≤ m ∧ d.base ≤ m - d.length ∧ st = .overlap ∧
                ∃ v o, v ≠ u ∧ s.unitDef v = some o ∧ d.base < o.base + o.length ∧ o.base < d.base + d.length))))) →
    ∃ x, exec (.unitDefine h b) s = .next x ∧ (s.ended t .unitDefine h b st).leads x

/-- UNIT DELETE makes the record undefined and destroys the key at once, requests the unit record and then the key record,
and waits for the second; it ends NO_UNIT for no defined unit and UNIT_BUSY for one that is held (R18). -/
def Obligations.UnitDeleteActs : Prop :=
  ∀ (s : State) (h : RecordHead) (b : List Byte) (t : Tag), s.runsNow .unitDelete h t →
    ∃ x, exec (.unitDelete h b) s = .next x ∧
      ((8 ≤ byteAt b 0 ∨ ∃ u : UnitNo, byteAt b 0 = u.val ∧ s.unitDef u = none) →
        (s.ended t .unitDelete h b .noUnit).leads x) ∧
      ∀ u : UnitNo, byteAt b 0 = u.val → (s.unitDef u).isSome = true →
        (s.unitHeld u = true → (s.ended t .unitDelete h b .unitBusy).leads x) ∧
        (s.unitHeld u = false →
          State.leads { s.inProgress t .unitDelete h b with
            units := s.units.set u UnitRun.fresh,
            store := { s.store with
              image := { s.store.image with
                units := s.store.image.units.set u none, keys := s.store.image.keys.set u none },
              pendingSet := joinPending (joinPending s.store.pendingSet ⟨.unit u none, []⟩)
                ⟨.key u none, [.management]⟩ } } x)

/-- A GRANT SET block carries the slot 0 to 5, the number of grants, at most 8, and each grant's unit 0 to 7 and mode, no unit
twice. GRANT SET replaces a slot's grant list at once, whatever the slot's state, and waits for the credential record.
CREDENTIAL REMOVE empties the slot at once and waits for its record; an uncommitted enrollment of the slot is abandoned with
REMOVED, a committed one will end without its slot, and the removal of slot 0 closes the session. Content that they cannot
take ends INVALID (R106, R107, R227). -/
def Obligations.CredentialCommandsAct : Prop :=
  (∀ (b : List Byte) (k : SlotNo) (gs : List Grant), grantsOf b = some (k, gs) ↔
    byteAt b 0 = k.val ∧ byteAt b 1 = gs.length ∧ gs.length ≤ 8 ∧ (gs.map Grant.unit).Nodup ∧
      ∀ (n : Nat) (hn : n < gs.length), byteAt b (2 + 2 * n) = gs[n].unit.val ∧
        ((byteAt b (3 + 2 * n) = 0 ∧ gs[n].mode = .readOnly) ∨ (byteAt b (3 + 2 * n) = 1 ∧ gs[n].mode = .readWrite))) ∧
  ∀ (s : State) (h : RecordHead) (b : List Byte) (t : Tag),
    (s.runsNow .grantSet h t → ∃ x, exec (.grantSet h b) s = .next x ∧
      (grantsOf b = none → (s.ended t .grantSet h b .invalid).leads x) ∧
      ∀ k gs, grantsOf b = some (k, gs) →
        State.leads { s.inProgress t .grantSet h b with
          store := { s.store with
            image := { s.store.image with creds := s.store.image.creds.set k { s.cred k with grants := gs } },
            pendingSet := joinPending s.store.pendingSet
              ⟨.credential k { s.cred k with grants := gs }, [.management]⟩ } } x) ∧
      (s.runsNow .credentialRemove h t → ∃ x, exec (.credentialRemove h b) s = .next x ∧
        (6 ≤ byteAt b 0 → (s.ended t .credentialRemove h b .invalid).leads x) ∧
        ∀ k : SlotNo, byteAt b 0 = k.val →
          let role (m : State) := if k = 0 then m.closeSession.reevaluate else m
          let emptied : State := { s.inProgress t .credentialRemove h b with
            store := { s.store with
              image := { s.store.image with creds := s.store.image.creds.set k CredRecord.blank },
              pendingSet := joinPending s.store.pendingSet ⟨.credential k CredRecord.blank, [.management]⟩ } }
          (s.entry.target.map EnrollTarget.slot ≠ some k → (role emptied).leads x) ∧
            (s.entry.target.map EnrollTarget.slot = some k → s.entry.commitPending = false →
              (role (emptied.abandon k .removed)).leads x) ∧
            (s.entry.target.map EnrollTarget.slot = some k → s.entry.commitPending = true →
              (role { emptied with entry := { s.entry with commitRemoved := true }, enrolling := none }).leads x))

/-- ENROLL ends GOOD at once with the slot ENROLLING, the Entry Controller in ENROLL_FIRST and the 60 s window running;
content that it cannot take ends INVALID, and an Entry Controller not IDLE gives NOT_READY (R101). -/
def Obligations.EnrollStartsEnrollment : Prop :=
  ∀ (s : State) (h : RecordHead) (b : List Byte) (t : Tag), s.runsNow .enroll h t →
    ∃ x, exec (.enroll h b) s = .next x ∧
      ((byteAt b 0 = 0 ∨ 6 ≤ byteAt b 0 ∨ (byteAt b 0 = 5 ∧ byteAt b 1 ≠ 0)) →
        (s.ended t .enroll h b .invalid).leads x) ∧
      ∀ k : SlotNo, byteAt b 0 = k.val → k ≠ 0 → (k = 5 → byteAt b 1 = 0) →
        (s.entry.state ≠ .idle → (s.ended t .enroll h b .notReady).leads x) ∧
        (s.entry.state = .idle →
          State.leads { s.ended t .enroll h b .good with
            enrolling := some { slot := k, before := (s.cred k).state },
            entry := { s.entry with
              state := .enrollFirst, buffer := [], first := none,
              target := some { slot := k, uses := some (byteAt b 1), sessionBound := s.control.session },
              interKeyTimer := none, window := some 60 } } x)

/-- A POLICY SET block is read field by field: B, C and the admin idle timeout are clamped, a threshold of 0 is the stored one,
the delay is as sent, and the set is accepted exactly when no refusal on the clamped fields holds: L, Q, P, the minimum length
and F, each channel's thresholds and enable, and the enclosure action. So the block of a policy that fits is read back as that
policy, and sending the present policy again changes no field (R108, R191, R216, R217, R227). -/
def Obligations.PolicyBlockReadsBack : Prop :=
  (∀ (p stored : Policy) (f : Nat) (b : List Byte), policyOf stored f b = some p ↔
    (4 ≤ byteAt b 0 ∧ byteAt b 0 ≤ 50 ∧ 1 ≤ byteAt b 1 ∧ byteAt b 1 + 1 < byteAt b 0 ∧ byteAt b 1 + 1 ≤ byteAt b 2 ∧
      byteAt b 2 + 1 ≤ byteAt b 0 ∧ f < byteAt b 0 ∧ 6 ≤ byteAt b 6 ∧ byteAt b 6 ≤ 12) ∧
    (p.attemptLimit = byteAt b 0 ∧ p.freeAttempts = byteAt b 1 ∧ p.replugPoint = byteAt b 2 ∧ p.minPin = byteAt b 6) ∧
    p.baseDelay = (if byteAt b 3 < 1 then 1 else if 60 < byteAt b 3 then 60 else byteAt b 3) ∧
    p.cap = (if fieldAt b 4 2 < p.baseDelay then p.baseDelay else if 3600 < fieldAt b 4 2 then 3600 else fieldAt b 4 2) ∧
    p.adminIdle = (if byteAt b 7 = 0 then 1 else if 60 < byteAt b 7 then 60 else byteAt b 7) ∧
    p.threshold = (if byteAt b 8 = 0 then stored.threshold else if 32 < byteAt b 8 then 32 else byteAt b 8) ∧
    p.delay = byteAt b 9 ∧
    (∀ c : Fin 4, p.channels[c].low = fieldAt b (10 + 5 * c.val) 2 ∧ p.channels[c].high = fieldAt b (12 + 5 * c.val) 2 ∧
      p.channels[c].low ≤ p.channels[c].high ∧ p.channels[c].high ≤ 4095 ∧
      byteAt b (14 + 5 * c.val) = if p.channels[c].enabled then 1 else 0) ∧
    byteAt b 30 = match p.action with | .lockOnly => 0 | .zeroize => 1) ∧
  ∀ (p stored : Policy) (f : Nat), p.fits → f < p.attemptLimit → policyOf stored f p.bytes = some p

/-- POLICY SET replaces the policy in the image at once and waits for its write, or ends INVALID with nothing changed. Each
channel keeps its level, runs and alarm unless its enable changes (R108, R109, R191, R216, R217). -/
def Obligations.PolicySetActs : Prop :=
  ∀ (s : State) (h : RecordHead) (b : List Byte) (t : Tag), s.runsNow .policySet h t →
    ∃ x, exec (.policySet h b) s = .next x ∧
      (policyOf s.store.image.policy s.attempt.failed b = none → (s.ended t .policySet h b .invalid).leads x) ∧
      ∀ p, policyOf s.store.image.policy s.attempt.failed b = some p →
        p.attemptLimit > s.attempt.failed ∧
        ∃ m : State, m.leads x ∧
          m.store = { s.store with
            image := { s.store.image with policy := p },
            pendingSet := joinPending s.store.pendingSet ⟨.policy p, [.management]⟩ } ∧
          m.handler = some t ∧ m.attempt = s.attempt ∧ m.units = s.units ∧ m.cipher = s.cipher ∧ m.erase = s.erase ∧
          m.control = s.handledControl .policySet ∧
          ∀ c : Fin 4, m.channel c =
            match (s.channelPolicy c).enabled, p.channels[c].enabled with
            | true, false =>
              if c = 3 then { s.channel c with
                outRun := 0, inRun := 0, level := if s.latch then .outOfRange else .inRange }
              else { s.channel c with outRun := 0, inRun := 0, level := .inRange, alarm := false }
            | false, true => { s.channel c with outRun := 0, inRun := 0 }
            | _, _ => s.channel c

/-- LOCK ends GOOD at its taking: every OPEN unit of the mask is closed, with UNIT_LOCKED and the cause LOCK_COMMAND in unit
number order, every other unit stays as it was, and a mask of all eight closes the session, which abandons a session-bound
enrollment (R70, R141, R142, R148, R152, R154). That its ENROLL_FAILED stands after the UNIT_LOCKED entries is the model's order
(notes/assumptions/16.md). -/
def Obligations.LockClosesNamedUnits : Prop :=
  ∀ (s : State) (h : RecordHead) (b : List Byte) (t : Tag), s.unitsFit → s.runsNow .lock h t →
    ∃ x m : State, exec (.lock h b) s = .next x ∧ m.leads x ∧
      (∀ u : UnitNo, (byteAt b 0).testBit u.val = true → m.unitState u ≠ .opened ∧ x.unitState u ≠ .opened ∧
        (s.unitState u = .opened → s.closes m u)) ∧
      (let closed := s.eventsAfterCloses .lockCommand
          ((List.finRange 8).filter fun u => (byteAt b 0).testBit u.val) s.events
        let abandoned (g : EnrollTarget) := byteAt b 0 = 255 ∧ s.control.session = true ∧ s.entry.target = some g ∧
          g.sessionBound = true ∧ s.entry.commitPending = false
        ((∀ g, ¬ abandoned g) → m.events = closed) ∧
          ∀ g, abandoned g → m.events = closed.place (.enrollFailed g.slot .session)) ∧
      (∀ u : UnitNo, ((byteAt b 0).testBit u.val = false ∨ s.unitState u ≠ .opened) → m.unitRun u = s.unitRun u) ∧
      m.control.session = (s.control.session && decide (byteAt b 0 ≠ 255)) ∧ m.handler = none ∧
      (∃ e ∈ m.queue, e.tag = t ∧ e.state = .ending ∧ e.verdict = some ⟨.good, .none⟩) ∧
      m.store = s.store ∧ m.attempt = s.attempt ∧ m.scanner = s.scanner ∧ m.tamper = s.tamper

/-- An ERASE LIST WRITE block carries the position 0 to 31, the unit, the method, the range where one is present, the passes,
1 to 4 for OVERWRITE and none for the others, and the verify flag, no but for OVERWRITE; the descriptor read from it is fresh.
The command places it at a position outside the pending window, and is refused LIST_BUSY inside the window of an engine that
is not IDLE, and INVALID for content that it cannot take (R159, R227). -/
def Obligations.EraseListWriteActs : Prop :=
  (∀ (b : List Byte) (p : Fin 32) (d : Descriptor), b.length = 18 → (descriptorOf b = some (p, d) ↔
    byteAt b 0 = p.val ∧ byteAt b 1 = d.unit.val ∧
      (byteAt b 2 = match d.work.method with | .keyReplace => 1 | .trim => 2 | .overwrite => 3) ∧
      ((byteAt b 3 = 0 ∧ d.work.range = none) ∨
        (byteAt b 3 = 1 ∧ d.work.range = some ⟨fieldAt b 4 4, fieldAt b 8 4⟩)) ∧
      byteAt b 12 = d.work.passes.length ∧
      (∀ (n : Nat) (hn : n < d.work.passes.length), d.work.passes[n].toNat = byteAt b (13 + n)) ∧
      byteAt b 17 = (if d.work.verify then 1 else 0) ∧
      (d.work.method = .overwrite → 1 ≤ d.work.passes.length ∧ d.work.passes.length ≤ 4) ∧
      (d.work.method ≠ .overwrite → d.work.passes = [] ∧ d.work.verify = false) ∧
      d.done = false ∧ d.outcome = none ∧ d.phase = none ∧ d.sectorsDone = 0)) ∧
  ∀ (s : State) (h : RecordHead) (b : List Byte) (t : Tag), s.runsNow .eraseListWrite h t →
    ∃ x, exec (.eraseListWrite h b) s = .next x ∧
      (descriptorOf b = none → (s.ended t .eraseListWrite h b .invalid).leads x) ∧
      ∀ p d, descriptorOf b = some (p, d) →
        (s.erase.state ≠ .idle ∧ (p - s.erase.current).val < (s.erase.tail - s.erase.current).val →
          (s.ended t .eraseListWrite h b .listBusy).leads x) ∧
        ((s.erase.state = .idle ∨ (s.erase.tail - s.erase.current).val ≤ (p - s.erase.current).val) →
          d.done = false ∧ d.outcome = none ∧ d.phase = none ∧ d.sectorsDone = 0 ∧
          State.leads { s.ended t .eraseListWrite h b .good with
            erase := { s.erase with list := s.erase.list.set p (some d) } } x)

/-- ERASE TAIL acts by the engine's state and the tail it is given, as the table of R160 states: it starts an IDLE engine,
moves the stop point of a RUNNING or HALTED one, and is refused TAIL_INVALID there at the current position. -/
def Obligations.EraseTailActs : Prop :=
  ∀ (s : State) (h : RecordHead) (b : List Byte) (t : Tag), s.runsNow .eraseTail h t →
    ∃ x, exec (.eraseTail h b) s = .next x ∧
      (32 ≤ byteAt b 0 → (s.ended t .eraseTail h b .invalid).leads x) ∧
      ∀ p : Fin 32, byteAt b 0 = p.val →
        (p = s.erase.current ∧ s.erase.state ≠ .idle → (s.ended t .eraseTail h b .tailInvalid).leads x) ∧
        ((p = s.erase.current ↔ s.erase.state = .idle) →
          State.leads { s.ended t .eraseTail h b .good with erase := { s.erase with tail := p } } x) ∧
        (p ≠ s.erase.current ∧ s.erase.state = .idle →
          State.leads { s.ended t .eraseTail h b .good with
            erase := { s.erase with tail := p, state := .running, stage := .waiting, delayTimer := none },
            rail := s.rail.follow true } x)

/-- ERASE ABORT sets the stop request of a RUNNING engine that has none, ERASE CLEAR takes a HALTED engine past its position
to IDLE or WAITING, and in every other engine state each ends GOOD with nothing changed (R161, R162, R172). That a descriptor
in WAITING halts at once whatever its method, KEY_REPLACE included, is the model's reading (notes/assumptions/14.md). -/
def Obligations.EraseAbortAndClearAct : Prop :=
  ∀ (s : State) (h : RecordHead) (b : List Byte) (t : Tag),
    (s.runsNow .eraseAbort h t → ∃ x, exec (.eraseAbort h b) s = .next x ∧
      (s.erase.state ≠ .running ∨ s.erase.stop ≠ .none → (s.ended t .eraseAbort h b .good).leads x) ∧
      (s.erase.state = .running → s.erase.stop = .none →
        s.erase.stage ≠ .waiting → ¬(s.erase.stage = .working ∧ s.erase.segment = .presented) →
        State.leads { s.ended t .eraseAbort h b .good with erase := { s.erase with stop := .aborted } } x) ∧
      (s.erase.state = .running → s.erase.stop = .none →
        s.erase.stage = .waiting ∨ (s.erase.stage = .working ∧ s.erase.segment = .presented) →
        ∃ m : State, m.leads x ∧ m.erase.state = .halted ∧ m.erase.stop = .aborted ∧ m.erase.segment = .none ∧
          m.erase.progress = 0 ∧ m.currentDescriptor = s.currentDescriptor.map fun d =>
            { d with done := true, outcome := some .aborted })) ∧
      (s.runsNow .eraseClear h t → ∃ x, exec (.eraseClear h b) s = .next x ∧
        (s.erase.state ≠ .halted → (s.ended t .eraseClear h b .good).leads x) ∧
        (s.erase.state = .halted → s.erase.current + 1 = s.erase.tail →
          State.leads { s.ended t .eraseClear h b .good with
            erase := { s.erase with
              current := s.erase.tail, stop := .none, state := .idle, stage := .none,
              delayTimer := if s.erase.progress = 0 ∨ s.store.image.policy.delay = 0 then none
                            else some s.store.image.policy.delay } } x) ∧
        (s.erase.state = .halted → s.erase.current + 1 ≠ s.erase.tail →
          State.leads { s.ended t .eraseClear h b .good with
            erase := { s.erase with
              current := s.erase.current + 1, stop := .none, state := .running, stage := .waiting,
              delayTimer := none },
            rail := s.rail.follow true } x))

/-- TAMPER CLEAR by the conditions of R190: GOOD with nothing changed where the latch is clear, INVALID where an erase is
owed or the enabled loop still reads out, and otherwise the latch clears at once and its record is written. That the last
sample is held to the thresholds standing when the command is taken is the model's choice (notes/assumptions/29.md). -/
def Obligations.TamperClearActs : Prop :=
  ∀ (s : State) (h : RecordHead) (b : List Byte) (t : Tag), s.runsNow .tamperClear h t →
    ∃ x, exec (.tamperClear h b) s = .next x ∧
      (s.latch = false → (s.ended t .tamperClear h b .good).leads x) ∧
      (s.latch = true →
        (s.tamper.zeroizeOwed = true ∨ ((s.channelPolicy 3).enabled = true ∧
            ((s.channel 3).level = .outOfRange ∨ (s.channelPolicy 3).inRange (s.channel 3).last = false)) →
          (s.ended t .tamperClear h b .invalid).leads x) ∧
        (s.tamper.zeroizeOwed = false → ((s.channelPolicy 3).enabled = true →
            (s.channel 3).level = .inRange ∧ (s.channelPolicy 3).inRange (s.channel 3).last = true) →
          State.leads (State.reevaluate { s.inProgress t .tamperClear h b with
            tamper := { s.tamper with channels := s.tamper.channels.set 3 { s.channel 3 with alarm := false } },
            store := { s.store with
              image := { s.store.image with latch := ⟨false, false⟩ },
              pendingSet := joinPending s.store.pendingSet ⟨.latch ⟨false, false⟩, [.management]⟩ },
            events := s.events.place (.tamperClear 3 .cleared) }) x))

/-! ## Pipes -/

/-- The status record of an ENDING head with no data left goes out, with its tag, verdict and residue, and the entry leaves
the queue (R23, R25, R26). -/
def Obligations.StatusRecordIsSent : Prop :=
  ∀ (s : State) (e : QueueEntry) (es : List QueueEntry) (v : Verdict), s.power.vbus = true →
    s.port.standby = false → s.port.refused = none → s.sendingRead = false → s.queue = e :: es →
    e.state = .ending → e.verdict = some v → e.returned = none →
    (∀ (n : Fin 4) (r : ReadBuffer), s.port.readBuffers[n] = some r → r.tag = e.tag → r.data = none) →
    exec .statusRecordSent s = .next (State.finish { s with
      port := { s.port with bulkIn := some (.statusRecord
        { tag := BitVec.ofNat 8 e.tag.val, status := v.status, detail := v.detail,
          residue := if e.op = .read ∨ e.op = .write ∨ e.op = .trim then e.head.count.toNat - e.sectorsDone
                     else 0 }) },
      queue := es })

/-- Sectors of the head READ's lowest buffered segment go out in order and count in its sectors done; with the last of them
the buffer is free (R23, R26, R34, R38). That a segment may go out in parts is the model's (notes/assumptions/12.md). -/
def Obligations.ReadDataIsSent : Prop :=
  ∀ (s : State) (e : QueueEntry) (es : List QueueEntry) (i : Fin 4) (r : ReadBuffer) (data : List Sector) (n : Nat),
    s.power.vbus = true → s.port.standby = false → s.queue = e :: es → (∀ x ∈ es, x.tag ≠ e.tag) →
    s.port.readBuffers[i] = some r → r.tag = e.tag → r.data = some data →
    (∀ (j : Fin 4) (q : ReadBuffer), j ≠ i → s.port.readBuffers[j] = some q → q.tag = e.tag → q.data.isSome = true →
      r.segment < q.segment) →
    (0 < r.sent ∨ (s.port.refused = none ∧ s.sendingRead = false)) → 1 ≤ n → r.sent + n ≤ data.length →
    exec (.readDataSent n) s = .next (State.finish { s with
      port := { s.port with
        bulkIn := some (.readData e.tag ((data.drop r.sent).take n)),
        readBuffers := s.port.readBuffers.set i
          (if r.sent + n = data.length then none else some { r with sent := r.sent + n }) },
      queue := { e with sectorsDone := e.sectorsDone + n } :: es })

/-- Returned data of the head and a refused status go out at a boundary between transfers, the last byte of a discarded stage
frees the pipe, a poll sends the attention report and sets the flag to no, and the two remote-wake requests set and clear
the enable (R21, R22, R26, R128, R221). -/
def Obligations.PortTransfers : Prop :=
  ∀ s : State, s.power.vbus = true →
    (∀ e es d, s.queue = e :: es → (∀ x ∈ es, x.tag ≠ e.tag) → e.returned = some d → s.port.standby = false →
      s.port.refused = none → s.sendingRead = false →
      exec .returnedDataSent s = .next { s with
        port := { s.port with bulkIn := some (.returnedData d) }, queue := { e with returned := none } :: es }) ∧
      (∀ r, s.port.refused = some r → s.port.standby = false → s.sendingRead = false →
        exec .refusedStatusSent s = .next (State.finish { s with
          port := { s.port with bulkIn := some (.statusRecord r), refused := none } })) ∧
      (s.port.bulkOut = .discarding → s.port.standby = false →
        exec .dataStageDiscarded s = .next (State.finish { s with port := { s.port with bulkOut := .free } })) ∧
      (s.events.attention = true → s.port.standby = false →
        exec .interruptPoll s = .next { s with
          port := { s.port with attentionReport := some s.events.entries.length },
          events := { s.events with attention := false } }) ∧
      exec .remoteWakeEnable s = .next { s with port := { s.port with remoteWake := true } } ∧
      exec .remoteWakeDisable s = .next { s with port := { s.port with remoteWake := false } }

/-- The last sector of a WRITE segment's intake leaves the segment waiting to begin, each sector of a SECURE unit enciphered
under its key slot and its own tweak, and each of a CLEAR unit as sent (R13, R35, R37, R73, R75). -/
def Obligations.WriteIntakeEnciphers : Prop :=
  ∀ (s : State) (n : Fin 4) (m : MediaSlot) (e : QueueEntry) (d : UnitDef) (left : Nat) (data stored : List Sector),
    s.power.vbus = true → s.port.standby = false → s.port.bulkOut = .writeStage e.tag left →
    s.entryOf e.tag = some e → s.slots[n] = some m → m.origin = .host e.tag → m.stage = .intake →
    (∀ (k : Fin 4) (x : MediaSlot), s.slots[k] = some x → x.origin = .host e.tag → x.stage = .intake → k = n) →
    data.length = m.sectors → s.unitDef m.unit = some d → stored.length = data.length →
    (d.kind = .secure → ∃ key, s.cipher.slots[m.unit].key = some key ∧
      ∀ j (hj : j < data.length) (hs : j < stored.length), stored[j] =
        Config.sectorTransform key
          { generation := d.generation, lba := e.head.lba.toNat + 256 * (m.segment - 1) + j } data[j]) →
    (d.kind = .clear → stored = data) →
    exec (.writeIntakeEnd data) s = .next (State.finish { s with
      slots := s.slots.set n (some { m with stage := .waiting, data := stored }),
      port := { s.port with
        bulkOut := if left ≤ m.sectors then .free else .writeStage e.tag (left - m.sectors) } })

/-- Deciphering sectors that were enciphered under the same key, generation and LBAs returns them, and enciphering is a
permutation: two lists of sectors with one ciphertext are equal. A sector has different ciphertexts under different keys,
generations or LBAs, and deciphering under another of them does not return it (R13, R72). That the rule's "unrelated" is at
least this is the model's reading (notes/assumptions/27.md). -/
def Obligations.DecipherUndoesEncipher : Prop :=
  ∀ (k : CipherKey) (g lba : Nat) (data : List Sector),
    decipher k g lba (encipher k g lba data) = data ∧
      (∀ other, encipher k g lba other = encipher k g lba data → other = data) ∧
      ∀ (l : CipherKey) (g' lba' : Nat) (x : Sector), g < 2 ^ 16 → g' < 2 ^ 16 → lba < 2 ^ 32 → lba' < 2 ^ 32 →
        k ≠ l ∨ g ≠ g' ∨ lba ≠ lba' →
        encipher k g lba [x] ≠ encipher l g' lba' [x] ∧ decipher l g' lba' (encipher k g lba [x]) ≠ [x]

/-! ## Media -/

/-- The Dispatcher's candidate among commands is the oldest one that is eligible or has its next segment due and can take its
buffer: a QUEUED READ, WRITE or TRIM that no earlier overlapping QUEUED or ACTIVE entry of its unit holds back, a QUEUED SYNC
behind no such WRITE, or an ACTIVE command with nothing outstanding and segments left. SEGMENT_ISSUE puts the older of it and
the erase segment that is presented into a free slot: the segment or flush stands in the slot, its entry is ACTIVE with one
more segment issued, and a READ holds a free buffer; the erase segment starts at base + start + the sectors covered. An
operation that waits in its slot begins, with its timeout, when the link is READY and the rail ON (R32 to R35, R40, R48, R49,
R169). That the slot and the buffer are the lowest free ones is the model's choice (notes/assumptions/28.md). -/
def Obligations.DispatcherIssuesAndBegins : Prop :=
  (∀ (s : State) (e : QueueEntry),
    let candidate (before : List QueueEntry) (x : QueueEntry) : Prop :=
      ((x.state = .queued ∧
          (((x.op = .read ∨ x.op = .write ∨ x.op = .trim) ∧
              ∀ y ∈ before, y.op = .read ∨ y.op = .write ∨ y.op = .trim → y.state ≠ .ending →
                y.head.unit = x.head.unit → y.op ≠ .read ∨ x.op ≠ .read →
                ¬(y.head.lba.toNat < x.head.lba.toNat + x.head.count.toNat ∧
                  x.head.lba.toNat < y.head.lba.toNat + y.head.count.toNat)) ∨
            (x.op = .sync ∧ ∀ y ∈ before, y.op = .write → y.head.unit = x.head.unit → y.state = .ending))) ∨
        (x.state = .active ∧ (x.op = .read ∨ x.op = .write ∨ x.op = .trim) ∧ x.orphan = false ∧
          x.segmentsIssued < x.segments ∧ ∀ (n : Fin 4) (m : MediaSlot), s.slots[n] = some m → m.origin ≠ .host x.tag)) ∧
      (x.op = .read → (s.headTag = some x.tag → ∃ n : Fin 4, s.port.readBuffers[n] = none) ∧
        (s.headTag ≠ some x.tag →
          ∃ n m : Fin 4, n ≠ m ∧ s.port.readBuffers[n] = none ∧ s.port.readBuffers[m] = none))
    s.findWork s.bufferAvailable [] s.queue = some e ↔
      ∃ before after, s.queue = before ++ e :: after ∧ candidate before e ∧
        ∀ first x rest, before = first ++ x :: rest → ¬ candidate first x) ∧
  (∀ (s : State) (n : Fin 4), s.power.vbus = true → s.rail.follow s.need = s.rail →
    s.link.state = .ready → s.rail.state = .on → s.freeSlot = some n →
    (∀ e : QueueEntry, s.findWork s.bufferAvailable [] s.queue = some e →
      s.presented = none ∨ e.age ≤ s.erase.workAge →
      ∃ x : State, exec .segmentIssue s = .next (State.finish (State.fillSlots 3 x)) ∧
        x.slots = s.slots.set n (some
          { origin := .host e.tag, unit := e.unitNo, op := e.op.mediaOp,
            start := if e.op = .sync then none else e.mediaStart.map (· + 256 * e.segmentsIssued),
            sectors := if e.op = .sync then 0 else e.segmentLength (e.segmentsIssued + 1),
            pattern := none, segment := e.segmentsIssued + 1,
            stage := if e.op = .write then .intake else .outstanding,
            timeout := if e.op = .write then none else some e.op.mediaOp.timeout, data := [],
            buffer := if e.op = .read then s.freeBuffer else none }) ∧
        x.queue = (s.queue.map fun y =>
          if y.tag = e.tag then { y with state := .active, segmentsIssued := y.segmentsIssued + 1 } else y) ∧
        x.rail = s.rail ∧ x.units = s.units ∧ x.store = s.store ∧ x.erase = s.erase ∧ x.cipher = s.cipher ∧
        (e.op ≠ .read → x.port = s.port) ∧
        (e.op = .read → ∀ b, s.freeBuffer = some b → x.port = { s.port with
          readBuffers := s.port.readBuffers.set b
            (some { tag := e.tag, segment := e.segmentsIssued + 1, data := none, sent := 0 }) })) ∧
    (∀ (u : UnitNo) (w : EraseWork) (p : ErasePhase) (covered : Nat) (d : UnitDef) (g : EraseRange),
      s.erase.segment = .presented → s.erase.state = .running →
      (s.erase.rerun = none ∧ s.erase.stage = .working ∧ ∃ c, s.currentDescriptor = some c ∧ c.unit = u ∧ c.work = w ∧
          c.phase = some p ∧ c.sectorsDone = covered) ∨
        (∃ r, s.erase.rerun = some r ∧ r.stage = .working ∧ r.unit = u ∧ r.work = w ∧ r.phase = p ∧
          r.sectorsDone = covered) →
      s.unitDef u = some d → w.range = some g →
      (∀ e, s.findWork s.bufferAvailable [] s.queue = some e → s.erase.workAge < e.age) →
      let op : MediaOp := match w.method, p with
        | .overwrite, .pass _ => .patternWrite
        | .overwrite, .verify => .read
        | _, _ => .trim
      exec .segmentIssue s = .next (State.finish (State.fillSlots 3 { s with
        slots := s.slots.set n (some
          { origin := .erase, unit := u, op := op, start := some (d.base + g.start + covered),
            sectors := min (if w.method = .trim then 65536 else 256) (g.count - covered),
            pattern := (match w.method, p with
              | .overwrite, .pass k => w.passes[k - 1]?
              | _, _ => none),
            segment := 0, stage := .outstanding,
            timeout := some (match op with
              | .read => 100
              | .patternWrite => 500
              | _ => 2000),
            data := [], buffer := none }),
        erase := { s.erase with segment := .issued } })))) ∧
    ∀ (s : State) (n : Fin 4) (m : MediaSlot), s.power.vbus = true → s.slots[n] = some m → m.stage = .waiting →
      s.link.state = .ready → s.rail.state = .on →
      exec (.operationBegin n) s = .next (State.finish { s with
        slots := s.slots.set n (some { m with stage := .outstanding, timeout := some (match m.op with
          | .read => 100 | .write => 500 | .trim => 2000 | .patternWrite => 500 | .flush => 500) }) })

/-- A host READ segment that completes OK on an OPEN SECURE unit reaches its buffer deciphered, and the last one ends the
READ GOOD while its data waits (R35, R38, R50, R74). -/
def Obligations.ReadCompletionDeciphers : Prop :=
  ∀ (s : State) (n i : Fin 4) (m : MediaSlot) (e : QueueEntry) (d : UnitDef) (key : CipherKey) (data plain : List Sector),
    s.power.vbus = true → s.slots[n] = some m → m.stage = .outstanding → m.origin = .host e.tag → m.op = .read →
    m.buffer = some i → s.entryOf e.tag = some e → e.orphan = false → s.unitDef m.unit = some d → d.kind = .secure →
    s.unitState m.unit = .opened → s.cipher.slots[m.unit].key = some key → data.length = m.sectors →
    (∀ t left, s.port.bulkOut = .writeStage t left → t ≠ e.tag ∧ ∀ y, s.entryOf t = some y → y.state ≠ .ending) →
    plain.length = data.length →
    (∀ j (hj : j < data.length) (hp : j < plain.length), Config.sectorTransform key
      { generation := d.generation, lba := e.head.lba.toNat + 256 * (m.segment - 1) + j } plain[j] = data[j]) →
    exec (.mediaCompletion n (.ok data)) s = .next (State.finish { s with
      slots := s.slots.set n none,
      port := { s.port with
        readBuffers := s.port.readBuffers.set i
          (some { tag := e.tag, segment := m.segment, data := some plain, sent := 0 }) },
      queue := if e.segments ≤ m.segment then
          s.queue.map fun y =>
            if y.tag = e.tag then { y with state := .ending, verdict := some ⟨.good, .none⟩ } else y
        else s.queue })

/-- A completion of a host command's segment or flush acts by the op and the unit. On a unit that is OPEN, or CLEAR and not
claimed: an OK one of a WRITE or TRIM adds its sectors to sectors done, and ends the command GOOD at the last segment; an OK one
of a READ of a CLEAR unit brings its sectors unchanged to the buffer; and one that is not OK ends the command MEDIA_ERROR with
detail FAILED, adds nothing, and frees a READ's buffer. A flush ends its SYNC GOOD or MEDIA_ERROR in every unit state. On a
unit that is closing or claimed, a READ ends LOCKED or ERASING with its data discarded, and a WRITE or TRIM that completes OK
ends so with its sectors counted. An entry that a bus reset left is dropped. A reply for a slot with no outstanding operation is
discarded (R38 to R40, R43 to R45, R50, R56, R75). -/
def Obligations.CompletionsEndCommands : Prop :=
  ∀ (s : State) (n : Fin 4), s.power.vbus = true →
    (s.linkSlot n = none → ∀ reply, exec (.mediaCompletion n reply) s = .next s) ∧
      (∀ (m : MediaSlot) (e : QueueEntry), s.slots[n] = some m → m.stage = .outstanding → m.origin = .host e.tag →
        m.op = .write ∨ m.op = .trim ∨ m.op = .flush → s.entryOf e.tag = some e → e.orphan = false →
        (∀ t left, s.port.bulkOut = .writeStage t left → t ≠ e.tag → ∀ y, s.entryOf t = some y → y.state ≠ .ending) →
        exec (.mediaCompletion n .failed) s = .next (State.finish { s with
          slots := s.slots.set n none,
          queue := s.queue.map fun y =>
            if y.tag = e.tag then { y with state := .ending, verdict := some ⟨.mediaError, .failed⟩ } else y,
          port := { s.port with bulkOut := (match s.port.bulkOut with
            | .writeStage t left => if t = e.tag then .discarding else .writeStage t left
            | b => b) } })) ∧
      (∀ (m : MediaSlot) (e : QueueEntry) (d : UnitDef), s.slots[n] = some m → m.stage = .outstanding →
        m.origin = .host e.tag → m.op = .write ∨ m.op = .trim → s.entryOf e.tag = some e → e.orphan = false →
        s.unitDef m.unit = some d → (d.kind = .secure → s.unitState m.unit = .opened) →
        (d.kind = .clear → s.unitState m.unit ≠ .erasing) → m.segment < e.segments →
        exec (.mediaCompletion n (.ok [])) s = .next (State.finish { s with
          slots := s.slots.set n none,
          queue := s.queue.map fun y =>
            if y.tag = e.tag then { y with sectorsDone := y.sectorsDone + m.sectors } else y })) ∧
      (∀ (m : MediaSlot) (e : QueueEntry) (data : List Sector), s.slots[n] = some m → m.stage = .outstanding →
        m.origin = .host e.tag → s.entryOf e.tag = some e → e.orphan = true → m.op ≠ .read ∨ data.length = m.sectors →
        ∀ reply ∈ [PackageReply.failed, .ok data], exec (.mediaCompletion n reply) s = .next (State.finish { s with
          slots := s.slots.set n none, queue := s.queue.filter fun y => decide (y.tag ≠ e.tag) })) ∧
      ∀ (m : MediaSlot) (e : QueueEntry) (d : UnitDef) (data : List Sector), s.slots[n] = some m → m.stage = .outstanding →
        m.origin = .host e.tag → s.entryOf e.tag = some e → e.orphan = false → s.unitDef m.unit = some d →
        (∀ t left, s.port.bulkOut = .writeStage t left → t ≠ e.tag → ∀ y, s.entryOf t = some y → y.state ≠ .ending) →
        let released : Port := { s.port with bulkOut := (match s.port.bulkOut with
          | .writeStage t left => if t = e.tag then .discarding else .writeStage t left
          | b => b) }
        let freed : Port := { released with readBuffers := (match m.buffer with
          | some i => s.port.readBuffers.set i none
          | none => s.port.readBuffers) }
        let ends (reply : PackageReply) (port : Port) (done : Nat) (v : Verdict) : Prop :=
          exec (.mediaCompletion n reply) s = .next (State.finish { s with
            slots := s.slots.set n none, port := port,
            queue := s.queue.map fun y => if y.tag = e.tag then
              { y with sectorsDone := y.sectorsDone + done, state := .ending, verdict := some v } else y })
        (m.op = .flush → ends (.ok data) released 0 ⟨.good, .none⟩) ∧
          (((d.kind = .secure ∧ s.unitState m.unit = .opened) ∨ (d.kind = .clear ∧ s.unitState m.unit ≠ .erasing)) →
            (m.op = .write ∨ m.op = .trim → e.segments ≤ m.segment → ends (.ok data) released m.sectors ⟨.good, .none⟩) ∧
            (m.op = .read → ends .failed freed 0 ⟨.mediaError, .failed⟩) ∧
            (m.op = .read → d.kind = .clear → data.length = m.sectors → (∀ left, s.port.bulkOut ≠ .writeStage e.tag left) →
              ∀ i, m.buffer = some i →
              exec (.mediaCompletion n (.ok data)) s = .next (State.finish { s with
                slots := s.slots.set n none,
                port := { s.port with
                  readBuffers := s.port.readBuffers.set i
                    (some { tag := e.tag, segment := m.segment, data := some data, sent := 0 }) },
                queue := if e.segments ≤ m.segment then
                    s.queue.map fun y =>
                      if y.tag = e.tag then { y with state := .ending, verdict := some ⟨.good, .none⟩ } else y
                  else s.queue }))) ∧
          ∀ st, (d.kind = .secure ∧ s.unitState m.unit ≠ .opened ∧ st = .locked) ∨
              (d.kind = .clear ∧ s.unitState m.unit = .erasing ∧ st = .erasing) →
            (m.op = .read → ends .failed freed 0 ⟨st, .none⟩ ∧
              (data.length = m.sectors → ends (.ok data) freed 0 ⟨st, .none⟩)) ∧
            (m.op = .write ∨ m.op = .trim → ends (.ok data) released m.sectors ⟨st, .none⟩)

/-- A timeout's expiry ends its operation TIMEOUT, leaves nothing outstanding, keeps what has not begun, and resets the link
with LINK_RESET; the reset ends at the report or at its timer; and the capacity answer, or the end of its countdown, ends
step 2 of start-up with the capacity check and step 3 (R20, R51, R52, R54, R204). That LINK_RESET is placed after the results
of the operations is the model's order (notes/assumptions/16.md), and that an event of a reset on a link that is not resetting
changes nothing is, for the timer, its answer to what cannot occur (notes/assumptions/7.md). Timeouts of READs and of erase
operations are left out. -/
def Obligations.LinkEvents : Prop :=
  ∀ s : State, s.power.vbus = true →
    (∀ (n : Fin 4) (m : MediaSlot) (e : QueueEntry), s.slots[n] = some m → m.stage = .outstanding →
      m.origin = .host e.tag → m.op = .write ∨ m.op = .trim ∨ m.op = .flush → s.entryOf e.tag = some e →
      e.orphan = false → (∀ k x, s.slots[(k : Fin 4)] = some x → x.origin = .host e.tag → k = n) →
      ∃ x mid : State, exec (.mediaTimeoutExpiry n) s = .next x ∧ mid.leads x ∧
        mid.link = { s.link with state := .resetting, resetTimer := some 20 } ∧ mid.rail = s.rail ∧
        (∀ k, mid.linkSlot k = none) ∧ (∀ k : Fin 4, s.linkSlot k = none → mid.slots[k] = s.slots[k]) ∧
        (∃ q : EventQueue, mid.events = q.place (.linkReset m.unit m.op)) ∧
        ∃ y ∈ mid.queue, y.tag = e.tag ∧ y.state = .ending ∧ y.verdict = some ⟨.mediaError, .timeout⟩) ∧
      (s.link.state = .resetting →
        exec .resetDoneReport s =
          .next (State.finish { s with link := { s.link with state := .ready, resetTimer := none } }) ∧
        (s.link.resetTimer.isSome = true → exec .resetTimerExpiry s =
          .next (State.finish { s with link := { s.link with state := .ready, resetTimer := none } }))) ∧
      (s.link.state ≠ .resetting → exec .resetDoneReport s = .next s ∧ exec .resetTimerExpiry s = .next s) ∧
      ∀ (c : Instr) (answer : Option Nat),
        (∃ v : BitVec 32, v ≠ 0 ∧ c = .capacityReport (.sectors v) ∧ answer = some v.toNat) ∨
          ((c = .capacityReport (.sectors 0) ∨ c = .capacityReport .failed ∨ c = .capacityCountdownExpiry) ∧
            answer = none) →
        s.link.capacityRead = .outstanding → s.power.startUp = .step2 →
        exec c s = .next (State.finish { s with
          link := { s.link with
            state := if answer.isSome then .ready else .absent, capacity := answer, capacityRead := .idle },
          units := Vector.ofFn fun u => { s.unitRun u with
            unusable := match answer, s.unitDef u with
              | some m, some d => !decide (d.length ≤ m ∧ d.base ≤ m - d.length)
              | _, _ => false },
          attempt := { s.attempt with failed := s.store.image.attempt.failed },
          tamper := {
            channels := s.tamper.channels.set 3 { s.channel 3 with
              alarm := s.store.image.latch.latched,
              level := if s.store.image.latch.latched then .outOfRange else .inRange },
            zeroizeOwed := s.store.image.latch.zeroizeOwed, sampling := true },
          power := { s.power with startUp := .step4Reruns } })

/-- The rail's events: power-good, the three timers, and the loss of power-good, which places RAIL_FAULT with LOST and at which
every outstanding operation ends and nothing else leaves its slot: a host command whose one operation it was ends MEDIA_ERROR
with POWER, and a descriptor whose segment it was halts MEDIA_ERROR. A third failed ramp, or a loss of power-good, while the capacity read is under way ends
it without M: the link is ABSENT, no unit is unusable, and start-up goes on (R20, R39, R54, R56, R59 to R62, R204). That
RAIL_FAULT stands before what the results bring about is the model's order (notes/assumptions/16.md). POWER on a READ is stated
for a unit that still serves it, with no erase segment outstanding beside it, and POWER on a rerun's segment is left out. -/
def Obligations.RailEvents : Prop :=
  ∀ s : State, s.power.vbus = true →
    (s.rail.state = .ramping → exec .powerGood s = .next (State.finish { s with
      rail := { s.rail with state := .on, retryCount := 0, rampTimer := none },
      link := if s.link.capacityRead = .awaitingRail then { s.link with capacityRead := .outstanding }
              else s.link })) ∧
      (s.rail.state ≠ .ramping → exec .powerGood s = .next s) ∧
      (s.rail.state = .ramping → s.rail.rampTimer.isSome = true → s.rail.retryCount < 2 →
        exec .rampTimerExpiry s = .next (State.finish { s with
          rail := { s.rail with
            state := .fault, retryCount := s.rail.retryCount + 1, rampTimer := none, retryTimer := some 50 },
          events := s.events.place (.railFault false (s.rail.retryCount + 1)) })) ∧
      (s.rail.state = .ramping → s.rail.rampTimer.isSome = true → 2 ≤ s.rail.retryCount →
        s.link.capacityRead = .idle →
        exec .rampTimerExpiry s = .next (State.finish { s with
          rail := { s.rail with state := .failed, retryCount := 3, rampTimer := none },
          events := s.events.place .railFailed })) ∧
      (s.rail.state = .ramping → s.rail.rampTimer.isSome = true → 2 ≤ s.rail.retryCount →
        s.link.capacityRead ≠ .idle → s.power.startUp = .step2 →
        exec .rampTimerExpiry s = .next (State.finish { s with
          rail := { s.rail with state := .failed, retryCount := 3, rampTimer := none },
          events := s.events.place .railFailed,
          link := { s.link with state := .absent, capacity := none, capacityRead := .idle },
          units := Vector.ofFn fun u => { s.unitRun u with unusable := false },
          attempt := { s.attempt with failed := s.store.image.attempt.failed },
          tamper := {
            channels := s.tamper.channels.set 3 { s.channel 3 with
              alarm := s.store.image.latch.latched,
              level := if s.store.image.latch.latched then .outOfRange else .inRange },
            zeroizeOwed := s.store.image.latch.zeroizeOwed, sampling := true },
          power := { s.power with startUp := .step4Reruns } })) ∧
      (s.rail.state = .fault → s.rail.retryTimer.isSome = true →
        exec .retryTimerExpiry s = .next { s with rail :=
          if s.need then { s.rail with state := .ramping, retryTimer := none, rampTimer := some 5 }
          else { s.rail with state := .off, retryTimer := none } }) ∧
      (s.rail.state = .on → s.rail.switchOffTimer.isSome = true →
        exec .switchOffTimerExpiry s = .next (State.finish { s with
          rail := { s.rail with state := .off, retryCount := 0, switchOffTimer := none } })) ∧
      (s.rail.state = .on → ∃ x mid : State, exec .powerGoodLoss s = .next x ∧ mid.leads x ∧
        mid.rail = { s.rail with state := .fault, switchOffTimer := none, retryTimer := some 50 } ∧
        (s.events.place (.railFault true s.rail.retryCount)).entries <+: mid.events.entries ∧
        (∀ k, mid.linkSlot k = none) ∧ (∀ k : Fin 4, s.linkSlot k = none → mid.slots[k] = s.slots[k]) ∧
        (∀ (n : Fin 4) (m : MediaSlot) (e : QueueEntry), s.slots[n] = some m → m.stage = .outstanding →
          m.origin = .host e.tag → s.entryOf e.tag = some e → e.orphan = false →
          (∀ k x, s.slots[(k : Fin 4)] = some x → x.origin = .host e.tag → k = n) →
          m.op = .write ∨ m.op = .trim ∨ m.op = .flush ∨
            (m.op = .read ∧ (∀ k x, s.slots[(k : Fin 4)] = some x → x.origin ≠ .erase) ∧
              ((s.isSecure m.unit = true ∧ s.unitState m.unit = .opened) ∨
                (s.isClear m.unit = true ∧ s.unitState m.unit ≠ .erasing))) →
          ∃ y ∈ mid.queue, y.tag = e.tag ∧ y.state = .ending ∧ y.verdict = some ⟨.mediaError, .power⟩) ∧
        (∀ (n : Fin 4) (m : MediaSlot) (d : Descriptor), s.slots[n] = some m → m.stage = .outstanding →
          m.origin = .erase → s.erase.rerun = none → s.erase.stage = .working → s.currentDescriptor = some d →
          d.phase ≠ none →
          mid.erase.list = s.erase.list.set s.erase.current
            (some { d with done := true, outcome := some .mediaError }) ∧
          mid.erase.state = .halted ∧ mid.erase.stage = .none) ∧
        mid.link.capacityRead = .idle ∧ (s.link.capacityRead = .idle → mid.link = s.link) ∧
        (s.link.capacityRead ≠ .idle →
          mid.link = { s.link with state := .absent, capacity := none, capacityRead := .idle })) ∧
      (s.rail.state = .on → (∀ k, s.linkSlot k = none) → s.link.capacityRead = .idle →
        exec .powerGoodLoss s = .next (State.finish { s with
          rail := { s.rail with state := .fault, switchOffTimer := none, retryTimer := some 50 },
          events := s.events.place (.railFault true s.rail.retryCount) })) ∧
      (s.rail.state = .on → (∀ k, s.linkSlot k = none) → s.link.capacityRead ≠ .idle → s.power.startUp = .step2 →
        exec .powerGoodLoss s = .next (State.finish { s with
          rail := { s.rail with state := .fault, switchOffTimer := none, retryTimer := some 50 },
          events := s.events.place (.railFault true s.rail.retryCount),
          link := { s.link with state := .absent, capacity := none, capacityRead := .idle },
          units := Vector.ofFn fun u => { s.unitRun u with unusable := false },
          attempt := { s.attempt with failed := s.store.image.attempt.failed },
          tamper := {
            channels := s.tamper.channels.set 3 { s.channel 3 with
              alarm := s.store.image.latch.latched,
              level := if s.store.image.latch.latched then .outOfRange else .inRange },
            zeroizeOwed := s.store.image.latch.zeroizeOwed, sampling := true },
          power := { s.power with startUp := .step4Reruns } }))

/-! ## Units -/

/-- An idle timer's expiry closes its unit with cause IDLE, its key slot DRAINING or, past the drain, EMPTY, and ends its QUEUED
commands LOCKED, and no other unit changes; a drained signal makes a CLOSING unit LOCKED with an EMPTY slot; and the session timer's expiry closes the session
(R42, R70, R71, R141, R143, R145, R151, R152, R154). -/
def Obligations.ClosesTakeEffect : Prop :=
  ∀ s : State, s.power.vbus = true →
    (∀ (u : UnitNo) (k : SlotNo), s.unitsFit → s.unitState u = .opened → (s.unitRun u).idleTimer.isSome = true →
      (s.unitRun u).opener = some k →
      ∃ x m : State, exec (.idleTimerExpiry u) s = .next x ∧ m.leads x ∧ x.unitState u ≠ .opened ∧
        s.closes m u ∧ (∀ v, v ≠ u → m.unitRun v = s.unitRun v) ∧
        m.control = { s.control with openOrder := s.control.openOrder.filter (· ≠ u) } ∧
        m.events = s.events.place (.unitLocked u (some k) .idle) ∧ m.store = s.store ∧ m.slots = s.slots ∧
        ∀ e ∈ s.queue, e.head.unit.toNat = u.val → e.op.usesMedia = true → e.state = .queued →
          ∃ y ∈ m.queue, y.tag = e.tag ∧ y.state = .ending ∧ y.verdict = some ⟨.locked, .none⟩) ∧
      (∀ u : UnitNo, s.unitState u = .closing → (s.unitRun u).claimPending = false → s.inFlight u = 0 →
        (∀ e ∈ s.queue, e.head.unit.toNat = u.val → e.op.usesMedia = true → e.state = .ending) →
        exec (.drained u) s = .next (State.finish { s with
          units := s.units.set u { s.unitRun u with state := .locked, mode := none, opener := none },
          cipher := { s.cipher with slots := s.cipher.slots.set u ⟨.empty, none⟩ } })) ∧
      (s.control.session = true → s.control.sessionTimer.isSome = true → s.entry.target = none →
        exec .sessionIdleTimerExpiry s =
          .next (State.refreshLeds { s with control := { s.control with session := false, sessionTimer := none } })) ∧
      ∀ g, s.control.session = true → s.control.sessionTimer.isSome = true → s.entry.target = some g →
        s.entry.commitPending = false → g.sessionBound = true →
        exec .sessionIdleTimerExpiry s = .next (State.refreshLeds (State.abandon
          { s with control := { s.control with session := false, sessionTimer := none } } g.slot .session))

/-- Each grant of an open request acts by the unit that it names, as the table of R137 states: opening it with a copy of the
image's key (R68, R138), widening it (R69, R139), or skipping it; the grants act in list order, a grant changes no other unit
and no record, a CLOSING unit is not opened when its drain completes, and in FACTORY every grant is skipped (R87, R136). -/
def Obligations.GrantsOpenByTable : Prop :=
  ∀ (s : State) (k : SlotNo) (g : Grant),
    (s.factory = true → ∀ gs, s.openRequest k gs = s) ∧
      (s.factory = false → s.openRequest k [] = s ∧
        ∀ gs, s.openRequest k (g :: gs) = (s.openGrant k g).openRequest k gs) ∧
      (s.openGrant k g).store = s.store ∧ (∀ v, v ≠ g.unit → (s.openGrant k g).unitRun v = s.unitRun v) ∧
      (∀ u t, s.unitState u = .closing → exec (.drained u) s = .next t → t.unitState u ≠ .opened) ∧
      (s.unitDef g.unit = none ∨ s.isClear g.unit = true ∨ (s.unitRun g.unit).unusable = true →
        s.openGrant k g = s) ∧
      ∀ d, s.unitDef g.unit = some d → d.kind = .secure → (s.unitRun g.unit).unusable = false →
        (s.unitState g.unit = .locked → d.marker ≠ none → s.openGrant k g = s) ∧
        (s.unitState g.unit = .closing →
          s.openGrant k g = { s with events := s.events.place (.unitBusy g.unit k false) }) ∧
        (s.unitState g.unit = .erasing →
          s.openGrant k g = { s with events := s.events.place (.unitBusy g.unit k true) }) ∧
        (s.unitState g.unit = .locked → d.marker = none →
          s.openGrant k g = { s with
            units := s.units.set g.unit { s.unitRun g.unit with
              state := .opened, mode := some g.mode, opener := some k,
              idleTimer := if d.idleTimeout = 0 then none else some d.idleTimeout },
            cipher := { s.cipher with
              slots := s.cipher.slots.set g.unit ⟨.loaded, s.store.image.keys[g.unit]⟩ },
            control := { s.control with openOrder := s.control.openOrder.filter (· ≠ g.unit) ++ [g.unit] },
            events := s.events.place (.unitOpened g.unit k g.mode) }) ∧
        ∀ m, s.unitState g.unit = .opened → (s.unitRun g.unit).mode = some m →
          let wide : Mode := if m = .readWrite ∨ g.mode = .readWrite then .readWrite else .readOnly
          s.openGrant k g = { s with
            units := s.units.set g.unit { s.unitRun g.unit with
              mode := some wide, opener := some k,
              idleTimer := if d.idleTimeout = 0 then none else some d.idleTimeout },
            control := { s.control with openOrder := s.control.openOrder.filter (· ≠ g.unit) ++ [g.unit] },
            events := s.events.place (.unitOpened g.unit k wide) }

/-- The unit's oldest key replacement request that is taken puts a key that no earlier draw gave and the raised generation
into the image and requests the key record and then the unit record; on the descriptor path at 65,535 it changes no key and no
generation, and halts the descriptor GEN_EXHAUSTED. The write of a target's marker asks for a replacement on the internal path.
A replacement's completion ends the descriptor that asked GOOD; a target that asked is DONE, and its unit released, or the
request of a unit that was targeted again is taken at once; and the last DONE ends the internal erase, with the clearing stage
of a brute-force erase and the report to the Tamper Monitor (R77 to R80, R99, R168, R170, R171, R175, R177, R188). That the
random source gives no key twice is the model's reading of "fresh" (notes/assumptions/2.md). -/
def Obligations.KeyReplacementIsTaken : Prop :=
  (∀ n m : Nat, n < 2 ^ 256 → m < 2 ^ 256 → n ≠ m → Config.freshKey n ≠ Config.freshKey m) ∧
  (∀ (s : State) (u : UnitNo) (q : KeyRequest) (before rest : List KeyRequest) (d : UnitDef), s.power.vbus = true →
    s.cipher.requests = before ++ q :: rest → q.unit = u → (∀ r ∈ before, r.unit ≠ u) → s.unitDef u = some d →
    d.kind = .secure → s.unitState u = .erasing → s.cipher.slots[u].state = .empty → u ∉ s.cipher.replacing →
    (d.generation < 65535 ∨ q.path = .internal →
      let new : UnitDef := { d with generation := min 65535 (d.generation + 1) }
      exec (.keyReplacement u) s = .next (State.finish { s with
        cipher := { s.cipher with requests := before ++ rest, replacing := s.cipher.replacing ++ [u] },
        draws := s.draws + 1,
        store := { s.store with
          image := { s.store.image with
            units := s.store.image.units.set u (some new),
            keys := s.store.image.keys.set u (some (Config.freshKey s.draws)) },
          pendingSet := joinPending (joinPending s.store.pendingSet ⟨.key u (some (Config.freshKey s.draws)), []⟩)
            ⟨.unit u (some new), [.replacement u q.path]⟩ } })) ∧
      (65535 ≤ d.generation → q.path = .descriptor →
        ∃ x m : State, exec (.keyReplacement u) s = .next x ∧ m.leads x ∧
          m.store.image.keys = s.store.image.keys ∧ (∀ v, m.generation v = s.generation v) ∧
          m.erase.state = .halted ∧ m.cipher.requests = before ++ rest ∧ m.draws = s.draws ∧
          ∀ c, s.currentDescriptor = some c → c.unit = u → s.erase.stage = .working → s.haltsWith m c .genExhausted)) ∧
  ∀ (s : State) (u : UnitNo) (c : RecordContent), s.power.vbus = true →
    let written : Store := { s.store with array := s.store.array.write c, running := none }
    (∀ (i : InternalErase) (before after : List Target), s.store.running = some ⟨c, [.internalMarker u]⟩ →
      s.erase.internal = some i → i.targets = before ++ ⟨u, .marking⟩ :: after → ⟨u, .marking⟩ ∉ before →
      exec .writeCompletion s = .next (State.finish { s with
        store := written,
        erase := { s.erase with internal := some { i with targets := before ++ ⟨u, .replacing⟩ :: after } },
        cipher := { s.cipher with requests := s.cipher.requests ++ [⟨u, .internal⟩] } })) ∧
      (∀ d, s.store.running = some ⟨c, [.replacement u .descriptor]⟩ → s.currentDescriptor = some d → d.unit = u →
        (∀ r ∈ s.cipher.requests, r.unit ≠ u) →
        ∃ x m : State, exec .writeCompletion s = .next x ∧ m.leads x ∧ u ∉ m.cipher.replacing ∧ s.endsGood m d) ∧
      ∀ (i : InternalErase) (before after : List Target), s.store.running = some ⟨c, [.replacement u .internal]⟩ →
        s.erase.rerun = none → s.erase.internal = some i → i.targets = before ++ ⟨u, .replacing⟩ :: after →
        ⟨u, .replacing⟩ ∉ before → ⟨u, .pending⟩ ∉ before → (∀ r ∈ s.cipher.requests, r.unit ≠ u) →
        s.unitState u = .erasing →
        (⟨u, .pending⟩ ∉ after →
          ∃ x m : State, exec .writeCompletion s = .next x ∧ m.leads x ∧ u ∉ m.cipher.replacing ∧
            m.unitState u = .locked ∧ m.marker u = none ∧
            ((∃ t ∈ before ++ after, t.stage ≠ .done) →
              m.erase.internal = some { i with targets := before ++ ⟨u, .done⟩ :: after }) ∧
            ((∀ t ∈ before ++ after, t.stage = .done) → m.erase.internal = none ∧
              (.bruteForce ∈ i.requesters → s.attempt.brute = .erasing →
                m.attempt = { s.attempt with failed := 0, brute := .clearing } ∧ (∀ k, m.cred k = CredRecord.blank) ∧
                m.store.image.attempt = ⟨0, 0⟩ ∧ m.factory = true) ∧
              (.zeroize ∈ i.requesters →
                m.tamper.zeroizeOwed = false ∧ m.store.image.latch = ⟨s.latch, false⟩))) ∧
        ∀ (mid rest : List Target) (d : UnitDef), after = mid ++ ⟨u, .pending⟩ :: rest → ⟨u, .pending⟩ ∉ mid →
          s.unitDef u = some d → d.kind = .secure → s.cipher.slots[u].state = .empty →
          ∃ x m : State, exec .writeCompletion s = .next x ∧ m.leads x ∧
            m.erase.internal = some { i with
              targets := before ++ ⟨u, .done⟩ :: mid ++ ⟨u, .replacing⟩ :: rest } ∧
            m.unitState u = .erasing ∧ u ∈ m.cipher.replacing ∧ m.cipher.requests = s.cipher.requests ∧
            m.store.image.keys = s.store.image.keys.set u (some (Config.freshKey s.draws)) ∧ m.draws = s.draws + 1 ∧
            m.generation u = min 65535 (d.generation + 1)

/-! ## Records -/

/-- A request joins the pending set at the end, or replaces the content held for its record at its earlier place; a record
leaves the set when its write starts, which is held during VBUS_LOW; and at the completion the array holds the new content
and those who wait are answered (R196 to R201). -/
def Obligations.RecordWritesInOrder : Prop :=
  (∀ (set : List WriteRequest) (r : WriteRequest), (∀ w ∈ set, w.content.id ≠ r.content.id) →
    joinPending set r = set ++ [r]) ∧
    (∀ (before after : List WriteRequest) (w r : WriteRequest), w.content.id = r.content.id →
      (∀ v ∈ before ++ after, v.content.id ≠ r.content.id) →
      joinPending (before ++ w :: after) r =
        before ++ { content := r.content, waiters := w.waiters ++ r.waiters } :: after) ∧
    ∀ s : State, s.power.vbus = true →
      (∀ w ws, s.store.pendingSet = w :: ws → s.store.running = none → s.vbusLow = false →
        exec .writeStart s = .next { s with store := { s.store with pendingSet := ws, running := some w } }) ∧
      (s.store.pendingSet = [] ∨ s.store.running ≠ none ∨ s.vbusLow = true → exec .writeStart s = .next s) ∧
      (∀ c, s.store.running = some ⟨c, []⟩ → exec .writeCompletion s = .next (State.finish { s with
        store := { s.store with array := s.store.array.write c, running := none } })) ∧
      ∀ c t e, s.store.running = some ⟨c, [.management]⟩ → s.handler = some t → s.entryOf t = some e →
        e.orphan = false → (∀ r left, s.port.bulkOut ≠ .writeStage r left) →
        exec .writeCompletion s = .next (State.finish { s with
          store := { s.store with array := s.store.array.write c, running := none }, handler := none,
          queue := s.queue.map fun y =>
            if y.tag = t then { y with state := .ending, verdict := some ⟨.good, .none⟩ } else y })

/-! ## Attempts -/

/-- The release of the held KEY within its 3 s ends an entry: one of at least the minimum length is charged, with F raised,
the attempt record requested and the brute-force erase pending at the limit; a shorter one is discarded with FAIL and
without a charge (R89, R99, R112, R114, R118). In an enrollment it keeps the first entry and then checks both: too short, not
equal, or accepted by an ACTIVE slot, and the enrollment is abandoned; otherwise it is committed, with a salt that no earlier
draw gave, and the write's completion makes the slot ACTIVE, or leaves it as removed (R85, R103, R104, R107, R124, R125). Any
other release delivers nothing. The limit is compared as L ≤ F, F above L included (notes/assumptions/15.md), and the source
gives no salt twice (notes/assumptions/2.md): both are the model's. -/
def Obligations.KeyReleaseEndsEntry : Prop :=
  (∀ (n m : Nat) (pin : List Digit), n < 2 ^ 128 → m < 2 ^ 128 → n ≠ m → Config.freshSalt n ≠ Config.freshSalt m ∧
    verifierOf (Config.freshSalt n) pin ≠ verifierOf (Config.freshSalt m) pin) ∧
  (∀ (s : State) (p : PadKey), s.power.vbus = true → s.scanner.isDown p = true →
    let down := s.scanner.down.set (padIndex p) false
    let up : Scanner := { s.scanner with
      down := down, run := s.scanner.run.set (padIndex p) 0,
      lockout := if ∀ i : Fin 12, down[i] = false then false else s.scanner.lockout }
    (s.scanner.held = some p → p ≠ .key ∨ s.scanner.holdTimer = none →
      exec (.recognisedRelease p) s = .next (State.refreshLeds { s with
        scanner := { up with held := none, holdTimer := none } })) ∧
      (s.scanner.held ≠ some p →
        exec (.recognisedRelease p) s = .next (State.refreshLeds { s with scanner := up }))) ∧
  (∀ s : State, s.power.vbus = true → s.scanner.isDown .key = true → s.scanner.held = some .key →
    s.scanner.holdTimer.isSome = true →
    let down := s.scanner.down.set 10 false
    let scanner : Scanner := { s.scanner with
      down := down, run := s.scanner.run.set 10 0, held := none, holdTimer := none,
      lockout := if ∀ i : Fin 12, down[i] = false then false else s.scanner.lockout }
    let f := s.attempt.failed + 1
    let minimum := s.store.image.policy.minPin
    (s.entry.state = .collecting →
      (minimum ≤ s.entry.buffer.length →
        exec (.recognisedRelease .key) s = .next (State.refreshLeds { s with
          scanner := scanner,
          entry := { s.entry with state := .verifying, interKeyTimer := none },
          attempt := { s.attempt with
            failed := f, phase := .charging,
            brute := if s.store.image.policy.attemptLimit ≤ f then .pending else s.attempt.brute },
          store := { s.store with
            image := { s.store.image with attempt := ⟨f, 0⟩ },
            pendingSet := joinPending s.store.pendingSet ⟨.attempt ⟨f, 0⟩, [.charge]⟩ } })) ∧
        (s.entry.buffer.length < minimum →
          exec (.recognisedRelease .key) s = .next (State.refreshLeds (State.showFail { s with
            scanner := scanner, entry := { s.entry with state := .idle, buffer := [], interKeyTimer := none } })))) ∧
      (s.entry.state ≠ .collecting → (s.entry.state ≠ .enrollFirst ∧ s.entry.state ≠ .enrollConfirm) ∨ s.entry.buffer = [] →
        exec (.recognisedRelease .key) s = .next (State.refreshLeds { s with scanner := scanner })) ∧
      (s.entry.state = .enrollFirst → s.entry.buffer ≠ [] →
        exec (.recognisedRelease .key) s = .next (State.refreshLeds { s with
          scanner := scanner,
          entry := { s.entry with
            state := .enrollConfirm, first := some s.entry.buffer, buffer := [], interKeyTimer := none } })) ∧
      ∀ (first : List Digit) (g : EnrollTarget), s.entry.state = .enrollConfirm → s.entry.buffer ≠ [] →
        s.entry.first = some first → s.entry.target = some g → s.entry.commitPending = false →
        let short := first.length < minimum ∨ s.entry.buffer.length < minimum
        let inUse := ∃ k, s.isActive k = true ∧ (s.cred k).matches s.entry.buffer = true
        (∀ r, (short ∧ r = .short) ∨ (¬ short ∧ first ≠ s.entry.buffer ∧ r = .mismatch) ∨
            (¬ short ∧ first = s.entry.buffer ∧ inUse ∧ r = .pinInUse) →
          ∃ t, exec (.recognisedRelease .key) s = .next t ∧ t.enrolling = none ∧ t.store = s.store ∧
            t.attempt = s.attempt ∧ t.draws = s.draws ∧ t.scanner = scanner ∧
            t.entry = { s.entry with
              state := if s.entryDisabled then .disabled else .idle, buffer := [], first := none, target := none,
              interKeyTimer := none, window := none } ∧
            t.events = s.events.place (.enrollFailed g.slot r) ∧ t.leds.fail = true) ∧
        (¬ short → first = s.entry.buffer → ¬ inUse →
          let salt := Config.freshSalt s.draws
          let new : CredRecord := { s.cred g.slot with
            state := .active, salt := some salt, verifier := some (verifierOf salt first),
            usesLeft := match g.uses with
              | none => (s.cred g.slot).usesLeft
              | some n => if n = 0 then none else some n }
          exec (.recognisedRelease .key) s = .next (State.refreshLeds { s with
            scanner := scanner, draws := s.draws + 1,
            entry := { s.entry with
              state := .verifying, buffer := [], first := none, commitPending := true, commitRemoved := false,
              interKeyTimer := none, window := none },
            store := { s.store with
              image := { s.store.image with creds := s.store.image.creds.set g.slot new },
              pendingSet := joinPending s.store.pendingSet ⟨.credential g.slot new, [.commit]⟩ } }))) ∧
  ∀ (s : State) (c : RecordContent) (g : EnrollTarget), s.power.vbus = true →
    s.store.running = some ⟨c, [.commit]⟩ → s.entry.commitPending = true → s.entry.target = some g →
    ∃ x m : State, exec .writeCompletion s = .next x ∧ m.leads x ∧
      m.store = { s.store with array := s.store.array.write c, running := none } ∧ m.attempt = s.attempt ∧
      m.entry.commitPending = false ∧ m.entry.target = none ∧
      (s.entry.state ≠ .disabled → m.entry.state = if m.entryDisabled then .disabled else .idle) ∧
      (s.entry.commitRemoved = false → m.enrolling = none ∧ m.events = s.events.place (.enrollDone g.slot) ∧
        m.leds.green = some .ok) ∧
      (s.entry.commitRemoved = true → m.enrolling = s.enrolling ∧ m.leds.fail = true ∧
        m.events = s.events.place (.enrollFailed g.slot .removed))

/-- At the charge's write completion the entry is compared. No match is a failed attempt that acts by F: no delay up to Q, the
delay of R95 above Q, and at L the brute-force erase. A match on ADMIN or a USER slot spends a counted use, sets F to 0, and
passes the slot's grants, and on ADMIN opens the session; one on DURESS requests the internal erase of its units and fails
outwardly, with the brute-force erase behind it at L. The clearing stage's last write ends the brute-force erase. At the
penalty's expiry the phase is REPLUG where the latch is due, and IDLE otherwise. Step 6 of start-up takes the loaded F and the
owed penalty in the same way (R90 to R94, R96 to R99, R174, R207). The brute-force clauses compare L ≤ F, F above L included,
which is the model's (notes/assumptions/15.md). An unusable SECURE unit that a DURESS grant names is a target which the
internal erase skips (notes/assumptions/30.md). -/
def Obligations.VerdictsAct : Prop :=
  ∀ s : State, s.power.vbus = true →
    let p := s.store.image.policy
    let f := s.attempt.failed
    let goes (e : Entry) (c : EntryCtl) : Entry := { e with state := if e.state = .disabled then .disabled else c }
    (∀ a : AttemptRecord, s.store.running = some ⟨.attempt a, [.charge]⟩ → s.attempt.phase = .charging →
      let cleared : Entry := { s.entry with buffer := [] }
      let store : Store := { s.store with array := s.store.array.write (.attempt a), running := none }
      let match? := s.matchingSlot s.entry.buffer
      let failed := s.events.place (.attemptFailed f)
      let idle : AttemptControl := { s.attempt with phase := .idle, penaltyTimer := none, brute := .none }
      let penalty : AttemptControl := { s.attempt with
        phase := .penalty, penaltyTimer := some (p.penaltyDelay f), replugDue := decide (p.replugPoint ≤ f),
        brute := .none }
      (match? = none → f < p.attemptLimit → f ≤ p.freeAttempts →
        exec .writeCompletion s = .next (State.finish (State.showFail { s with
          store := store, entry := goes cleared .idle, attempt := idle, events := failed }))) ∧
        (match? = none → f < p.attemptLimit → p.freeAttempts < f →
          exec .writeCompletion s = .next (State.finish (State.showFail { s with
            store := { store with
              image := { s.store.image with attempt := ⟨f, p.penaltyDelay f⟩ },
              pendingSet := joinPending s.store.pendingSet ⟨.attempt ⟨f, p.penaltyDelay f⟩, []⟩ },
            entry := goes cleared .penalty, attempt := penalty,
            events := failed.place (.penaltyStart (p.penaltyDelay f)) }))) ∧
        (match? = none → p.attemptLimit ≤ f → s.erase.internal = none →
          ∃ x m : State, exec .writeCompletion s = .next x ∧ m.leads x ∧ m.control.session = false ∧
            (failed.place .bruteEraseStart).entries <+: m.events.entries ∧
            (s.secureUnits ≠ [] →
              m.attempt = { s.attempt with phase := .bruteForce, brute := .erasing } ∧ (∀ k, m.cred k = s.cred k) ∧
              ((∀ u, s.heldUnit = some u → s.unitState u ≠ .opened) → ∀ u, s.isSecure u = true → m.unitState u ≠ .opened) ∧
              ∃ i, m.erase.internal = some i ∧ i.requesters = [.bruteForce] ∧ i.targets.map Target.unit = s.secureUnits) ∧
            (s.secureUnits = [] → m.erase.internal = none ∧
              m.attempt = { s.attempt with failed := 0, phase := .bruteForce, brute := .clearing } ∧
              (∀ k, m.cred k = CredRecord.blank) ∧ m.store.image.attempt = ⟨0, 0⟩)) ∧
        (∀ k, match? = some k → k ≠ 5 →
          let use : Option CredRecord := if k = 0 then none else (s.cred k).usesLeft.map fun n =>
            { s.cred k with usesLeft := some (n - 1), state := if n ≤ 1 then .spent else .active }
          let creds := match use with
            | some c => s.store.image.creds.set k c
            | none => s.store.image.creds
          let set := match use with
            | some c => joinPending s.store.pendingSet ⟨.credential k c, []⟩
            | none => s.store.pendingSet
          let before : State := { s with
            attempt := { s.attempt with failed := 0 },
            store := { store with
              image := { s.store.image with creds := creds, attempt := ⟨0, 0⟩ },
              pendingSet := joinPending set ⟨.attempt ⟨0, 0⟩, []⟩ } }
          let opened := before.openRequest k (s.cred k).grants
          ∃ x m : State, exec .writeCompletion s = .next x ∧ m.leads x ∧ m.entry = goes cleared .idle ∧
            m.attempt = { s.attempt with failed := 0, phase := .idle, penaltyTimer := none, brute := .none } ∧
            m.store = before.store ∧ m.leds.green = some .ok ∧ m.erase = s.erase ∧ m.units = opened.units ∧
            m.cipher = opened.cipher ∧ m.events = opened.events ∧ m.control.openOrder = opened.control.openOrder ∧
            m.control.session = (s.control.session || decide (k = 0)) ∧
            (k = 0 → m.control.sessionTimer = some p.adminIdle)) ∧
        (match? = some 5 → s.erase.internal = none → ((s.cred 5).grants.map Grant.unit).Nodup →
          let named := ((s.cred 5).grants.map Grant.unit).filter s.isSecure
          let taken := named.filter fun u => !(s.unitRun u).unusable
          ∃ x m : State, exec .writeCompletion s = .next x ∧ m.leads x ∧ m.leds.fail = true ∧ m.entry.buffer = [] ∧
            ((∀ u, s.heldUnit = some u → s.unitState u = .closing ∨ s.unitState u = .erasing) →
              ∀ u ∈ taken, m.unitState u = .closing ∨ m.unitState u = .erasing) ∧
            (f < p.attemptLimit → (∀ k, m.cred k = s.cred k) ∧
              (∀ u ∈ named, (s.unitRun u).unusable = true → s.heldUnit ≠ some u →
                m.unitRun u = s.unitRun u ∧ m.unitDef u = s.unitDef u) ∧
              (taken = [] → m.erase.internal = none) ∧
              (taken ≠ [] → ∃ i, m.erase.internal = some i ∧ i.requesters = [.duress] ∧
                i.targets.map Target.unit = named ∧
                ∀ t ∈ i.targets, (s.unitRun t.unit).unusable = true → t.stage = .done) ∧
              ∃ q : EventQueue,
                (f ≤ p.freeAttempts → m.attempt = idle ∧ m.events = q.place (.attemptFailed f)) ∧
                (p.freeAttempts < f → m.attempt = penalty ∧
                  m.events = (q.place (.attemptFailed f)).place (.penaltyStart (p.penaltyDelay f)))) ∧
            (p.attemptLimit ≤ f → m.control.session = false ∧
              (∃ q : EventQueue, m.events = q.place (.attemptFailed f)) ∧
              (taken ≠ [] → m.attempt = { s.attempt with phase := .bruteForce, brute := .erasing } ∧
                ∃ i, m.erase.internal = some i ∧ i.requesters = [.duress, .bruteForce] ∧
                  i.targets.map Target.unit = taken ++ s.secureUnits.filter fun u => decide (u ∉ taken)) ∧
              (taken = [] → s.secureUnits ≠ [] →
                m.attempt = { s.attempt with phase := .bruteForce, brute := .erasing } ∧
                ∃ i, m.erase.internal = some i ∧ i.requesters = [.bruteForce] ∧
                  i.targets.map Target.unit = s.secureUnits)))) ∧
      (∀ c, s.store.running = some ⟨c, [.clearing]⟩ → s.attempt.brute = .clearing →
        exec .writeCompletion s = .next (State.finish { s with
          store := { s.store with array := s.store.array.write c, running := none }, entry := goes s.entry .idle,
          attempt := { s.attempt with
            phase := .idle, penaltyTimer := none, replugLatch := false, replugDue := false, brute := .none },
          events := s.events.place .bruteEraseDone })) ∧
      (s.attempt.phase = .penalty → s.attempt.penaltyTimer.isSome = true →
        let store : Store := { s.store with
          image := { s.store.image with attempt := ⟨f, 0⟩ },
          pendingSet := joinPending s.store.pendingSet ⟨.attempt ⟨f, 0⟩, []⟩ }
        (s.attempt.replugDue = true → exec .penaltyTimerExpiry s = .next (State.refreshLeds { s with
          store := store, entry := goes s.entry .replugWait,
          attempt := { s.attempt with phase := .replug, penaltyTimer := none, replugLatch := true, replugDue := false },
          events := s.events.place .replugRequired })) ∧
        (s.attempt.replugDue = false → exec .penaltyTimerExpiry s = .next (State.refreshLeds { s with
          store := store, entry := goes s.entry .idle,
          attempt := { s.attempt with phase := .idle, penaltyTimer := none, brute := .none } }))) ∧
      (s.power.startUp = .step4Reruns → s.erase.rerun = none → s.nextMarked = none → s.tamper.zeroizeOwed = false →
        (∀ u, s.drainDue u = false) →
        let owed := s.store.image.attempt.owed
        let ready : State := { s with power := { s.power with startUp := .done }, erase := { s.erase with state := .idle } }
        (f < p.attemptLimit → owed = 0 → ready.reevaluate.leads s.finish) ∧
        (f < p.attemptLimit → 0 < owed →
          (State.reevaluate { ready with
            attempt := { s.attempt with phase := .penalty, penaltyTimer := some owed, replugDue := false },
            events := s.events.place (.penaltyStart owed) }).leads s.finish) ∧
        (p.attemptLimit ≤ f → s.erase.internal = none → s.secureUnits ≠ [] →
          ∃ m : State, m.leads s.finish ∧ m.power.startUp = .step6 ∧
            m.attempt = { s.attempt with phase := .bruteForce, brute := .erasing } ∧ (∀ k, m.cred k = s.cred k) ∧
            ∃ i, m.erase.internal = some i ∧ i.requesters = [.bruteForce] ∧
              i.targets.map Target.unit = s.secureUnits)) ∧
      (s.power.startUp = .step6 → s.attempt.phase = .idle → (∀ u, s.drainDue u = false) →
        (State.reevaluate { s with power := { s.power with startUp := .done } }).leads s.finish)

/-- The penalty delay after a failure with F in Q + 1..L − 1 is B × 2^(F − Q − 1) seconds, or C if that product exceeds C,
for every policy that POLICY SET can leave; the exponent is at most 47, from 12 on the delay is C, up to 11 the product is at
most 122,880, and the delay is 1 to 3,600 s; it is formed from the policy that stands at the verdict (R95). -/
def Obligations.PenaltyDelayIsCapped : Prop :=
  (∀ s : State, s.startPenalty.attempt.penaltyTimer = some (s.store.image.policy.penaltyDelay s.attempt.failed)) ∧
  ∀ (p : Policy) (f : Nat), p.fits → p.freeAttempts < f → f < p.attemptLimit →
    p.penaltyDelay f =
      (if p.cap < p.baseDelay * 2 ^ (f - p.freeAttempts - 1) then p.cap
       else p.baseDelay * 2 ^ (f - p.freeAttempts - 1)) ∧
      f - p.freeAttempts - 1 ≤ 47 ∧ (12 ≤ f - p.freeAttempts - 1 → p.penaltyDelay f = p.cap) ∧
      (f - p.freeAttempts - 1 ≤ 11 → p.baseDelay * 2 ^ (f - p.freeAttempts - 1) ≤ 122880) ∧
      1 ≤ p.penaltyDelay f ∧ p.penaltyDelay f ≤ 3600

/-! ## Keypad, switch and indicators -/

/-- A digit press with no key held and lockout clear becomes the held key and acts by the entry's state: it starts an entry,
is appended to one of fewer than 16 digits, restarts the timer of a full one, and changes no field elsewhere; and the first
press of a standby period signals resume where remote wake is enabled (R112, R117, R128). -/
def Obligations.DigitsAreCollected : Prop :=
  ∀ (s : State) (d : Digit), s.power.vbus = true → s.scanner.isDown (.digit d) = false → s.scanner.held = none →
    s.scanner.lockout = false →
    let port : Port := if s.port.standby = true ∧ s.port.pressSeen = false then
        { s.port with pressSeen := true, resumeSignalled := s.port.remoteWake } else s.port
    let pressed : State := { s with
      scanner := { s.scanner.pressed (.digit d) with held := some (.digit d), holdTimer := none },
      port := port, leds := { s.leds with restTimer := some 30 } }
    let lit : Indicators := { pressed.leds with
      green := some .pulse, greenDisplay := if s.port.standby then s.leds.greenDisplay else ⟨some .pulseFeedback, 0⟩ }
    (s.entry.state = .idle → exec (.recognisedPress [.digit d]) s = .next (State.finish { pressed with
      leds := lit, entry := { s.entry with state := .collecting, buffer := [d], interKeyTimer := some 10 } })) ∧
      (s.entry.state = .collecting ∨ s.entry.state = .enrollFirst ∨ s.entry.state = .enrollConfirm →
        (s.entry.buffer.length < 16 → exec (.recognisedPress [.digit d]) s = .next (State.finish { pressed with
          leds := lit, entry := { s.entry with buffer := s.entry.buffer ++ [d], interKeyTimer := some 10 } })) ∧
        (16 ≤ s.entry.buffer.length → exec (.recognisedPress [.digit d]) s = .next (State.finish { pressed with
          entry := { s.entry with interKeyTimer := some 10 } }))) ∧
      (s.entry.state = .disabled ∨ s.entry.state = .verifying ∨ s.entry.state = .penalty ∨
        s.entry.state = .replugWait → exec (.recognisedPress [.digit d]) s = .next (State.finish pressed))

/-- LOCK closes every OPEN unit, each with UNIT_LOCKED and the cause LOCK_KEY, and the session, in every state of the entry; KEY
becomes the held key with its 3 s hold timer, and delivers nothing; presses while a key is held or in lockout are key activity
alone; two or more presses in one sample set lockout; the first press of a standby period signals resume where remote wake is
enabled; the hold timer's expiry selects a slot by R102; and a switch change sets the level and places WP_CHANGED (R102, R112
to R115, R120, R123, R128, R133, R141, R142, R147). That an abandonment's ENROLL_FAILED stands before the UNIT_LOCKED entries is
the model's order (notes/assumptions/16.md). -/
def Obligations.KeysActByState : Prop :=
  ∀ s : State, s.power.vbus = true →
    let port : Port := if s.port.standby = true ∧ s.port.pressSeen = false then
      { s.port with pressSeen := true, resumeSignalled := s.port.remoteWake } else s.port
    (s.unitsFit → s.scanner.isDown .lock = false → s.scanner.held = none → s.scanner.lockout = false →
      let abandoned := (s.entry.state = .enrollFirst ∨ s.entry.state = .enrollConfirm) ∧ s.entry.commitPending = false
      ∃ x m : State, exec (.recognisedPress [.lock]) s = .next x ∧ m.leads x ∧
        m.port.pressSeen = port.pressSeen ∧ m.port.resumeSignalled = port.resumeSignalled ∧
        (∀ u, x.unitState u ≠ .opened) ∧ x.control.session = false ∧ m.control.openOrder = [] ∧
        (∀ u, s.unitState u = .opened → s.closes m u) ∧
        (s.entry.target = none →
          m.events = s.eventsAfterCloses .lockKey (List.finRange 8) s.events) ∧
        (∀ g, s.entry.target = some g → abandoned → m.events =
          s.eventsAfterCloses .lockKey (List.finRange 8) (s.events.place (.enrollFailed g.slot .lock))) ∧
        (¬ abandoned →
          (s.eventsAfterCloses .lockKey (List.finRange 8) s.events).entries <+: m.events.entries) ∧
        x.scanner = { s.scanner.pressed .lock with held := some .lock, holdTimer := none } ∧ m.store = s.store ∧
        (∀ u, s.unitState u ≠ .opened → m.unitRun u = s.unitRun u) ∧
        (s.entry.state = .collecting → s.entry.target = none →
          m.entry = { s.entry with state := .idle, buffer := [], interKeyTimer := none }) ∧
        (∀ g, s.entry.state = .enrollFirst ∨ s.entry.state = .enrollConfirm → s.entry.target = some g →
          s.entry.commitPending = false → m.enrolling = none ∧ m.entry.target = none ∧ m.entry.state = .idle ∨
            s.entryDisabled = true)) ∧
      (s.scanner.isDown .key = false → s.scanner.held = none → s.scanner.lockout = false →
        exec (.recognisedPress [.key]) s = .next (State.finish { s with
          scanner := { s.scanner.pressed .key with held := some .key, holdTimer := some 3 }, port := port,
          leds := { s.leds with restTimer := some 30 } })) ∧
      (∀ ps : List PadKey, ps ≠ [] → ps.Nodup → (∀ p ∈ ps, s.scanner.isDown p = false) →
        let pressed : Scanner := ps.foldl Scanner.pressed s.scanner
        (s.scanner.held ≠ none ∨ s.scanner.lockout = true → exec (.recognisedPress ps) s = .next (State.finish { s with
          scanner := pressed, port := port, leds := { s.leds with restTimer := some 30 } })) ∧
        (2 ≤ ps.length → s.scanner.held = none → s.scanner.lockout = false →
          exec (.recognisedPress ps) s = .next (State.finish { s with
            scanner := { pressed with lockout := true }, port := port,
            leds := { s.leds with restTimer := some 30 } }))) ∧
      (s.scanner.holdTimer.isSome = true → s.scanner.held = some .key →
        let after : State := { s with scanner := { s.scanner with holdTimer := none } }
        let enrolls (k : SlotNo) (bound : Bool) : State := State.refreshLeds { after with
          enrolling := some { slot := k, before := (s.cred k).state },
          entry := { s.entry with
            state := .enrollFirst, buffer := [], first := none, target := some ⟨k, none, bound⟩, interKeyTimer := none,
            window := some 60 } }
        (s.entry.state ≠ .idle → exec .holdTimerExpiry s = .next after.refreshLeds) ∧
          (s.entry.state = .idle →
            let admin := s.control.session = true ∧
              ∃ u, s.unitState u = .opened ∧ (s.unitRun u).opener = some (0 : SlotNo)
            (s.factory = true → exec .holdTimerExpiry s = .next (enrolls 0 false)) ∧
            (s.factory = false → admin → exec .holdTimerExpiry s = .next (enrolls 0 true)) ∧
            (s.factory = false → ¬ admin → ∀ (before : List UnitNo) (u : UnitNo) (k : SlotNo),
              s.control.openOrder = before ++ [u] → (s.unitRun u).opener = some k →
              (k ≠ 0 → k ≠ 5 → s.isActive k = true → exec .holdTimerExpiry s = .next (enrolls k false)) ∧
              (k = 0 ∨ k = 5 ∨ s.isActive k = false →
                exec .holdTimerExpiry s = .next (State.refreshLeds after.showFail))) ∧
            (s.factory = false → ¬ admin → s.control.openOrder = [] →
              exec .holdTimerExpiry s = .next (State.refreshLeds after.showFail)))) ∧
      ∀ on : Bool, s.scanner.switchSampled = true → s.scanner.switchOn ≠ on →
        exec (.recognisedSwitchChange on) s = .next { s with
          scanner := { s.scanner with switchOn := on, switchRun := 0 }, events := s.events.place (.wpChanged on) }

/-- The inter-key timer's expiry clears the entry, and COLLECTING goes to IDLE; the window's expiry abandons the enrollment
with TIMEOUT, its slot as it was; a transient's end leaves the LED to its highest request; a phase's end turns a blinking
LED over; and the rest timer's expiry leaves a shown rest request dark (R105, R119, R125, R129, R131 to R133). -/
def Obligations.EntryAndLightTimersExpire : Prop :=
  ∀ s : State, s.power.vbus = true →
    (s.entry.interKeyTimer.isSome = true →
      (s.entry.state = .collecting → exec .interKeyExpiry s =
        .next { s with entry := { s.entry with state := .idle, buffer := [], interKeyTimer := none } }) ∧
      (s.entry.state = .enrollFirst ∨ s.entry.state = .enrollConfirm → exec .interKeyExpiry s =
        .next { s with entry := { s.entry with buffer := [], interKeyTimer := none } })) ∧
      (∀ g, s.entry.window.isSome = true → s.entry.target = some g → s.entry.commitPending = false →
        ∃ t, exec .enrollmentWindowExpiry s = .next t ∧ t.enrolling = none ∧ t.store = s.store ∧
          t.entry = { s.entry with
            state := if s.entryDisabled then .disabled else .idle, buffer := [], first := none, target := none,
            interKeyTimer := none, window := none } ∧
          t.events = s.events.place (.enrollFailed g.slot .timeout) ∧ t.leds.fail = true ∧
          (s.port.standby = false → (t.leds.display .red).shown = some .failFeedback)) ∧
      (∃ t, exec (.transientEnd .red) s = .next t ∧ t.leds.fail = false ∧ t.leds.green = s.leds.green ∧
        (s.port.standby = false → (t.leds.display .red).shown =
          if s.latch then some .latch
          else if s.entry.state = .penalty ∨ s.entry.state = .replugWait then some .attemptWait
          else if s.anyErasing ∨ s.erase.internal.isSome ∨ s.control.session ∨ s.anyOpen then none
          else some .rest)) ∧
      (∃ t, exec (.transientEnd .green) s = .next t ∧ t.leds.green = none ∧ t.leds.fail = s.leds.fail ∧
        (s.port.standby = false → (t.leds.display .green).shown = if s.anyOpen then some .unitOpen else none)) ∧
      exec (.transientEnd .blue) s = .next s ∧
      (∀ (l : Led) (r : LedRequest), (s.leds.display l).shown = some r →
        ((r.pattern = .slow ∨ r.pattern = .fast) ∧ (s.leds.display l).phase < 2) ∨
          (r.pattern = .fail ∧ (s.leds.display l).phase < 5) →
        ∃ t, exec (.patternPhaseEnd l) s = .next t ∧ (t.leds.display l).shown = some r ∧ t.lit l = !s.lit l ∧
          ∀ k, k ≠ l → t.leds.display k = s.leds.display k) ∧
      exec .restTimerExpiry s = .next { s with leds := { s.leds with restTimer := none } } ∧
      ∀ l, (s.leds.display l).shown = some .rest → (s.lit l = true ↔ s.leds.restTimer.isSome = true)

/-! ## Samples and alarms -/

/-- A sample of the keys moves each key's run and stable level as R111 states, and what it recognises is delivered: presses
as by RECOGNISED_PRESS, a release as by RECOGNISED_RELEASE and before them, and a switch change with WP_CHANGED (R111 to R115).
A sample of the four channels, each once, is stored for each enabled one, raises the run of its side to at most 3 and sets the
other to 0; the third on the new side changes the level, with the effects that the rows of alarms and trips have; channel 3
returning to IN keeps the latch; and a disabled channel, or any before sampling begins, stays (R182, R183, R186). That a sample
of the switch before any stands undebounced, and that the switch comes last, is notes/assumptions/13.md. -/
def Obligations.SamplesAreDebounced : Prop :=
  ∀ s : State, s.power.vbus = true →
    (∀ (keys : BitVec 12) (on : Bool),
      (∃ t m : State, exec (.scanSample keys on) s = .next t ∧ m.leads t ∧
        (∀ i : Fin 12, (keys.getLsbD i.val = s.scanner.down[i] →
            t.scanner.down[i] = s.scanner.down[i] ∧ t.scanner.run[i] = 0) ∧
          (keys.getLsbD i.val ≠ s.scanner.down[i] → s.scanner.run[i] < 2 →
            t.scanner.down[i] = s.scanner.down[i] ∧ t.scanner.run[i] = s.scanner.run[i] + 1) ∧
          (keys.getLsbD i.val ≠ s.scanner.down[i] → 2 ≤ s.scanner.run[i] →
            t.scanner.down[i] = keys.getLsbD i.val ∧ t.scanner.run[i] = 0)) ∧
        (s.scanner.switchSampled = false → t.scanner.switchOn = on ∧ t.scanner.switchSampled = true) ∧
        (s.scanner.switchSampled = true → s.scanner.switchOn ≠ on → s.scanner.switchRun < 2 →
          t.scanner.switchOn = s.scanner.switchOn ∧ t.scanner.switchRun = s.scanner.switchRun + 1) ∧
        (s.scanner.switchSampled = true → s.scanner.switchOn = on →
          t.scanner.switchOn = on ∧ t.scanner.switchRun = 0) ∧
        (s.scanner.switchSampled = true → s.scanner.switchOn ≠ on → 2 ≤ s.scanner.switchRun →
          t.scanner.switchOn = on ∧ t.scanner.switchRun = 0)) ∧
      let turns (q : PadKey) (down : Bool) : Prop :=
        keys.getLsbD (padIndex q).val = down ∧ s.scanner.isDown q ≠ down ∧ 2 ≤ s.scanner.run[padIndex q]
      let counted : Scanner := { s.scanner with
        run := Vector.ofFn fun i => if keys.getLsbD i.val = s.scanner.down[i] ∨ 2 ≤ s.scanner.run[i] then 0
          else s.scanner.run[i] + 1 }
      let before : State := { s with scanner := { counted with switchRun := 0 } }
      (s.scanner.switchSampled = true → s.scanner.switchOn = on → ∀ ps : List PadKey, ps.Nodup →
        (∀ q, q ∈ ps ↔ turns q true) →
        (ps ≠ [] → (∀ q, ¬ turns q false) → exec (.scanSample keys on) s = exec (.recognisedPress ps) before) ∧
        ∀ r, (∀ q, turns q false ↔ q = r) → ∃ z : State, exec (.recognisedRelease r) before = .next z.refreshLeds ∧
          (ps = [] → exec (.scanSample keys on) s = .next z.finish) ∧
          (ps ≠ [] → s.scanner.lockout = false → exec (.scanSample keys on) s = exec (.recognisedPress ps) z)) ∧
      ((∀ q down, ¬ turns q down) → s.scanner.switchSampled = true → s.scanner.switchOn ≠ on → 2 ≤ s.scanner.switchRun →
        exec (.scanSample keys on) s = .next (State.finish { s with
          scanner := { counted with
            lockout := s.scanner.lockout && decide (∃ i : Fin 12, s.scanner.down[i] = true), switchOn := on, switchRun := 0 },
          events := s.events.place (.wpChanged on) }))) ∧
      (∀ samples : List (Fin 4 × Sample), (Instr.channelSample samples).wellFormed = true →
        (s.tamper.sampling = false → exec (.channelSample samples) s = .next s.finish) ∧
        (s.tamper.sampling = true → ∃ x m : State, exec (.channelSample samples) s = .next x ∧ m.leads x ∧
          m = samples.foldl (fun t p => t.sampleChannel p.1 p.2) s ∧
          ∀ (c : Fin 4) (v : Sample), (c, v) ∈ samples →
            let p := s.channelPolicy c
            let k := s.channel c
            let inRange := p.low ≤ v.toNat ∧ v.toNat ≤ p.high
            let within : Channel := { k with last := v, inRun := min 3 (k.inRun + 1), outRun := 0 }
            let beyond : Channel := { k with last := v, outRun := min 3 (k.outRun + 1), inRun := 0 }
            (p.enabled = false → m.channel c = k) ∧
              (p.enabled = true → inRange → (k.level = .inRange ∨ k.inRun < 2 → m.channel c = within) ∧
                (k.level = .outOfRange → 2 ≤ k.inRun →
                  m.channel c = { within with level := .inRange, alarm := decide (c = 3) && k.alarm })) ∧
              (p.enabled = true → ¬ inRange → (k.level = .outOfRange ∨ k.outRun < 2 → m.channel c = beyond) ∧
                (k.level = .inRange → 2 ≤ k.outRun →
                  m.channel c = { beyond with level := .outOfRange, alarm := true })))) ∧
      (s.tamper.sampling = true → ∀ (c : Fin 4) (v : Sample), (s.channelPolicy c).enabled = true →
        ((s.channelPolicy c).inRange v = false → (s.channel c).level = .inRange → 2 ≤ (s.channel c).outRun →
          (∀ a : Fin 3, c = a.castSucc → exec (.alarmRaise a v) s = .next (s.sampleChannel c v).finish) ∧
            (c = 3 → exec (.enclosureTrip v) s = .next (s.sampleChannel c v).finish)) ∧
          ((s.channelPolicy c).inRange v = true → (s.channel c).level = .outOfRange → 2 ≤ (s.channel c).inRun →
            (∀ a : Fin 3, c = a.castSucc → exec (.alarmClear a v) s = .next (s.sampleChannel c v).finish) ∧
              (c = 3 → exec (.enclosureLevelIn v) s = .next (s.sampleChannel c v))))

/-- The third out-of-range sample of channel 0, 1 or 2 raises its alarm with TAMPER_ALARM and the third in-range one clears
it with TAMPER_CLEAR; VBUS_LOW disables the entry; TEMPERATURE closes every OPEN unit, each with UNIT_LOCKED and its cause; and
the enclosure channel's return to IN changes its level alone. A trip closes every OPEN unit, with UNIT_LOCKED and ENCLOSURE, and
the session, sets the latch, requests its record, places TAMPER_ALARM, and under ZEROIZE requests the erase, which claims the
units, or leaves it owed during start-up (R141, R142, R182 to R187, R189). That TAMPER_ALARM stands before what an alarm of
channel 0, 1 or 2 brings about is the model's order (notes/assumptions/16.md). -/
def Obligations.AlarmsAct : Prop :=
  ∀ (s : State) (v : Sample), s.power.vbus = true → s.tamper.sampling = true →
    (∀ c : Fin 3, let ch : Fin 4 := c.castSucc
      (s.channelPolicy ch).enabled = true →
      ((s.channel ch).level = .inRange → (s.channelPolicy ch).inRange v = false →
        ∃ x m : State, exec (.alarmRaise c v) s = .next x ∧ m.leads x ∧
          m.channel ch = { s.channel ch with last := v, outRun := 3, inRun := 0, level := .outOfRange, alarm := true } ∧
          (∀ d, d ≠ ch → m.channel d = s.channel d) ∧
          (c ≠ 2 → m.entry.state = .disabled ∧ m.units = s.units ∧ m.store = s.store ∧
            (s.entry.state ≠ .enrollFirst → s.entry.state ≠ .enrollConfirm →
              m.events = s.events.place (.tamperAlarm ch v)) ∧
            ∀ g, s.entry.state = .enrollFirst ∨ s.entry.state = .enrollConfirm → s.entry.target = some g →
              s.entry.commitPending = false →
              m.events = (s.events.place (.tamperAlarm ch v)).place (.enrollFailed g.slot .alarm)) ∧
          (c = 2 → s.unitsFit → (∀ u, x.unitState u ≠ .opened) ∧ m.entry = s.entry ∧ m.control.openOrder = [] ∧
            (∀ u, s.unitState u = .opened → s.closes m u) ∧
            m.events = s.eventsAfterCloses .temperature (List.finRange 8) (s.events.place (.tamperAlarm 2 v)))) ∧
      ((s.channel ch).level = .outOfRange → (s.channel ch).alarm = true → (s.channelPolicy ch).inRange v = true →
        ∃ x m : State, exec (.alarmClear c v) s = .next x ∧ m.leads x ∧
          m.channel ch = { s.channel ch with last := v, outRun := 0, inRun := 3, level := .inRange, alarm := false } ∧
          (∀ d, d ≠ ch → m.channel d = s.channel d) ∧ m.units = s.units ∧ m.store = s.store ∧
          (s.events.place (.tamperClear ch .inRange)).entries <+: m.events.entries ∧
          (s.entry.state ≠ .collecting ∧ s.entry.state ≠ .enrollFirst ∧ s.entry.state ≠ .enrollConfirm →
            m.events = s.events.place (.tamperClear ch .inRange)) ∧
          (c = 2 → m.entry = s.entry) ∧
          (c ≠ 2 → s.entry.state = .disabled →
            m.entry.state = if m.entryDisabled then .disabled else s.entryAfterDisabled))) ∧
      ((s.channelPolicy 3).enabled = true →
        ((s.channel 3).level = .outOfRange → (s.channelPolicy 3).inRange v = true →
          exec (.enclosureLevelIn v) s = .next { s with tamper := { s.tamper with
            channels := s.tamper.channels.set 3
              { s.channel 3 with last := v, outRun := 0, inRun := 3, level := .inRange } } }) ∧
        ((s.channel 3).level = .inRange → (s.channelPolicy 3).inRange v = false → s.unitsFit →
          ∃ x m : State, exec (.enclosureTrip v) s = .next x ∧ m.leads x ∧
            (∀ u, x.unitState u ≠ .opened) ∧ x.control.session = false ∧
            m.channel 3 = { s.channel 3 with last := v, outRun := 3, inRun := 0, level := .outOfRange, alarm := true } ∧
            (∀ d, d ≠ 3 → m.channel d = s.channel d) ∧ m.store.image.latch.latched = true ∧
            (m.store.pendingSet.any fun w => decide (w.content = .latch m.store.image.latch)) = true ∧
            (let closed := s.eventsAfterCloses .enclosure (List.finRange 8) s.events
              let abandoned (g : EnrollTarget) := s.control.session = true ∧ s.entry.target = some g ∧
                g.sessionBound = true ∧ s.entry.commitPending = false
              ((∀ g, ¬ abandoned g) → (closed.place (.tamperAlarm 3 v)).entries <+: m.events.entries) ∧
              ∀ g, abandoned g →
                ((closed.place (.enrollFailed g.slot .session)).place (.tamperAlarm 3 v)).entries <+: m.events.entries) ∧
            (s.store.image.policy.action = .lockOnly →
              m.tamper.zeroizeOwed = s.tamper.zeroizeOwed ∧ m.store.image.latch = ⟨true, s.tamper.zeroizeOwed⟩ ∧
              m.erase.internal = s.erase.internal ∧ ∀ u, s.unitState u = .opened → s.closes m u) ∧
            (s.store.image.policy.action = .zeroize → m.tamper.zeroizeOwed = m.store.image.latch.zeroizeOwed ∧
              (s.power.startUp = .step2 ∨ s.power.startUp = .step4Reruns →
                m.tamper.zeroizeOwed = true ∧ m.erase.internal = s.erase.internal ∧
                ∀ u, s.unitState u = .opened → s.closes m u) ∧
              (s.power.startUp ≠ .step2 → s.power.startUp ≠ .step4Reruns →
                (∃ u, s.isSecure u = true) → s.erase.internal = none →
                m.tamper.zeroizeOwed = true ∧ (∃ i, m.erase.internal = some i ∧ i.requesters = [.zeroize] ∧
                  i.targets.map Target.unit = s.secureUnits) ∧
                ((∀ u, s.heldUnit = some u → s.unitState u ≠ .opened) → ∀ u, s.unitState u = .opened →
                  (m.unitState u = .closing ∧ (m.unitRun u).claimPending = true ∧
                    m.cipher.slots[u] = { s.cipher.slots[u] with state := .draining }) ∨
                  (m.unitState u = .erasing ∧ m.cipher.slots[u] = ⟨.empty, none⟩))))))

/-! ## Erase Engine -/

/-- A descriptor that starts is checked in the order of R165, and halts with the outcome of the first check that fails,
touching no unit but the kept one; one that passes enters CLAIMING from its first phase (R164 to R166). At the drained signal
it enters MARKING, at the marker's write WORKING (R167); its segments are counted, go on to the next phase, and end it
GOOD, or halt it with MEDIA_ERROR or VERIFY_MISMATCH; and a stop request halts it at each of these boundaries, KEY_REPLACE
excepted (R169 to R172). The progress delay's expiry reports the count (R173). In step 4 the lowest marked unit is rerun from
its beginning to the clearing of its marker, with the fallback for what cannot complete, and then the owed enclosure erase is
requested (R178, R179, R189). That the STALE halt at an empty position names no unit is the model's reading
(notes/assumptions/14.md), and that the rerun of an unusable unit ends OUT_OF_RANGE its choice (notes/assumptions/31.md). -/
def Obligations.EraseEngineEvents : Prop :=
  ∀ s : State, s.power.vbus = true →
    (s.startDue = true →
      let halts (o : Outcome) (list : Vector (Option Descriptor) 32) : State := State.finish { s with
        erase := { s.erase with
          list := list, state := .halted, stage := .none, kept := none, segment := .none, progress := 0 },
        events := s.events.place
          (.eraseHalted (s.currentDescriptor.map Descriptor.unit) (some s.erase.current) o s.erase.progress) }
      (s.currentDescriptor = none → s.erase.kept = none →
        exec .descriptorStart s = .next (halts .stale s.erase.list)) ∧
      (∀ k o, s.erase.kept = some k → s.unitState k = .erasing → s.startCheck = some o →
        ∃ x m : State, exec .descriptorStart s = .next x ∧ m.leads x ∧ m.erase.state = .halted ∧
          m.erase.kept = none ∧ m.unitState k = .locked ∧ m.marker k = none) ∧
      ∀ d, s.currentDescriptor = some d →
        (d.done = true → s.erase.kept = none → exec .descriptorStart s = .next (halts .stale s.erase.list)) ∧
        (∀ o, d.done = false → s.erase.kept = none →
          (s.unitDef d.unit = none ∧ o = .noUnit) ∨
            (∃ r, s.unitDef d.unit = some r ∧
              let bad := (d.work.method = .keyReplace ∧ (r.kind = .clear ∨ d.work.range ≠ none)) ∨
                (d.work.method ≠ .keyReplace ∧ d.work.range = none)
              (bad ∧ o = .invalidMethod) ∨
                (¬ bad ∧ ∃ g, d.work.range = some g ∧
                  ((g.count = 0 ∧ o = .zeroLength) ∨
                    (g.count ≠ 0 ∧ (r.length < g.start + g.count ∨ (s.unitRun d.unit).unusable = true) ∧
                      o = .outOfRange)))) →
          exec .descriptorStart s = .next (halts o
            (s.erase.list.set s.erase.current (some { d with done := true, outcome := some o })))) ∧
        (∀ r, d.done = false → s.unitDef d.unit = some r →
          (d.work.method = .keyReplace ∧ r.kind = .secure ∧ d.work.range = none) ∨
            (d.work.method ≠ .keyReplace ∧ (s.unitRun d.unit).unusable = false ∧
              ∃ g, d.work.range = some g ∧ g.count ≠ 0 ∧ g.start + g.count ≤ r.length) →
          ∃ x m : State, exec .descriptorStart s = .next x ∧ m.leads x ∧ m.erase.state = .running ∧
            m.currentDescriptor = some { d with
              phase := if d.work.method = .keyReplace then none else some (.pass 1), sectorsDone := 0 } ∧
            m.store.array = s.store.array ∧
            (m.erase.stage = .claiming ∨ (m.erase.stage = .marking ∧ m.marker d.unit = some d.work)) ∧
            (s.unitState d.unit = .opened ∨ s.unitState d.unit = .closing ∨ m.unitState d.unit = .erasing))) ∧
      (s.erase.delayTimer.isSome = true → exec .progressDelayExpiry s = .next { s with
        erase := { s.erase with progress := 0, delayTimer := none },
        events := s.events.place (.eraseProgress s.erase.progress) }) ∧
      (∀ (u : UnitNo) (w : EraseWork), s.power.startUp = .step4Reruns → s.erase.rerun = none →
        s.unitState u = .erasing → s.marker u = some w → (∀ v, v < u → s.unitState v ≠ .erasing ∨ s.marker v = none) →
        let rerun (st : RerunStage) : EraseEngine := { s.erase with
          state := .running, workAge := s.clock,
          rerun := some { unit := u, work := w, phase := .pass 1, sectorsDone := 0, stage := st } }
        (w.method = .keyReplace → exec .eraseResume s = .next (State.finish { s with
          clock := s.clock + 1, erase := rerun .replacing,
          cipher := { s.cipher with requests := s.cipher.requests ++ [⟨u, .internal⟩] } })) ∧
        (w.method ≠ .keyReplace → (s.unitRun u).unusable = false → exec .eraseResume s = .next (State.finish { s with
          clock := s.clock + 1, erase := { rerun .working with segment := .presented } })) ∧
        (w.method ≠ .keyReplace → (s.unitRun u).unusable = true → s.isSecure u = true →
          exec .eraseResume s = .next (State.finish { s with
            clock := s.clock + 1, erase := rerun .replacing,
            cipher := { s.cipher with requests := s.cipher.requests ++ [⟨u, .internal⟩] },
            events := s.events.place (.eraseHalted (some u) none .outOfRange 0) })) ∧
        (∀ d, w.method ≠ .keyReplace → (s.unitRun u).unusable = true → s.unitDef u = some d → d.kind = .clear →
          exec .eraseResume s = .next (State.finish { s with
            clock := s.clock + 1, erase := rerun .clearing,
            store := { s.store with
              image := { s.store.image with units := s.store.image.units.set u (some { d with marker := none }) },
              pendingSet := joinPending s.store.pendingSet ⟨.unit u (some { d with marker := none }), [.rerunClear u]⟩ },
            events := s.events.place (.eraseHalted (some u) none .outOfRange 0) }))) ∧
      (∀ (u : UnitNo) (r : UnitDef), s.unitDef u = some r → s.inFlight u = 0 →
        (∀ e ∈ s.queue, e.head.unit.toNat = u.val → e.op.usesMedia = true → e.state = .ending) →
        s.unitState u = .erasing ∨ (s.unitState u = .closing ∧ (s.unitRun u).claimPending = true) →
        let drained : State := if s.unitState u = .erasing then s else { s with
          units := s.units.set u
            { s.unitRun u with state := .erasing, mode := none, opener := none, claimPending := false },
          cipher := { s.cipher with slots := s.cipher.slots.set u ⟨.empty, none⟩ } }
        let marked (w : EraseWork) (who : Waiter) : Store := { s.store with
          image := { s.store.image with units := s.store.image.units.set u (some { r with marker := some w }) },
          pendingSet := joinPending s.store.pendingSet ⟨.unit u (some { r with marker := some w }), [who]⟩ }
        (∀ d, s.erase.stage = .claiming → s.currentDescriptor = some d → d.unit = u →
          (s.erase.stop = .none ∨ d.work.method = .keyReplace → exec (.drained u) s = .next (State.finish { drained with
            erase := { s.erase with stage := .marking }, store := marked d.work .descriptorMarker })) ∧
          (∀ o, s.erase.stop.outcome = some o → d.work.method ≠ .keyReplace →
            ∃ x m : State, exec (.drained u) s = .next x ∧ m.leads x ∧ drained.haltsWith m d o)) ∧
        ∀ (i : InternalErase) (before after : List Target), s.erase.internal = some i →
          i.targets = before ++ ⟨u, .claiming⟩ :: after → ⟨u, .claiming⟩ ∉ before → s.claimedUnit ≠ some u →
          s.erase.kept ≠ some u → exec (.drained u) s = .next (State.finish { drained with
            erase := { s.erase with internal := some { i with targets := before ++ ⟨u, .marking⟩ :: after } },
            store := marked { method := .keyReplace, range := none, passes := [], verify := false }
              (.internalMarker u) })) ∧
      (∀ (a : RecordContent) (d : Descriptor), s.store.running = some ⟨a, [.descriptorMarker]⟩ →
        s.erase.stage = .marking → s.currentDescriptor = some d →
        let working : State := { s with
          store := { s.store with array := s.store.array.write a, running := none }, clock := s.clock + 1,
          erase := { s.erase with stage := .working, workAge := s.clock } }
        (d.work.method = .keyReplace → exec .writeCompletion s = .next (State.finish { working with
          cipher := { s.cipher with requests := s.cipher.requests ++ [⟨d.unit, .descriptor⟩] } })) ∧
        (d.work.method ≠ .keyReplace →
          (s.erase.stop = .none → exec .writeCompletion s =
            .next (State.finish { working with erase := { working.erase with segment := .presented } })) ∧
          ∀ o, s.erase.stop.outcome = some o →
            ∃ x m : State, exec .writeCompletion s = .next x ∧ m.leads x ∧ s.haltsWith m d o)) ∧
      (∀ (n : Fin 4) (k : MediaSlot) (reply : PackageReply) (w : EraseWork) (p : ErasePhase) (done : Nat) (g : EraseRange),
        s.slots[n] = some k → k.origin = .erase → k.stage = .outstanding → w.range = some g → w.method ≠ .keyReplace →
        let freed : State := { s with slots := s.slots.set n none }
        let covered := done + k.sectors
        let differs (data : List Sector) : Prop :=
          p = .verify ∧ ∃ b, w.passes.getLast? = some b ∧ ∃ x ∈ data, x ≠ patternSector b
        let good : Prop := ∃ data, reply = .ok data ∧ (k.op = .read → data.length = k.sectors) ∧ ¬ differs data
        let mismatch : Prop := ∃ data, reply = .ok data ∧ (k.op = .read → data.length = k.sectors) ∧ differs data
        let follows (q : ErasePhase) : Prop := w.method = .overwrite ∧ ∃ j, p = .pass j ∧
          ((j < w.passes.length ∧ q = .pass (j + 1)) ∨ (w.passes.length ≤ j ∧ w.verify = true ∧ q = .verify))
        (∀ c : Descriptor, s.erase.rerun = none → s.erase.stage = .working → s.currentDescriptor = some c →
          c.work = w → c.phase = some p → c.sectorsDone = done →
          let counted : Descriptor := { c with sectorsDone := covered }
          let goes (c : Descriptor) : State := { freed with
            erase := { s.erase with list := s.erase.list.set s.erase.current (some c), segment := .presented } }
          (∀ o d, (reply = .failed ∧ o = .mediaError ∧ d = c) ∨ (mismatch ∧ o = .verifyMismatch ∧ d = c) ∨
              (good ∧ s.erase.stop.outcome = some o ∧ d = counted) →
            ∃ x m : State, exec (.mediaCompletion n reply) s = .next x ∧ m.leads x ∧ m.slots = freed.slots ∧
              s.haltsWith m d o) ∧
          (good → s.erase.stop = .none →
            (covered < g.count → exec (.mediaCompletion n reply) s = .next (goes counted).finish) ∧
            (g.count ≤ covered → (∀ q, follows q → exec (.mediaCompletion n reply) s =
                .next (goes { c with phase := some q, sectorsDone := 0 }).finish) ∧
              ((∀ q, ¬ follows q) → ∃ x m : State, exec (.mediaCompletion n reply) s = .next x ∧ m.leads x ∧
                m.slots = freed.slots ∧ s.endsGood m counted)))) ∧
        ∀ (r : Rerun) (d : UnitDef), s.erase.rerun = some r → r.stage = .working → r.work = w → r.phase = p →
          r.sectorsDone = done → s.unitDef r.unit = some d →
          let goes (r : Rerun) : State := { freed with
            erase := { s.erase with rerun := some r, segment := .presented } }
          let clears : State := { freed with
            erase := { s.erase with rerun := some { r with stage := .clearing }, segment := .none },
            store := { s.store with
              image := { s.store.image with units := s.store.image.units.set r.unit (some { d with marker := none }) },
              pendingSet := joinPending s.store.pendingSet
                ⟨.unit r.unit (some { d with marker := none }), [.rerunClear r.unit]⟩ } }
          (∀ o, (reply = .failed ∧ o = .mediaError) ∨ (mismatch ∧ o = .verifyMismatch) →
            let events := s.events.place (.eraseHalted (some r.unit) none o 0)
            (d.kind = .secure → exec (.mediaCompletion n reply) s = .next (State.finish { freed with
              erase := { s.erase with rerun := some { r with stage := .replacing }, segment := .none },
              cipher := { s.cipher with requests := s.cipher.requests ++ [⟨r.unit, .internal⟩] }, events := events })) ∧
            (d.kind = .clear →
              exec (.mediaCompletion n reply) s = .next (State.finish { clears with events := events }))) ∧
          (good → (covered < g.count →
              exec (.mediaCompletion n reply) s = .next (goes { r with sectorsDone := covered }).finish) ∧
            (g.count ≤ covered → (∀ q, follows q → exec (.mediaCompletion n reply) s =
                .next (goes { r with phase := q, sectorsDone := 0 }).finish) ∧
              ((∀ q, ¬ follows q) → exec (.mediaCompletion n reply) s = .next clears.finish)))) ∧
      (∀ (a : RecordContent) (u : UnitNo) (r : Rerun), s.erase.rerun = some r → r.unit = u →
        let written : Store := { s.store with array := s.store.array.write a, running := none }
        (∀ d, s.store.running = some ⟨a, [.replacement u .internal]⟩ → r.stage = .replacing → s.unitDef u = some d →
          (∀ q ∈ s.cipher.requests, q.unit ≠ u) → exec .writeCompletion s = .next (State.finish { s with
            cipher := { s.cipher with replacing := s.cipher.replacing.filter (· ≠ u) },
            erase := { s.erase with rerun := some { r with stage := .clearing } },
            store := { written with
              image := { s.store.image with units := s.store.image.units.set u (some { d with marker := none }) },
              pendingSet := joinPending s.store.pendingSet ⟨.unit u (some { d with marker := none }), [.rerunClear u]⟩ } })) ∧
        (s.store.running = some ⟨a, [.rerunClear u]⟩ → s.unitState u = .erasing →
          exec .writeCompletion s = .next (State.finish (State.refreshLeds { s with
            store := written, erase := { s.erase with rerun := none },
            units := s.units.set u
              { s.unitRun u with state := .locked, mode := none, opener := none, claimPending := false } })))) ∧
      (s.power.startUp = .step4Reruns → s.erase.rerun = none →
        (∀ u, s.unitState u ≠ .erasing ∨ s.marker u = none) → s.tamper.zeroizeOwed = true → s.erase.internal = none →
        (∃ u, s.isSecure u = true) →
        ∃ x m : State, exec .owedEnclosureErase s = .next x ∧ m.leads x ∧ m.power.startUp = .step4Owed ∧
          m.tamper.zeroizeOwed = true ∧ ∃ i, m.erase.internal = some i ∧ i.requesters = [.zeroize] ∧
            i.targets.map Target.unit = s.secureUnits)

/-! ## Power and the bus -/

/-- Power-on loads the array into the image, with every block at its power-on state, field by field, and the capacity read
under way; a loss
of power leaves the array; a bus reset clears the command path and the Event Queue, with their buffers and a transfer of the
host in progress, and leaves link, rail, power and every other block; standby entry closes the OPEN units with lock on suspend
alone; and the bus's resume ends standby (R8, R45 to R47, R53, R57, R76, R128, R134, R149, R196, R222). The model's own choices
in this: POWER_ON on a part that has VBUS acts as a loss and a fresh application (notes/assumptions/8.md); F reads 0 and the
phase IDLE until step 3, and no unit is unusable before its capacity check (notes/assumptions/9.md, notes/assumptions/25.md); and what
a reset of the bus does to the pipes (notes/assumptions/19.md). -/
def Obligations.PowerAndBusAct : Prop :=
  ∀ s : State,
    (∃ t, exec .powerOn s = .next t ∧ t.power = { vbus := true, startUp := .step2 } ∧
      t.store.array = s.store.array ∧ t.store.pendingSet = [] ∧ t.store.running = none ∧
      t.store.image.creds = s.store.array.creds ∧ t.store.image.units = s.store.array.units ∧
      t.store.image.policy = s.store.array.policy ∧ t.store.image.attempt = s.store.array.attempt ∧
      t.store.image.latch = s.store.array.latch ∧
      (∀ u, t.store.image.keys[u] = if t.isSecure u then s.store.array.keys[u] else none) ∧
      (∀ u, t.unitRun u = {
        state := if (t.marker u).isSome then .erasing else .locked, mode := none, opener := none, unusable := false,
        claimPending := false, idleTimer := none }) ∧
      t.cipher = { slots := Vector.replicate 8 ⟨.empty, none⟩, requests := [], replacing := [] } ∧
      t.slots = Vector.replicate 4 none ∧
      t.port = {
        standby := false, remoteWake := false, pressSeen := false, resumeSignalled := false, attentionReport := none,
        bulkIn := none, bulkOut := .free, refused := none, waiting := [], readBuffers := Vector.replicate 4 none } ∧
      t.scanner = {
        down := Vector.replicate 12 false, run := Vector.replicate 12 0, held := none, lockout := false, holdTimer := none,
        switchOn := false, switchSampled := false, switchRun := 0 } ∧
      t.entry = {
        state := .disabled, buffer := [], first := none, target := none, commitPending := false, commitRemoved := false,
        interKeyTimer := none, window := none } ∧
      t.leds = {
        fail := false, green := none, restTimer := some 30, greenDisplay := ⟨none, 0⟩,
        redDisplay := ⟨if ∃ u, (t.marker u).isSome then none else some .rest, 0⟩,
        blueDisplay := ⟨if ∃ u, (t.marker u).isSome then some .erasure else none, 0⟩ } ∧
      t.erase = {
        list := Vector.replicate 32 none, state := .idle, current := 0, tail := 0, stage := .none, stop := .none,
        kept := none, internal := none, progress := 0, delayTimer := none, segment := .none, workAge := 0, rerun := none } ∧
      t.tamper = {
        channels := Vector.replicate 4 { last := 0, outRun := 0, inRun := 0, level := .inRange, alarm := false },
        zeroizeOwed := false, sampling := false } ∧
      t.handler = none ∧ t.enrolling = none ∧
      t.rail = { state := .ramping, retryCount := 0, rampTimer := some 5, retryTimer := none, switchOffTimer := none } ∧
      t.link = { state := .sizing, capacity := none, capacityRead := .awaitingRail, resetTimer := none } ∧
      t.queue = [] ∧ t.events = ⟨[], false, false⟩ ∧ t.control = ⟨[], false, none⟩ ∧
      t.attempt = ⟨0, .idle, none, false, false, .none⟩ ∧ t.pending = s.pending) ∧
      (s.power.vbus = true → exec .powerLoss s =
        .next { State.unpowered s.store.array with pending := s.pending, draws := s.draws }) ∧
      (s.power.vbus = true → ∃ x m : State, exec .busReset s = .next x ∧ m.leads x ∧
        m.events = ⟨[], false, false⟩ ∧
        m.port = { s.port with
          bulkOut := .free, refused := none, remoteWake := false, readBuffers := Vector.replicate 4 none } ∧
        (∀ e, e ∈ m.queue ↔ ∃ y ∈ s.queue, y.state = .active ∧
          ((∃ (n : Fin 4) (k : MediaSlot), s.slots[n] = some k ∧ k.origin = .host y.tag ∧ k.stage = .outstanding) ∨
            s.handler = some y.tag) ∧ e = { y with orphan := true, returned := none }) ∧
        (∀ (n : Fin 4) (k : MediaSlot), s.slots[n] = some k → k.origin = .erase → m.slots[n] = some k) ∧
        (∀ (n : Fin 4) (k : MediaSlot) (t : Tag), s.slots[n] = some k → k.origin = .host t →
          m.slots[n] = if k.stage = .outstanding then some { k with buffer := none } else none) ∧
        m.units = s.units ∧ m.control = s.control ∧ m.store = s.store ∧ m.erase = s.erase ∧ m.cipher = s.cipher ∧
        m.scanner = s.scanner ∧ m.entry = s.entry ∧ m.attempt = s.attempt ∧ m.tamper = s.tamper ∧
        m.handler = s.handler ∧ m.enrolling = s.enrolling ∧ m.leds = s.leds ∧ m.link = s.link ∧ m.rail = s.rail ∧
        m.power = s.power ∧ m.pending = s.pending ∧ m.draws = s.draws ∧ m.clock = s.clock) ∧
      (s.power.vbus = true → s.port.standby = false → s.unitsFit →
        ∃ x m : State, exec .standbyEntry s = .next x ∧ m.leads x ∧ m.port.standby = true ∧
          m.port.pressSeen = false ∧ m.port.resumeSignalled = false ∧ m.control.session = s.control.session ∧
          m.entry = s.entry ∧ m.attempt = s.attempt ∧
          m.events = s.eventsAfterCloses .suspend
            ((List.finRange 8).filter fun u => (s.unitDef u).any fun d => d.lockOnSuspend) s.events ∧
          ∀ u, (s.unitState u = .opened ∧ (∃ d, s.unitDef u = some d ∧ d.lockOnSuspend = true) →
              x.unitState u ≠ .opened ∧ s.closes m u) ∧
            (s.unitState u ≠ .opened ∨ (∀ d, s.unitDef u = some d → d.lockOnSuspend = false) →
              m.unitRun u = s.unitRun u)) ∧
      (s.power.vbus = true → s.port.standby = true →
        ∃ x m : State, exec .standbyExit s = .next x ∧ m.leads x ∧ m.port = { s.port with standby := false } ∧
          m.queue = s.queue ∧ m.units = s.units ∧ m.control = s.control ∧ m.events = s.events ∧ m.leds.fail = s.leds.fail)
end

