-- ==== Sys2Proof/Laws/State.lean ====
section
/-! SUPPORT. What each named update of State leaves in each field: one lemma per field per update. -/

namespace Sys2Proof.Machine

@[simp] theorem State.withPending_pending (s : State) (x : List Instr) : (s.withPending x).pending = x := rfl
@[simp] theorem State.withPending_power (s : State) (x : List Instr) : (s.withPending x).power = s.power := rfl
@[simp] theorem State.withPending_port (s : State) (x : List Instr) : (s.withPending x).port = s.port := rfl
@[simp] theorem State.withPending_queue (s : State) (x : List Instr) : (s.withPending x).queue = s.queue := rfl
@[simp] theorem State.withPending_slots (s : State) (x : List Instr) : (s.withPending x).slots = s.slots := rfl
@[simp] theorem State.withPending_link (s : State) (x : List Instr) : (s.withPending x).link = s.link := rfl
@[simp] theorem State.withPending_rail (s : State) (x : List Instr) : (s.withPending x).rail = s.rail := rfl
@[simp] theorem State.withPending_units (s : State) (x : List Instr) : (s.withPending x).units = s.units := rfl
@[simp] theorem State.withPending_control (s : State) (x : List Instr) : (s.withPending x).control = s.control := rfl
@[simp] theorem State.withPending_cipher (s : State) (x : List Instr) : (s.withPending x).cipher = s.cipher := rfl
@[simp] theorem State.withPending_enrolling (s : State) (x : List Instr) : (s.withPending x).enrolling = s.enrolling := rfl
@[simp] theorem State.withPending_attempt (s : State) (x : List Instr) : (s.withPending x).attempt = s.attempt := rfl
@[simp] theorem State.withPending_scanner (s : State) (x : List Instr) : (s.withPending x).scanner = s.scanner := rfl
@[simp] theorem State.withPending_entry (s : State) (x : List Instr) : (s.withPending x).entry = s.entry := rfl
@[simp] theorem State.withPending_leds (s : State) (x : List Instr) : (s.withPending x).leds = s.leds := rfl
@[simp] theorem State.withPending_erase (s : State) (x : List Instr) : (s.withPending x).erase = s.erase := rfl
@[simp] theorem State.withPending_tamper (s : State) (x : List Instr) : (s.withPending x).tamper = s.tamper := rfl
@[simp] theorem State.withPending_store (s : State) (x : List Instr) : (s.withPending x).store = s.store := rfl
@[simp] theorem State.withPending_handler (s : State) (x : List Instr) : (s.withPending x).handler = s.handler := rfl
@[simp] theorem State.withPending_events (s : State) (x : List Instr) : (s.withPending x).events = s.events := rfl
@[simp] theorem State.withPending_draws (s : State) (x : List Instr) : (s.withPending x).draws = s.draws := rfl
@[simp] theorem State.withPending_clock (s : State) (x : List Instr) : (s.withPending x).clock = s.clock := rfl

@[simp] theorem State.withPower_pending (s : State) (x : Power) : (s.withPower x).pending = s.pending := rfl
@[simp] theorem State.withPower_power (s : State) (x : Power) : (s.withPower x).power = x := rfl
@[simp] theorem State.withPower_port (s : State) (x : Power) : (s.withPower x).port = s.port := rfl
@[simp] theorem State.withPower_queue (s : State) (x : Power) : (s.withPower x).queue = s.queue := rfl
@[simp] theorem State.withPower_slots (s : State) (x : Power) : (s.withPower x).slots = s.slots := rfl
@[simp] theorem State.withPower_link (s : State) (x : Power) : (s.withPower x).link = s.link := rfl
@[simp] theorem State.withPower_rail (s : State) (x : Power) : (s.withPower x).rail = s.rail := rfl
@[simp] theorem State.withPower_units (s : State) (x : Power) : (s.withPower x).units = s.units := rfl
@[simp] theorem State.withPower_control (s : State) (x : Power) : (s.withPower x).control = s.control := rfl
@[simp] theorem State.withPower_cipher (s : State) (x : Power) : (s.withPower x).cipher = s.cipher := rfl
@[simp] theorem State.withPower_enrolling (s : State) (x : Power) : (s.withPower x).enrolling = s.enrolling := rfl
@[simp] theorem State.withPower_attempt (s : State) (x : Power) : (s.withPower x).attempt = s.attempt := rfl
@[simp] theorem State.withPower_scanner (s : State) (x : Power) : (s.withPower x).scanner = s.scanner := rfl
@[simp] theorem State.withPower_entry (s : State) (x : Power) : (s.withPower x).entry = s.entry := rfl
@[simp] theorem State.withPower_leds (s : State) (x : Power) : (s.withPower x).leds = s.leds := rfl
@[simp] theorem State.withPower_erase (s : State) (x : Power) : (s.withPower x).erase = s.erase := rfl
@[simp] theorem State.withPower_tamper (s : State) (x : Power) : (s.withPower x).tamper = s.tamper := rfl
@[simp] theorem State.withPower_store (s : State) (x : Power) : (s.withPower x).store = s.store := rfl
@[simp] theorem State.withPower_handler (s : State) (x : Power) : (s.withPower x).handler = s.handler := rfl
@[simp] theorem State.withPower_events (s : State) (x : Power) : (s.withPower x).events = s.events := rfl
@[simp] theorem State.withPower_draws (s : State) (x : Power) : (s.withPower x).draws = s.draws := rfl
@[simp] theorem State.withPower_clock (s : State) (x : Power) : (s.withPower x).clock = s.clock := rfl

@[simp] theorem State.withPort_pending (s : State) (x : Port) : (s.withPort x).pending = s.pending := rfl
@[simp] theorem State.withPort_power (s : State) (x : Port) : (s.withPort x).power = s.power := rfl
@[simp] theorem State.withPort_port (s : State) (x : Port) : (s.withPort x).port = x := rfl
@[simp] theorem State.withPort_queue (s : State) (x : Port) : (s.withPort x).queue = s.queue := rfl
@[simp] theorem State.withPort_slots (s : State) (x : Port) : (s.withPort x).slots = s.slots := rfl
@[simp] theorem State.withPort_link (s : State) (x : Port) : (s.withPort x).link = s.link := rfl
@[simp] theorem State.withPort_rail (s : State) (x : Port) : (s.withPort x).rail = s.rail := rfl
@[simp] theorem State.withPort_units (s : State) (x : Port) : (s.withPort x).units = s.units := rfl
@[simp] theorem State.withPort_control (s : State) (x : Port) : (s.withPort x).control = s.control := rfl
@[simp] theorem State.withPort_cipher (s : State) (x : Port) : (s.withPort x).cipher = s.cipher := rfl
@[simp] theorem State.withPort_enrolling (s : State) (x : Port) : (s.withPort x).enrolling = s.enrolling := rfl
@[simp] theorem State.withPort_attempt (s : State) (x : Port) : (s.withPort x).attempt = s.attempt := rfl
@[simp] theorem State.withPort_scanner (s : State) (x : Port) : (s.withPort x).scanner = s.scanner := rfl
@[simp] theorem State.withPort_entry (s : State) (x : Port) : (s.withPort x).entry = s.entry := rfl
@[simp] theorem State.withPort_leds (s : State) (x : Port) : (s.withPort x).leds = s.leds := rfl
@[simp] theorem State.withPort_erase (s : State) (x : Port) : (s.withPort x).erase = s.erase := rfl
@[simp] theorem State.withPort_tamper (s : State) (x : Port) : (s.withPort x).tamper = s.tamper := rfl
@[simp] theorem State.withPort_store (s : State) (x : Port) : (s.withPort x).store = s.store := rfl
@[simp] theorem State.withPort_handler (s : State) (x : Port) : (s.withPort x).handler = s.handler := rfl
@[simp] theorem State.withPort_events (s : State) (x : Port) : (s.withPort x).events = s.events := rfl
@[simp] theorem State.withPort_draws (s : State) (x : Port) : (s.withPort x).draws = s.draws := rfl
@[simp] theorem State.withPort_clock (s : State) (x : Port) : (s.withPort x).clock = s.clock := rfl

@[simp] theorem State.withQueue_pending (s : State) (x : List QueueEntry) : (s.withQueue x).pending = s.pending := rfl
@[simp] theorem State.withQueue_power (s : State) (x : List QueueEntry) : (s.withQueue x).power = s.power := rfl
@[simp] theorem State.withQueue_port (s : State) (x : List QueueEntry) : (s.withQueue x).port = s.port := rfl
@[simp] theorem State.withQueue_queue (s : State) (x : List QueueEntry) : (s.withQueue x).queue = x := rfl
@[simp] theorem State.withQueue_slots (s : State) (x : List QueueEntry) : (s.withQueue x).slots = s.slots := rfl
@[simp] theorem State.withQueue_link (s : State) (x : List QueueEntry) : (s.withQueue x).link = s.link := rfl
@[simp] theorem State.withQueue_rail (s : State) (x : List QueueEntry) : (s.withQueue x).rail = s.rail := rfl
@[simp] theorem State.withQueue_units (s : State) (x : List QueueEntry) : (s.withQueue x).units = s.units := rfl
@[simp] theorem State.withQueue_control (s : State) (x : List QueueEntry) : (s.withQueue x).control = s.control := rfl
@[simp] theorem State.withQueue_cipher (s : State) (x : List QueueEntry) : (s.withQueue x).cipher = s.cipher := rfl
@[simp] theorem State.withQueue_enrolling (s : State) (x : List QueueEntry) : (s.withQueue x).enrolling = s.enrolling := rfl
@[simp] theorem State.withQueue_attempt (s : State) (x : List QueueEntry) : (s.withQueue x).attempt = s.attempt := rfl
@[simp] theorem State.withQueue_scanner (s : State) (x : List QueueEntry) : (s.withQueue x).scanner = s.scanner := rfl
@[simp] theorem State.withQueue_entry (s : State) (x : List QueueEntry) : (s.withQueue x).entry = s.entry := rfl
@[simp] theorem State.withQueue_leds (s : State) (x : List QueueEntry) : (s.withQueue x).leds = s.leds := rfl
@[simp] theorem State.withQueue_erase (s : State) (x : List QueueEntry) : (s.withQueue x).erase = s.erase := rfl
@[simp] theorem State.withQueue_tamper (s : State) (x : List QueueEntry) : (s.withQueue x).tamper = s.tamper := rfl
@[simp] theorem State.withQueue_store (s : State) (x : List QueueEntry) : (s.withQueue x).store = s.store := rfl
@[simp] theorem State.withQueue_handler (s : State) (x : List QueueEntry) : (s.withQueue x).handler = s.handler := rfl
@[simp] theorem State.withQueue_events (s : State) (x : List QueueEntry) : (s.withQueue x).events = s.events := rfl
@[simp] theorem State.withQueue_draws (s : State) (x : List QueueEntry) : (s.withQueue x).draws = s.draws := rfl
@[simp] theorem State.withQueue_clock (s : State) (x : List QueueEntry) : (s.withQueue x).clock = s.clock := rfl

@[simp] theorem State.withSlots_pending (s : State) (x : Vector (Option MediaSlot) 4) : (s.withSlots x).pending = s.pending := rfl
@[simp] theorem State.withSlots_power (s : State) (x : Vector (Option MediaSlot) 4) : (s.withSlots x).power = s.power := rfl
@[simp] theorem State.withSlots_port (s : State) (x : Vector (Option MediaSlot) 4) : (s.withSlots x).port = s.port := rfl
@[simp] theorem State.withSlots_queue (s : State) (x : Vector (Option MediaSlot) 4) : (s.withSlots x).queue = s.queue := rfl
@[simp] theorem State.withSlots_slots (s : State) (x : Vector (Option MediaSlot) 4) : (s.withSlots x).slots = x := rfl
@[simp] theorem State.withSlots_link (s : State) (x : Vector (Option MediaSlot) 4) : (s.withSlots x).link = s.link := rfl
@[simp] theorem State.withSlots_rail (s : State) (x : Vector (Option MediaSlot) 4) : (s.withSlots x).rail = s.rail := rfl
@[simp] theorem State.withSlots_units (s : State) (x : Vector (Option MediaSlot) 4) : (s.withSlots x).units = s.units := rfl
@[simp] theorem State.withSlots_control (s : State) (x : Vector (Option MediaSlot) 4) : (s.withSlots x).control = s.control := rfl
@[simp] theorem State.withSlots_cipher (s : State) (x : Vector (Option MediaSlot) 4) : (s.withSlots x).cipher = s.cipher := rfl
@[simp] theorem State.withSlots_enrolling (s : State) (x : Vector (Option MediaSlot) 4) : (s.withSlots x).enrolling = s.enrolling := rfl
@[simp] theorem State.withSlots_attempt (s : State) (x : Vector (Option MediaSlot) 4) : (s.withSlots x).attempt = s.attempt := rfl
@[simp] theorem State.withSlots_scanner (s : State) (x : Vector (Option MediaSlot) 4) : (s.withSlots x).scanner = s.scanner := rfl
@[simp] theorem State.withSlots_entry (s : State) (x : Vector (Option MediaSlot) 4) : (s.withSlots x).entry = s.entry := rfl
@[simp] theorem State.withSlots_leds (s : State) (x : Vector (Option MediaSlot) 4) : (s.withSlots x).leds = s.leds := rfl
@[simp] theorem State.withSlots_erase (s : State) (x : Vector (Option MediaSlot) 4) : (s.withSlots x).erase = s.erase := rfl
@[simp] theorem State.withSlots_tamper (s : State) (x : Vector (Option MediaSlot) 4) : (s.withSlots x).tamper = s.tamper := rfl
@[simp] theorem State.withSlots_store (s : State) (x : Vector (Option MediaSlot) 4) : (s.withSlots x).store = s.store := rfl
@[simp] theorem State.withSlots_handler (s : State) (x : Vector (Option MediaSlot) 4) : (s.withSlots x).handler = s.handler := rfl
@[simp] theorem State.withSlots_events (s : State) (x : Vector (Option MediaSlot) 4) : (s.withSlots x).events = s.events := rfl
@[simp] theorem State.withSlots_draws (s : State) (x : Vector (Option MediaSlot) 4) : (s.withSlots x).draws = s.draws := rfl
@[simp] theorem State.withSlots_clock (s : State) (x : Vector (Option MediaSlot) 4) : (s.withSlots x).clock = s.clock := rfl

@[simp] theorem State.withLink_pending (s : State) (x : Link) : (s.withLink x).pending = s.pending := rfl
@[simp] theorem State.withLink_power (s : State) (x : Link) : (s.withLink x).power = s.power := rfl
@[simp] theorem State.withLink_port (s : State) (x : Link) : (s.withLink x).port = s.port := rfl
@[simp] theorem State.withLink_queue (s : State) (x : Link) : (s.withLink x).queue = s.queue := rfl
@[simp] theorem State.withLink_slots (s : State) (x : Link) : (s.withLink x).slots = s.slots := rfl
@[simp] theorem State.withLink_link (s : State) (x : Link) : (s.withLink x).link = x := rfl
@[simp] theorem State.withLink_rail (s : State) (x : Link) : (s.withLink x).rail = s.rail := rfl
@[simp] theorem State.withLink_units (s : State) (x : Link) : (s.withLink x).units = s.units := rfl
@[simp] theorem State.withLink_control (s : State) (x : Link) : (s.withLink x).control = s.control := rfl
@[simp] theorem State.withLink_cipher (s : State) (x : Link) : (s.withLink x).cipher = s.cipher := rfl
@[simp] theorem State.withLink_enrolling (s : State) (x : Link) : (s.withLink x).enrolling = s.enrolling := rfl
@[simp] theorem State.withLink_attempt (s : State) (x : Link) : (s.withLink x).attempt = s.attempt := rfl
@[simp] theorem State.withLink_scanner (s : State) (x : Link) : (s.withLink x).scanner = s.scanner := rfl
@[simp] theorem State.withLink_entry (s : State) (x : Link) : (s.withLink x).entry = s.entry := rfl
@[simp] theorem State.withLink_leds (s : State) (x : Link) : (s.withLink x).leds = s.leds := rfl
@[simp] theorem State.withLink_erase (s : State) (x : Link) : (s.withLink x).erase = s.erase := rfl
@[simp] theorem State.withLink_tamper (s : State) (x : Link) : (s.withLink x).tamper = s.tamper := rfl
@[simp] theorem State.withLink_store (s : State) (x : Link) : (s.withLink x).store = s.store := rfl
@[simp] theorem State.withLink_handler (s : State) (x : Link) : (s.withLink x).handler = s.handler := rfl
@[simp] theorem State.withLink_events (s : State) (x : Link) : (s.withLink x).events = s.events := rfl
@[simp] theorem State.withLink_draws (s : State) (x : Link) : (s.withLink x).draws = s.draws := rfl
@[simp] theorem State.withLink_clock (s : State) (x : Link) : (s.withLink x).clock = s.clock := rfl

@[simp] theorem State.withRail_pending (s : State) (x : Rail) : (s.withRail x).pending = s.pending := rfl
@[simp] theorem State.withRail_power (s : State) (x : Rail) : (s.withRail x).power = s.power := rfl
@[simp] theorem State.withRail_port (s : State) (x : Rail) : (s.withRail x).port = s.port := rfl
@[simp] theorem State.withRail_queue (s : State) (x : Rail) : (s.withRail x).queue = s.queue := rfl
@[simp] theorem State.withRail_slots (s : State) (x : Rail) : (s.withRail x).slots = s.slots := rfl
@[simp] theorem State.withRail_link (s : State) (x : Rail) : (s.withRail x).link = s.link := rfl
@[simp] theorem State.withRail_rail (s : State) (x : Rail) : (s.withRail x).rail = x := rfl
@[simp] theorem State.withRail_units (s : State) (x : Rail) : (s.withRail x).units = s.units := rfl
@[simp] theorem State.withRail_control (s : State) (x : Rail) : (s.withRail x).control = s.control := rfl
@[simp] theorem State.withRail_cipher (s : State) (x : Rail) : (s.withRail x).cipher = s.cipher := rfl
@[simp] theorem State.withRail_enrolling (s : State) (x : Rail) : (s.withRail x).enrolling = s.enrolling := rfl
@[simp] theorem State.withRail_attempt (s : State) (x : Rail) : (s.withRail x).attempt = s.attempt := rfl
@[simp] theorem State.withRail_scanner (s : State) (x : Rail) : (s.withRail x).scanner = s.scanner := rfl
@[simp] theorem State.withRail_entry (s : State) (x : Rail) : (s.withRail x).entry = s.entry := rfl
@[simp] theorem State.withRail_leds (s : State) (x : Rail) : (s.withRail x).leds = s.leds := rfl
@[simp] theorem State.withRail_erase (s : State) (x : Rail) : (s.withRail x).erase = s.erase := rfl
@[simp] theorem State.withRail_tamper (s : State) (x : Rail) : (s.withRail x).tamper = s.tamper := rfl
@[simp] theorem State.withRail_store (s : State) (x : Rail) : (s.withRail x).store = s.store := rfl
@[simp] theorem State.withRail_handler (s : State) (x : Rail) : (s.withRail x).handler = s.handler := rfl
@[simp] theorem State.withRail_events (s : State) (x : Rail) : (s.withRail x).events = s.events := rfl
@[simp] theorem State.withRail_draws (s : State) (x : Rail) : (s.withRail x).draws = s.draws := rfl
@[simp] theorem State.withRail_clock (s : State) (x : Rail) : (s.withRail x).clock = s.clock := rfl

@[simp] theorem State.withUnits_pending (s : State) (x : Vector UnitRun 8) : (s.withUnits x).pending = s.pending := rfl
@[simp] theorem State.withUnits_power (s : State) (x : Vector UnitRun 8) : (s.withUnits x).power = s.power := rfl
@[simp] theorem State.withUnits_port (s : State) (x : Vector UnitRun 8) : (s.withUnits x).port = s.port := rfl
@[simp] theorem State.withUnits_queue (s : State) (x : Vector UnitRun 8) : (s.withUnits x).queue = s.queue := rfl
@[simp] theorem State.withUnits_slots (s : State) (x : Vector UnitRun 8) : (s.withUnits x).slots = s.slots := rfl
@[simp] theorem State.withUnits_link (s : State) (x : Vector UnitRun 8) : (s.withUnits x).link = s.link := rfl
@[simp] theorem State.withUnits_rail (s : State) (x : Vector UnitRun 8) : (s.withUnits x).rail = s.rail := rfl
@[simp] theorem State.withUnits_units (s : State) (x : Vector UnitRun 8) : (s.withUnits x).units = x := rfl
@[simp] theorem State.withUnits_control (s : State) (x : Vector UnitRun 8) : (s.withUnits x).control = s.control := rfl
@[simp] theorem State.withUnits_cipher (s : State) (x : Vector UnitRun 8) : (s.withUnits x).cipher = s.cipher := rfl
@[simp] theorem State.withUnits_enrolling (s : State) (x : Vector UnitRun 8) : (s.withUnits x).enrolling = s.enrolling := rfl
@[simp] theorem State.withUnits_attempt (s : State) (x : Vector UnitRun 8) : (s.withUnits x).attempt = s.attempt := rfl
@[simp] theorem State.withUnits_scanner (s : State) (x : Vector UnitRun 8) : (s.withUnits x).scanner = s.scanner := rfl
@[simp] theorem State.withUnits_entry (s : State) (x : Vector UnitRun 8) : (s.withUnits x).entry = s.entry := rfl
@[simp] theorem State.withUnits_leds (s : State) (x : Vector UnitRun 8) : (s.withUnits x).leds = s.leds := rfl
@[simp] theorem State.withUnits_erase (s : State) (x : Vector UnitRun 8) : (s.withUnits x).erase = s.erase := rfl
@[simp] theorem State.withUnits_tamper (s : State) (x : Vector UnitRun 8) : (s.withUnits x).tamper = s.tamper := rfl
@[simp] theorem State.withUnits_store (s : State) (x : Vector UnitRun 8) : (s.withUnits x).store = s.store := rfl
@[simp] theorem State.withUnits_handler (s : State) (x : Vector UnitRun 8) : (s.withUnits x).handler = s.handler := rfl
@[simp] theorem State.withUnits_events (s : State) (x : Vector UnitRun 8) : (s.withUnits x).events = s.events := rfl
@[simp] theorem State.withUnits_draws (s : State) (x : Vector UnitRun 8) : (s.withUnits x).draws = s.draws := rfl
@[simp] theorem State.withUnits_clock (s : State) (x : Vector UnitRun 8) : (s.withUnits x).clock = s.clock := rfl

@[simp] theorem State.withControl_pending (s : State) (x : UnitControl) : (s.withControl x).pending = s.pending := rfl
@[simp] theorem State.withControl_power (s : State) (x : UnitControl) : (s.withControl x).power = s.power := rfl
@[simp] theorem State.withControl_port (s : State) (x : UnitControl) : (s.withControl x).port = s.port := rfl
@[simp] theorem State.withControl_queue (s : State) (x : UnitControl) : (s.withControl x).queue = s.queue := rfl
@[simp] theorem State.withControl_slots (s : State) (x : UnitControl) : (s.withControl x).slots = s.slots := rfl
@[simp] theorem State.withControl_link (s : State) (x : UnitControl) : (s.withControl x).link = s.link := rfl
@[simp] theorem State.withControl_rail (s : State) (x : UnitControl) : (s.withControl x).rail = s.rail := rfl
@[simp] theorem State.withControl_units (s : State) (x : UnitControl) : (s.withControl x).units = s.units := rfl
@[simp] theorem State.withControl_control (s : State) (x : UnitControl) : (s.withControl x).control = x := rfl
@[simp] theorem State.withControl_cipher (s : State) (x : UnitControl) : (s.withControl x).cipher = s.cipher := rfl
@[simp] theorem State.withControl_enrolling (s : State) (x : UnitControl) : (s.withControl x).enrolling = s.enrolling := rfl
@[simp] theorem State.withControl_attempt (s : State) (x : UnitControl) : (s.withControl x).attempt = s.attempt := rfl
@[simp] theorem State.withControl_scanner (s : State) (x : UnitControl) : (s.withControl x).scanner = s.scanner := rfl
@[simp] theorem State.withControl_entry (s : State) (x : UnitControl) : (s.withControl x).entry = s.entry := rfl
@[simp] theorem State.withControl_leds (s : State) (x : UnitControl) : (s.withControl x).leds = s.leds := rfl
@[simp] theorem State.withControl_erase (s : State) (x : UnitControl) : (s.withControl x).erase = s.erase := rfl
@[simp] theorem State.withControl_tamper (s : State) (x : UnitControl) : (s.withControl x).tamper = s.tamper := rfl
@[simp] theorem State.withControl_store (s : State) (x : UnitControl) : (s.withControl x).store = s.store := rfl
@[simp] theorem State.withControl_handler (s : State) (x : UnitControl) : (s.withControl x).handler = s.handler := rfl
@[simp] theorem State.withControl_events (s : State) (x : UnitControl) : (s.withControl x).events = s.events := rfl
@[simp] theorem State.withControl_draws (s : State) (x : UnitControl) : (s.withControl x).draws = s.draws := rfl
@[simp] theorem State.withControl_clock (s : State) (x : UnitControl) : (s.withControl x).clock = s.clock := rfl

@[simp] theorem State.withCipher_pending (s : State) (x : Cipher) : (s.withCipher x).pending = s.pending := rfl
@[simp] theorem State.withCipher_power (s : State) (x : Cipher) : (s.withCipher x).power = s.power := rfl
@[simp] theorem State.withCipher_port (s : State) (x : Cipher) : (s.withCipher x).port = s.port := rfl
@[simp] theorem State.withCipher_queue (s : State) (x : Cipher) : (s.withCipher x).queue = s.queue := rfl
@[simp] theorem State.withCipher_slots (s : State) (x : Cipher) : (s.withCipher x).slots = s.slots := rfl
@[simp] theorem State.withCipher_link (s : State) (x : Cipher) : (s.withCipher x).link = s.link := rfl
@[simp] theorem State.withCipher_rail (s : State) (x : Cipher) : (s.withCipher x).rail = s.rail := rfl
@[simp] theorem State.withCipher_units (s : State) (x : Cipher) : (s.withCipher x).units = s.units := rfl
@[simp] theorem State.withCipher_control (s : State) (x : Cipher) : (s.withCipher x).control = s.control := rfl
@[simp] theorem State.withCipher_cipher (s : State) (x : Cipher) : (s.withCipher x).cipher = x := rfl
@[simp] theorem State.withCipher_enrolling (s : State) (x : Cipher) : (s.withCipher x).enrolling = s.enrolling := rfl
@[simp] theorem State.withCipher_attempt (s : State) (x : Cipher) : (s.withCipher x).attempt = s.attempt := rfl
@[simp] theorem State.withCipher_scanner (s : State) (x : Cipher) : (s.withCipher x).scanner = s.scanner := rfl
@[simp] theorem State.withCipher_entry (s : State) (x : Cipher) : (s.withCipher x).entry = s.entry := rfl
@[simp] theorem State.withCipher_leds (s : State) (x : Cipher) : (s.withCipher x).leds = s.leds := rfl
@[simp] theorem State.withCipher_erase (s : State) (x : Cipher) : (s.withCipher x).erase = s.erase := rfl
@[simp] theorem State.withCipher_tamper (s : State) (x : Cipher) : (s.withCipher x).tamper = s.tamper := rfl
@[simp] theorem State.withCipher_store (s : State) (x : Cipher) : (s.withCipher x).store = s.store := rfl
@[simp] theorem State.withCipher_handler (s : State) (x : Cipher) : (s.withCipher x).handler = s.handler := rfl
@[simp] theorem State.withCipher_events (s : State) (x : Cipher) : (s.withCipher x).events = s.events := rfl
@[simp] theorem State.withCipher_draws (s : State) (x : Cipher) : (s.withCipher x).draws = s.draws := rfl
@[simp] theorem State.withCipher_clock (s : State) (x : Cipher) : (s.withCipher x).clock = s.clock := rfl

@[simp] theorem State.withEnrolling_pending (s : State) (x : Option Enrolling) : (s.withEnrolling x).pending = s.pending := rfl
@[simp] theorem State.withEnrolling_power (s : State) (x : Option Enrolling) : (s.withEnrolling x).power = s.power := rfl
@[simp] theorem State.withEnrolling_port (s : State) (x : Option Enrolling) : (s.withEnrolling x).port = s.port := rfl
@[simp] theorem State.withEnrolling_queue (s : State) (x : Option Enrolling) : (s.withEnrolling x).queue = s.queue := rfl
@[simp] theorem State.withEnrolling_slots (s : State) (x : Option Enrolling) : (s.withEnrolling x).slots = s.slots := rfl
@[simp] theorem State.withEnrolling_link (s : State) (x : Option Enrolling) : (s.withEnrolling x).link = s.link := rfl
@[simp] theorem State.withEnrolling_rail (s : State) (x : Option Enrolling) : (s.withEnrolling x).rail = s.rail := rfl
@[simp] theorem State.withEnrolling_units (s : State) (x : Option Enrolling) : (s.withEnrolling x).units = s.units := rfl
@[simp] theorem State.withEnrolling_control (s : State) (x : Option Enrolling) : (s.withEnrolling x).control = s.control := rfl
@[simp] theorem State.withEnrolling_cipher (s : State) (x : Option Enrolling) : (s.withEnrolling x).cipher = s.cipher := rfl
@[simp] theorem State.withEnrolling_enrolling (s : State) (x : Option Enrolling) : (s.withEnrolling x).enrolling = x := rfl
@[simp] theorem State.withEnrolling_attempt (s : State) (x : Option Enrolling) : (s.withEnrolling x).attempt = s.attempt := rfl
@[simp] theorem State.withEnrolling_scanner (s : State) (x : Option Enrolling) : (s.withEnrolling x).scanner = s.scanner := rfl
@[simp] theorem State.withEnrolling_entry (s : State) (x : Option Enrolling) : (s.withEnrolling x).entry = s.entry := rfl
@[simp] theorem State.withEnrolling_leds (s : State) (x : Option Enrolling) : (s.withEnrolling x).leds = s.leds := rfl
@[simp] theorem State.withEnrolling_erase (s : State) (x : Option Enrolling) : (s.withEnrolling x).erase = s.erase := rfl
@[simp] theorem State.withEnrolling_tamper (s : State) (x : Option Enrolling) : (s.withEnrolling x).tamper = s.tamper := rfl
@[simp] theorem State.withEnrolling_store (s : State) (x : Option Enrolling) : (s.withEnrolling x).store = s.store := rfl
@[simp] theorem State.withEnrolling_handler (s : State) (x : Option Enrolling) : (s.withEnrolling x).handler = s.handler := rfl
@[simp] theorem State.withEnrolling_events (s : State) (x : Option Enrolling) : (s.withEnrolling x).events = s.events := rfl
@[simp] theorem State.withEnrolling_draws (s : State) (x : Option Enrolling) : (s.withEnrolling x).draws = s.draws := rfl
@[simp] theorem State.withEnrolling_clock (s : State) (x : Option Enrolling) : (s.withEnrolling x).clock = s.clock := rfl

@[simp] theorem State.withAttempt_pending (s : State) (x : AttemptControl) : (s.withAttempt x).pending = s.pending := rfl
@[simp] theorem State.withAttempt_power (s : State) (x : AttemptControl) : (s.withAttempt x).power = s.power := rfl
@[simp] theorem State.withAttempt_port (s : State) (x : AttemptControl) : (s.withAttempt x).port = s.port := rfl
@[simp] theorem State.withAttempt_queue (s : State) (x : AttemptControl) : (s.withAttempt x).queue = s.queue := rfl
@[simp] theorem State.withAttempt_slots (s : State) (x : AttemptControl) : (s.withAttempt x).slots = s.slots := rfl
@[simp] theorem State.withAttempt_link (s : State) (x : AttemptControl) : (s.withAttempt x).link = s.link := rfl
@[simp] theorem State.withAttempt_rail (s : State) (x : AttemptControl) : (s.withAttempt x).rail = s.rail := rfl
@[simp] theorem State.withAttempt_units (s : State) (x : AttemptControl) : (s.withAttempt x).units = s.units := rfl
@[simp] theorem State.withAttempt_control (s : State) (x : AttemptControl) : (s.withAttempt x).control = s.control := rfl
@[simp] theorem State.withAttempt_cipher (s : State) (x : AttemptControl) : (s.withAttempt x).cipher = s.cipher := rfl
@[simp] theorem State.withAttempt_enrolling (s : State) (x : AttemptControl) : (s.withAttempt x).enrolling = s.enrolling := rfl
@[simp] theorem State.withAttempt_attempt (s : State) (x : AttemptControl) : (s.withAttempt x).attempt = x := rfl
@[simp] theorem State.withAttempt_scanner (s : State) (x : AttemptControl) : (s.withAttempt x).scanner = s.scanner := rfl
@[simp] theorem State.withAttempt_entry (s : State) (x : AttemptControl) : (s.withAttempt x).entry = s.entry := rfl
@[simp] theorem State.withAttempt_leds (s : State) (x : AttemptControl) : (s.withAttempt x).leds = s.leds := rfl
@[simp] theorem State.withAttempt_erase (s : State) (x : AttemptControl) : (s.withAttempt x).erase = s.erase := rfl
@[simp] theorem State.withAttempt_tamper (s : State) (x : AttemptControl) : (s.withAttempt x).tamper = s.tamper := rfl
@[simp] theorem State.withAttempt_store (s : State) (x : AttemptControl) : (s.withAttempt x).store = s.store := rfl
@[simp] theorem State.withAttempt_handler (s : State) (x : AttemptControl) : (s.withAttempt x).handler = s.handler := rfl
@[simp] theorem State.withAttempt_events (s : State) (x : AttemptControl) : (s.withAttempt x).events = s.events := rfl
@[simp] theorem State.withAttempt_draws (s : State) (x : AttemptControl) : (s.withAttempt x).draws = s.draws := rfl
@[simp] theorem State.withAttempt_clock (s : State) (x : AttemptControl) : (s.withAttempt x).clock = s.clock := rfl

@[simp] theorem State.withScanner_pending (s : State) (x : Scanner) : (s.withScanner x).pending = s.pending := rfl
@[simp] theorem State.withScanner_power (s : State) (x : Scanner) : (s.withScanner x).power = s.power := rfl
@[simp] theorem State.withScanner_port (s : State) (x : Scanner) : (s.withScanner x).port = s.port := rfl
@[simp] theorem State.withScanner_queue (s : State) (x : Scanner) : (s.withScanner x).queue = s.queue := rfl
@[simp] theorem State.withScanner_slots (s : State) (x : Scanner) : (s.withScanner x).slots = s.slots := rfl
@[simp] theorem State.withScanner_link (s : State) (x : Scanner) : (s.withScanner x).link = s.link := rfl
@[simp] theorem State.withScanner_rail (s : State) (x : Scanner) : (s.withScanner x).rail = s.rail := rfl
@[simp] theorem State.withScanner_units (s : State) (x : Scanner) : (s.withScanner x).units = s.units := rfl
@[simp] theorem State.withScanner_control (s : State) (x : Scanner) : (s.withScanner x).control = s.control := rfl
@[simp] theorem State.withScanner_cipher (s : State) (x : Scanner) : (s.withScanner x).cipher = s.cipher := rfl
@[simp] theorem State.withScanner_enrolling (s : State) (x : Scanner) : (s.withScanner x).enrolling = s.enrolling := rfl
@[simp] theorem State.withScanner_attempt (s : State) (x : Scanner) : (s.withScanner x).attempt = s.attempt := rfl
@[simp] theorem State.withScanner_scanner (s : State) (x : Scanner) : (s.withScanner x).scanner = x := rfl
@[simp] theorem State.withScanner_entry (s : State) (x : Scanner) : (s.withScanner x).entry = s.entry := rfl
@[simp] theorem State.withScanner_leds (s : State) (x : Scanner) : (s.withScanner x).leds = s.leds := rfl
@[simp] theorem State.withScanner_erase (s : State) (x : Scanner) : (s.withScanner x).erase = s.erase := rfl
@[simp] theorem State.withScanner_tamper (s : State) (x : Scanner) : (s.withScanner x).tamper = s.tamper := rfl
@[simp] theorem State.withScanner_store (s : State) (x : Scanner) : (s.withScanner x).store = s.store := rfl
@[simp] theorem State.withScanner_handler (s : State) (x : Scanner) : (s.withScanner x).handler = s.handler := rfl
@[simp] theorem State.withScanner_events (s : State) (x : Scanner) : (s.withScanner x).events = s.events := rfl
@[simp] theorem State.withScanner_draws (s : State) (x : Scanner) : (s.withScanner x).draws = s.draws := rfl
@[simp] theorem State.withScanner_clock (s : State) (x : Scanner) : (s.withScanner x).clock = s.clock := rfl

@[simp] theorem State.withEntry_pending (s : State) (x : Entry) : (s.withEntry x).pending = s.pending := rfl
@[simp] theorem State.withEntry_power (s : State) (x : Entry) : (s.withEntry x).power = s.power := rfl
@[simp] theorem State.withEntry_port (s : State) (x : Entry) : (s.withEntry x).port = s.port := rfl
@[simp] theorem State.withEntry_queue (s : State) (x : Entry) : (s.withEntry x).queue = s.queue := rfl
@[simp] theorem State.withEntry_slots (s : State) (x : Entry) : (s.withEntry x).slots = s.slots := rfl
@[simp] theorem State.withEntry_link (s : State) (x : Entry) : (s.withEntry x).link = s.link := rfl
@[simp] theorem State.withEntry_rail (s : State) (x : Entry) : (s.withEntry x).rail = s.rail := rfl
@[simp] theorem State.withEntry_units (s : State) (x : Entry) : (s.withEntry x).units = s.units := rfl
@[simp] theorem State.withEntry_control (s : State) (x : Entry) : (s.withEntry x).control = s.control := rfl
@[simp] theorem State.withEntry_cipher (s : State) (x : Entry) : (s.withEntry x).cipher = s.cipher := rfl
@[simp] theorem State.withEntry_enrolling (s : State) (x : Entry) : (s.withEntry x).enrolling = s.enrolling := rfl
@[simp] theorem State.withEntry_attempt (s : State) (x : Entry) : (s.withEntry x).attempt = s.attempt := rfl
@[simp] theorem State.withEntry_scanner (s : State) (x : Entry) : (s.withEntry x).scanner = s.scanner := rfl
@[simp] theorem State.withEntry_entry (s : State) (x : Entry) : (s.withEntry x).entry = x := rfl
@[simp] theorem State.withEntry_leds (s : State) (x : Entry) : (s.withEntry x).leds = s.leds := rfl
@[simp] theorem State.withEntry_erase (s : State) (x : Entry) : (s.withEntry x).erase = s.erase := rfl
@[simp] theorem State.withEntry_tamper (s : State) (x : Entry) : (s.withEntry x).tamper = s.tamper := rfl
@[simp] theorem State.withEntry_store (s : State) (x : Entry) : (s.withEntry x).store = s.store := rfl
@[simp] theorem State.withEntry_handler (s : State) (x : Entry) : (s.withEntry x).handler = s.handler := rfl
@[simp] theorem State.withEntry_events (s : State) (x : Entry) : (s.withEntry x).events = s.events := rfl
@[simp] theorem State.withEntry_draws (s : State) (x : Entry) : (s.withEntry x).draws = s.draws := rfl
@[simp] theorem State.withEntry_clock (s : State) (x : Entry) : (s.withEntry x).clock = s.clock := rfl

@[simp] theorem State.withLeds_pending (s : State) (x : Indicators) : (s.withLeds x).pending = s.pending := rfl
@[simp] theorem State.withLeds_power (s : State) (x : Indicators) : (s.withLeds x).power = s.power := rfl
@[simp] theorem State.withLeds_port (s : State) (x : Indicators) : (s.withLeds x).port = s.port := rfl
@[simp] theorem State.withLeds_queue (s : State) (x : Indicators) : (s.withLeds x).queue = s.queue := rfl
@[simp] theorem State.withLeds_slots (s : State) (x : Indicators) : (s.withLeds x).slots = s.slots := rfl
@[simp] theorem State.withLeds_link (s : State) (x : Indicators) : (s.withLeds x).link = s.link := rfl
@[simp] theorem State.withLeds_rail (s : State) (x : Indicators) : (s.withLeds x).rail = s.rail := rfl
@[simp] theorem State.withLeds_units (s : State) (x : Indicators) : (s.withLeds x).units = s.units := rfl
@[simp] theorem State.withLeds_control (s : State) (x : Indicators) : (s.withLeds x).control = s.control := rfl
@[simp] theorem State.withLeds_cipher (s : State) (x : Indicators) : (s.withLeds x).cipher = s.cipher := rfl
@[simp] theorem State.withLeds_enrolling (s : State) (x : Indicators) : (s.withLeds x).enrolling = s.enrolling := rfl
@[simp] theorem State.withLeds_attempt (s : State) (x : Indicators) : (s.withLeds x).attempt = s.attempt := rfl
@[simp] theorem State.withLeds_scanner (s : State) (x : Indicators) : (s.withLeds x).scanner = s.scanner := rfl
@[simp] theorem State.withLeds_entry (s : State) (x : Indicators) : (s.withLeds x).entry = s.entry := rfl
@[simp] theorem State.withLeds_leds (s : State) (x : Indicators) : (s.withLeds x).leds = x := rfl
@[simp] theorem State.withLeds_erase (s : State) (x : Indicators) : (s.withLeds x).erase = s.erase := rfl
@[simp] theorem State.withLeds_tamper (s : State) (x : Indicators) : (s.withLeds x).tamper = s.tamper := rfl
@[simp] theorem State.withLeds_store (s : State) (x : Indicators) : (s.withLeds x).store = s.store := rfl
@[simp] theorem State.withLeds_handler (s : State) (x : Indicators) : (s.withLeds x).handler = s.handler := rfl
@[simp] theorem State.withLeds_events (s : State) (x : Indicators) : (s.withLeds x).events = s.events := rfl
@[simp] theorem State.withLeds_draws (s : State) (x : Indicators) : (s.withLeds x).draws = s.draws := rfl
@[simp] theorem State.withLeds_clock (s : State) (x : Indicators) : (s.withLeds x).clock = s.clock := rfl

@[simp] theorem State.withErase_pending (s : State) (x : EraseEngine) : (s.withErase x).pending = s.pending := rfl
@[simp] theorem State.withErase_power (s : State) (x : EraseEngine) : (s.withErase x).power = s.power := rfl
@[simp] theorem State.withErase_port (s : State) (x : EraseEngine) : (s.withErase x).port = s.port := rfl
@[simp] theorem State.withErase_queue (s : State) (x : EraseEngine) : (s.withErase x).queue = s.queue := rfl
@[simp] theorem State.withErase_slots (s : State) (x : EraseEngine) : (s.withErase x).slots = s.slots := rfl
@[simp] theorem State.withErase_link (s : State) (x : EraseEngine) : (s.withErase x).link = s.link := rfl
@[simp] theorem State.withErase_rail (s : State) (x : EraseEngine) : (s.withErase x).rail = s.rail := rfl
@[simp] theorem State.withErase_units (s : State) (x : EraseEngine) : (s.withErase x).units = s.units := rfl
@[simp] theorem State.withErase_control (s : State) (x : EraseEngine) : (s.withErase x).control = s.control := rfl
@[simp] theorem State.withErase_cipher (s : State) (x : EraseEngine) : (s.withErase x).cipher = s.cipher := rfl
@[simp] theorem State.withErase_enrolling (s : State) (x : EraseEngine) : (s.withErase x).enrolling = s.enrolling := rfl
@[simp] theorem State.withErase_attempt (s : State) (x : EraseEngine) : (s.withErase x).attempt = s.attempt := rfl
@[simp] theorem State.withErase_scanner (s : State) (x : EraseEngine) : (s.withErase x).scanner = s.scanner := rfl
@[simp] theorem State.withErase_entry (s : State) (x : EraseEngine) : (s.withErase x).entry = s.entry := rfl
@[simp] theorem State.withErase_leds (s : State) (x : EraseEngine) : (s.withErase x).leds = s.leds := rfl
@[simp] theorem State.withErase_erase (s : State) (x : EraseEngine) : (s.withErase x).erase = x := rfl
@[simp] theorem State.withErase_tamper (s : State) (x : EraseEngine) : (s.withErase x).tamper = s.tamper := rfl
@[simp] theorem State.withErase_store (s : State) (x : EraseEngine) : (s.withErase x).store = s.store := rfl
@[simp] theorem State.withErase_handler (s : State) (x : EraseEngine) : (s.withErase x).handler = s.handler := rfl
@[simp] theorem State.withErase_events (s : State) (x : EraseEngine) : (s.withErase x).events = s.events := rfl
@[simp] theorem State.withErase_draws (s : State) (x : EraseEngine) : (s.withErase x).draws = s.draws := rfl
@[simp] theorem State.withErase_clock (s : State) (x : EraseEngine) : (s.withErase x).clock = s.clock := rfl

@[simp] theorem State.withTamper_pending (s : State) (x : Tamper) : (s.withTamper x).pending = s.pending := rfl
@[simp] theorem State.withTamper_power (s : State) (x : Tamper) : (s.withTamper x).power = s.power := rfl
@[simp] theorem State.withTamper_port (s : State) (x : Tamper) : (s.withTamper x).port = s.port := rfl
@[simp] theorem State.withTamper_queue (s : State) (x : Tamper) : (s.withTamper x).queue = s.queue := rfl
@[simp] theorem State.withTamper_slots (s : State) (x : Tamper) : (s.withTamper x).slots = s.slots := rfl
@[simp] theorem State.withTamper_link (s : State) (x : Tamper) : (s.withTamper x).link = s.link := rfl
@[simp] theorem State.withTamper_rail (s : State) (x : Tamper) : (s.withTamper x).rail = s.rail := rfl
@[simp] theorem State.withTamper_units (s : State) (x : Tamper) : (s.withTamper x).units = s.units := rfl
@[simp] theorem State.withTamper_control (s : State) (x : Tamper) : (s.withTamper x).control = s.control := rfl
@[simp] theorem State.withTamper_cipher (s : State) (x : Tamper) : (s.withTamper x).cipher = s.cipher := rfl
@[simp] theorem State.withTamper_enrolling (s : State) (x : Tamper) : (s.withTamper x).enrolling = s.enrolling := rfl
@[simp] theorem State.withTamper_attempt (s : State) (x : Tamper) : (s.withTamper x).attempt = s.attempt := rfl
@[simp] theorem State.withTamper_scanner (s : State) (x : Tamper) : (s.withTamper x).scanner = s.scanner := rfl
@[simp] theorem State.withTamper_entry (s : State) (x : Tamper) : (s.withTamper x).entry = s.entry := rfl
@[simp] theorem State.withTamper_leds (s : State) (x : Tamper) : (s.withTamper x).leds = s.leds := rfl
@[simp] theorem State.withTamper_erase (s : State) (x : Tamper) : (s.withTamper x).erase = s.erase := rfl
@[simp] theorem State.withTamper_tamper (s : State) (x : Tamper) : (s.withTamper x).tamper = x := rfl
@[simp] theorem State.withTamper_store (s : State) (x : Tamper) : (s.withTamper x).store = s.store := rfl
@[simp] theorem State.withTamper_handler (s : State) (x : Tamper) : (s.withTamper x).handler = s.handler := rfl
@[simp] theorem State.withTamper_events (s : State) (x : Tamper) : (s.withTamper x).events = s.events := rfl
@[simp] theorem State.withTamper_draws (s : State) (x : Tamper) : (s.withTamper x).draws = s.draws := rfl
@[simp] theorem State.withTamper_clock (s : State) (x : Tamper) : (s.withTamper x).clock = s.clock := rfl

@[simp] theorem State.withStore_pending (s : State) (x : Store) : (s.withStore x).pending = s.pending := rfl
@[simp] theorem State.withStore_power (s : State) (x : Store) : (s.withStore x).power = s.power := rfl
@[simp] theorem State.withStore_port (s : State) (x : Store) : (s.withStore x).port = s.port := rfl
@[simp] theorem State.withStore_queue (s : State) (x : Store) : (s.withStore x).queue = s.queue := rfl
@[simp] theorem State.withStore_slots (s : State) (x : Store) : (s.withStore x).slots = s.slots := rfl
@[simp] theorem State.withStore_link (s : State) (x : Store) : (s.withStore x).link = s.link := rfl
@[simp] theorem State.withStore_rail (s : State) (x : Store) : (s.withStore x).rail = s.rail := rfl
@[simp] theorem State.withStore_units (s : State) (x : Store) : (s.withStore x).units = s.units := rfl
@[simp] theorem State.withStore_control (s : State) (x : Store) : (s.withStore x).control = s.control := rfl
@[simp] theorem State.withStore_cipher (s : State) (x : Store) : (s.withStore x).cipher = s.cipher := rfl
@[simp] theorem State.withStore_enrolling (s : State) (x : Store) : (s.withStore x).enrolling = s.enrolling := rfl
@[simp] theorem State.withStore_attempt (s : State) (x : Store) : (s.withStore x).attempt = s.attempt := rfl
@[simp] theorem State.withStore_scanner (s : State) (x : Store) : (s.withStore x).scanner = s.scanner := rfl
@[simp] theorem State.withStore_entry (s : State) (x : Store) : (s.withStore x).entry = s.entry := rfl
@[simp] theorem State.withStore_leds (s : State) (x : Store) : (s.withStore x).leds = s.leds := rfl
@[simp] theorem State.withStore_erase (s : State) (x : Store) : (s.withStore x).erase = s.erase := rfl
@[simp] theorem State.withStore_tamper (s : State) (x : Store) : (s.withStore x).tamper = s.tamper := rfl
@[simp] theorem State.withStore_store (s : State) (x : Store) : (s.withStore x).store = x := rfl
@[simp] theorem State.withStore_handler (s : State) (x : Store) : (s.withStore x).handler = s.handler := rfl
@[simp] theorem State.withStore_events (s : State) (x : Store) : (s.withStore x).events = s.events := rfl
@[simp] theorem State.withStore_draws (s : State) (x : Store) : (s.withStore x).draws = s.draws := rfl
@[simp] theorem State.withStore_clock (s : State) (x : Store) : (s.withStore x).clock = s.clock := rfl

@[simp] theorem State.withHandler_pending (s : State) (x : Option Tag) : (s.withHandler x).pending = s.pending := rfl
@[simp] theorem State.withHandler_power (s : State) (x : Option Tag) : (s.withHandler x).power = s.power := rfl
@[simp] theorem State.withHandler_port (s : State) (x : Option Tag) : (s.withHandler x).port = s.port := rfl
@[simp] theorem State.withHandler_queue (s : State) (x : Option Tag) : (s.withHandler x).queue = s.queue := rfl
@[simp] theorem State.withHandler_slots (s : State) (x : Option Tag) : (s.withHandler x).slots = s.slots := rfl
@[simp] theorem State.withHandler_link (s : State) (x : Option Tag) : (s.withHandler x).link = s.link := rfl
@[simp] theorem State.withHandler_rail (s : State) (x : Option Tag) : (s.withHandler x).rail = s.rail := rfl
@[simp] theorem State.withHandler_units (s : State) (x : Option Tag) : (s.withHandler x).units = s.units := rfl
@[simp] theorem State.withHandler_control (s : State) (x : Option Tag) : (s.withHandler x).control = s.control := rfl
@[simp] theorem State.withHandler_cipher (s : State) (x : Option Tag) : (s.withHandler x).cipher = s.cipher := rfl
@[simp] theorem State.withHandler_enrolling (s : State) (x : Option Tag) : (s.withHandler x).enrolling = s.enrolling := rfl
@[simp] theorem State.withHandler_attempt (s : State) (x : Option Tag) : (s.withHandler x).attempt = s.attempt := rfl
@[simp] theorem State.withHandler_scanner (s : State) (x : Option Tag) : (s.withHandler x).scanner = s.scanner := rfl
@[simp] theorem State.withHandler_entry (s : State) (x : Option Tag) : (s.withHandler x).entry = s.entry := rfl
@[simp] theorem State.withHandler_leds (s : State) (x : Option Tag) : (s.withHandler x).leds = s.leds := rfl
@[simp] theorem State.withHandler_erase (s : State) (x : Option Tag) : (s.withHandler x).erase = s.erase := rfl
@[simp] theorem State.withHandler_tamper (s : State) (x : Option Tag) : (s.withHandler x).tamper = s.tamper := rfl
@[simp] theorem State.withHandler_store (s : State) (x : Option Tag) : (s.withHandler x).store = s.store := rfl
@[simp] theorem State.withHandler_handler (s : State) (x : Option Tag) : (s.withHandler x).handler = x := rfl
@[simp] theorem State.withHandler_events (s : State) (x : Option Tag) : (s.withHandler x).events = s.events := rfl
@[simp] theorem State.withHandler_draws (s : State) (x : Option Tag) : (s.withHandler x).draws = s.draws := rfl
@[simp] theorem State.withHandler_clock (s : State) (x : Option Tag) : (s.withHandler x).clock = s.clock := rfl

@[simp] theorem State.withEvents_pending (s : State) (x : EventQueue) : (s.withEvents x).pending = s.pending := rfl
@[simp] theorem State.withEvents_power (s : State) (x : EventQueue) : (s.withEvents x).power = s.power := rfl
@[simp] theorem State.withEvents_port (s : State) (x : EventQueue) : (s.withEvents x).port = s.port := rfl
@[simp] theorem State.withEvents_queue (s : State) (x : EventQueue) : (s.withEvents x).queue = s.queue := rfl
@[simp] theorem State.withEvents_slots (s : State) (x : EventQueue) : (s.withEvents x).slots = s.slots := rfl
@[simp] theorem State.withEvents_link (s : State) (x : EventQueue) : (s.withEvents x).link = s.link := rfl
@[simp] theorem State.withEvents_rail (s : State) (x : EventQueue) : (s.withEvents x).rail = s.rail := rfl
@[simp] theorem State.withEvents_units (s : State) (x : EventQueue) : (s.withEvents x).units = s.units := rfl
@[simp] theorem State.withEvents_control (s : State) (x : EventQueue) : (s.withEvents x).control = s.control := rfl
@[simp] theorem State.withEvents_cipher (s : State) (x : EventQueue) : (s.withEvents x).cipher = s.cipher := rfl
@[simp] theorem State.withEvents_enrolling (s : State) (x : EventQueue) : (s.withEvents x).enrolling = s.enrolling := rfl
@[simp] theorem State.withEvents_attempt (s : State) (x : EventQueue) : (s.withEvents x).attempt = s.attempt := rfl
@[simp] theorem State.withEvents_scanner (s : State) (x : EventQueue) : (s.withEvents x).scanner = s.scanner := rfl
@[simp] theorem State.withEvents_entry (s : State) (x : EventQueue) : (s.withEvents x).entry = s.entry := rfl
@[simp] theorem State.withEvents_leds (s : State) (x : EventQueue) : (s.withEvents x).leds = s.leds := rfl
@[simp] theorem State.withEvents_erase (s : State) (x : EventQueue) : (s.withEvents x).erase = s.erase := rfl
@[simp] theorem State.withEvents_tamper (s : State) (x : EventQueue) : (s.withEvents x).tamper = s.tamper := rfl
@[simp] theorem State.withEvents_store (s : State) (x : EventQueue) : (s.withEvents x).store = s.store := rfl
@[simp] theorem State.withEvents_handler (s : State) (x : EventQueue) : (s.withEvents x).handler = s.handler := rfl
@[simp] theorem State.withEvents_events (s : State) (x : EventQueue) : (s.withEvents x).events = x := rfl
@[simp] theorem State.withEvents_draws (s : State) (x : EventQueue) : (s.withEvents x).draws = s.draws := rfl
@[simp] theorem State.withEvents_clock (s : State) (x : EventQueue) : (s.withEvents x).clock = s.clock := rfl

@[simp] theorem State.withDraws_pending (s : State) (x : Nat) : (s.withDraws x).pending = s.pending := rfl
@[simp] theorem State.withDraws_power (s : State) (x : Nat) : (s.withDraws x).power = s.power := rfl
@[simp] theorem State.withDraws_port (s : State) (x : Nat) : (s.withDraws x).port = s.port := rfl
@[simp] theorem State.withDraws_queue (s : State) (x : Nat) : (s.withDraws x).queue = s.queue := rfl
@[simp] theorem State.withDraws_slots (s : State) (x : Nat) : (s.withDraws x).slots = s.slots := rfl
@[simp] theorem State.withDraws_link (s : State) (x : Nat) : (s.withDraws x).link = s.link := rfl
@[simp] theorem State.withDraws_rail (s : State) (x : Nat) : (s.withDraws x).rail = s.rail := rfl
@[simp] theorem State.withDraws_units (s : State) (x : Nat) : (s.withDraws x).units = s.units := rfl
@[simp] theorem State.withDraws_control (s : State) (x : Nat) : (s.withDraws x).control = s.control := rfl
@[simp] theorem State.withDraws_cipher (s : State) (x : Nat) : (s.withDraws x).cipher = s.cipher := rfl
@[simp] theorem State.withDraws_enrolling (s : State) (x : Nat) : (s.withDraws x).enrolling = s.enrolling := rfl
@[simp] theorem State.withDraws_attempt (s : State) (x : Nat) : (s.withDraws x).attempt = s.attempt := rfl
@[simp] theorem State.withDraws_scanner (s : State) (x : Nat) : (s.withDraws x).scanner = s.scanner := rfl
@[simp] theorem State.withDraws_entry (s : State) (x : Nat) : (s.withDraws x).entry = s.entry := rfl
@[simp] theorem State.withDraws_leds (s : State) (x : Nat) : (s.withDraws x).leds = s.leds := rfl
@[simp] theorem State.withDraws_erase (s : State) (x : Nat) : (s.withDraws x).erase = s.erase := rfl
@[simp] theorem State.withDraws_tamper (s : State) (x : Nat) : (s.withDraws x).tamper = s.tamper := rfl
@[simp] theorem State.withDraws_store (s : State) (x : Nat) : (s.withDraws x).store = s.store := rfl
@[simp] theorem State.withDraws_handler (s : State) (x : Nat) : (s.withDraws x).handler = s.handler := rfl
@[simp] theorem State.withDraws_events (s : State) (x : Nat) : (s.withDraws x).events = s.events := rfl
@[simp] theorem State.withDraws_draws (s : State) (x : Nat) : (s.withDraws x).draws = x := rfl
@[simp] theorem State.withDraws_clock (s : State) (x : Nat) : (s.withDraws x).clock = s.clock := rfl

@[simp] theorem State.withClock_pending (s : State) (x : Nat) : (s.withClock x).pending = s.pending := rfl
@[simp] theorem State.withClock_power (s : State) (x : Nat) : (s.withClock x).power = s.power := rfl
@[simp] theorem State.withClock_port (s : State) (x : Nat) : (s.withClock x).port = s.port := rfl
@[simp] theorem State.withClock_queue (s : State) (x : Nat) : (s.withClock x).queue = s.queue := rfl
@[simp] theorem State.withClock_slots (s : State) (x : Nat) : (s.withClock x).slots = s.slots := rfl
@[simp] theorem State.withClock_link (s : State) (x : Nat) : (s.withClock x).link = s.link := rfl
@[simp] theorem State.withClock_rail (s : State) (x : Nat) : (s.withClock x).rail = s.rail := rfl
@[simp] theorem State.withClock_units (s : State) (x : Nat) : (s.withClock x).units = s.units := rfl
@[simp] theorem State.withClock_control (s : State) (x : Nat) : (s.withClock x).control = s.control := rfl
@[simp] theorem State.withClock_cipher (s : State) (x : Nat) : (s.withClock x).cipher = s.cipher := rfl
@[simp] theorem State.withClock_enrolling (s : State) (x : Nat) : (s.withClock x).enrolling = s.enrolling := rfl
@[simp] theorem State.withClock_attempt (s : State) (x : Nat) : (s.withClock x).attempt = s.attempt := rfl
@[simp] theorem State.withClock_scanner (s : State) (x : Nat) : (s.withClock x).scanner = s.scanner := rfl
@[simp] theorem State.withClock_entry (s : State) (x : Nat) : (s.withClock x).entry = s.entry := rfl
@[simp] theorem State.withClock_leds (s : State) (x : Nat) : (s.withClock x).leds = s.leds := rfl
@[simp] theorem State.withClock_erase (s : State) (x : Nat) : (s.withClock x).erase = s.erase := rfl
@[simp] theorem State.withClock_tamper (s : State) (x : Nat) : (s.withClock x).tamper = s.tamper := rfl
@[simp] theorem State.withClock_store (s : State) (x : Nat) : (s.withClock x).store = s.store := rfl
@[simp] theorem State.withClock_handler (s : State) (x : Nat) : (s.withClock x).handler = s.handler := rfl
@[simp] theorem State.withClock_events (s : State) (x : Nat) : (s.withClock x).events = s.events := rfl
@[simp] theorem State.withClock_draws (s : State) (x : Nat) : (s.withClock x).draws = s.draws := rfl
@[simp] theorem State.withClock_clock (s : State) (x : Nat) : (s.withClock x).clock = x := rfl

end Sys2Proof.Machine
end

