-- ==== Sys2Proof/Laws/Closes.lean ====
section
/-! SUPPORT. What a close cause does to the units that it reaches (R70, R141 to R143, R154): `closeUnit` on an OPEN unit, and
`closeUnits` on a list of units, each said once. -/

namespace Sys2Proof.Machine

/-- The release of a data stage changes no block but the port. -/
theorem State.releaseStage_frame (s : State) :
    s.releaseStage.units = s.units ∧ s.releaseStage.cipher = s.cipher ∧ s.releaseStage.events = s.events ∧
      s.releaseStage.slots = s.slots ∧ s.releaseStage.queue = s.queue := by
  unfold State.releaseStage
  split
  · split
    · split <;> simp [State.withPort]
    · simp
  · simp
  · simp

/-- The Dispatcher's end of a unit's commands changes the entries of the queue, and of the rest of the command path only the
port. -/
theorem State.endCommands_frame (s : State) (u : UnitNo) (st : Status) :
    (s.endCommands u st).units = s.units ∧ (s.endCommands u st).cipher = s.cipher ∧
      (s.endCommands u st).events = s.events ∧ (s.endCommands u st).slots = s.slots ∧
      (s.endCommands u st).queue =
        s.queue.map fun e => if e.names u && e.op.usesMedia then s.closedEntry st e else e := by
  unfold State.endCommands
  obtain ⟨hu, hc, he, hs, hq⟩ := State.releaseStage_frame ((s.withQueue (s.queue.map fun e =>
    if e.names u && e.op.usesMedia then s.closedEntry st e else e)).discardBuffered u)
  exact ⟨hu.trans rfl, hc.trans rfl, he.trans rfl, hs.trans rfl, hq.trans rfl⟩

/-- A close leaves an entry its tag, its record and its op. -/
theorem State.closedEntry_frame (s : State) (st : Status) (e : QueueEntry) :
    (s.closedEntry st e).tag = e.tag ∧ (s.closedEntry st e).head = e.head ∧ (s.closedEntry st e).op = e.op := by
  unfold State.closedEntry
  split
  · simp
  · split <;> simp

/-- The tags and records of the queue, which no close changes. -/
def State.queueRecords (s : State) : List (Tag × RecordHead) := s.queue.map fun e => (e.tag, e.head)

/-- All that a close of one OPEN unit does to the units, the key slots, the Event Queue and the slots. -/
structure State.closesOne (s m : State) (c : CloseCause) (u : UnitNo) : Prop where
  unit : s.closes m u
  event : m.events = s.events.place (.unitLocked u (s.unitRun u).opener c)
  others : ∀ v, v ≠ u → m.unitRun v = s.unitRun v ∧ m.cipher.slots[v] = s.cipher.slots[v]
  slots : m.slots = s.slots
  records : m.queueRecords = s.queueRecords

/-- A close cause that reaches an OPEN unit closes it. -/
theorem State.closeUnit_spec (s : State) (c : CloseCause) (u : UnitNo) (h : s.unitState u = .opened)
    (hp : (s.unitRun u).claimPending = false) : s.closesOne (s.closeUnit c u) c u := by
  unfold State.closeUnit
  rw [if_pos h]
  obtain ⟨hu, hc, he, hs, hq⟩ := State.endCommands_frame (s.startClose u c) u .locked
  generalize hm : (s.startClose u c).endCommands u .locked = m at hu hc he hs hq ⊢
  have units : m.units = s.units.set u { s.unitRun u with state := .closing, idleTimer := none } := by rw [hu]; rfl
  have keys : m.cipher.slots = s.cipher.slots.set u { s.cipher.slots[u] with state := .draining } := by rw [hc]; rfl
  have events : m.events = s.events.place (.unitLocked u (s.unitRun u).opener c) := by rw [he]; rfl
  have slots : m.slots = s.slots := by rw [hs]; rfl
  have queue : m.queue = s.queue.map
      fun e => if e.names u && e.op.usesMedia then s.closedEntry .locked e else e := by rw [hq]; rfl
  have records : m.queueRecords = s.queueRecords := by
    simp only [State.queueRecords, queue, List.map_map]
    apply List.map_congr_left
    intro e _
    simp only [Function.comp]
    split <;> simp [State.closedEntry_frame]
  have run : m.unitRun u = { s.unitRun u with state := .closing, idleTimer := none } := by simp [State.unitRun, units]
  have others : ∀ v, v ≠ u → m.unitRun v = s.unitRun v ∧ m.cipher.slots[v] = s.cipher.slots[v] := by
    intro v hv
    have hne : (u : Nat) ≠ v := fun h => hv (Fin.ext h.symm)
    constructor
    · simp [State.unitRun, units, hne]
    · rw [keys]; simp [hne]
  have inFlight : m.inFlight u = s.inFlight u := by simp [State.inFlight, State.occupied, slots]
  have due : m.drainDue u = m.unitQuiet u := by simp [State.drainDue, State.drainAwaited, State.unitState, run]
  unfold State.drainNow
  rw [due]
  by_cases quiet : m.unitQuiet u = true
  · rw [if_pos quiet]
    have ended : m.endClose u = (m.setUnit u { m.unitRun u with
        state := .locked, mode := none, opener := none, claimPending := false }).setKeySlot u
          { state := .empty, key := none } := by
      unfold State.endClose
      rw [if_pos (by simp [State.unitState, run])]
      simp [run, hp]
    have locked : (m.endClose u).unitRun u =
        { s.unitRun u with state := .locked, mode := none, opener := none, idleTimer := none } := by
      have e : (m.endClose u).unitRun u =
          { m.unitRun u with state := .locked, mode := none, opener := none, claimPending := false } := by
        rw [ended]; simp [State.setKeySlot, State.setUnit, State.unitRun, State.withCipher, State.withUnits]
      rw [e, run, ← hp]
    have signalled : m.signalDrained u = m.endClose u := by
      unfold State.signalDrained State.claimDrained
      rw [if_neg (by simp [State.unitState, locked])]
    rw [signalled]
    refine ⟨⟨Or.inr ⟨locked, ?_⟩, ?_, fun _ _ => by simp [State.unitState, locked]⟩, ?_, ?_, ?_, ?_⟩
    · rw [ended]; simp [State.setKeySlot, State.withCipher]
    · intro busy
      simp [State.unitQuiet, inFlight] at quiet
      exact absurd quiet.1 busy
    · rw [ended]; exact events
    · intro v hv
      have hne : (u : Nat) ≠ v := fun h => hv (Fin.ext h.symm)
      rw [← (others v hv).1, ← (others v hv).2, ended]
      simp [State.unitRun, State.setKeySlot, State.setUnit, State.withCipher, State.withUnits, hne]
    · rw [ended]; exact slots
    · rw [ended]; exact records
  · rw [if_neg quiet]
    refine ⟨⟨Or.inl ⟨run, by rw [keys]; simp⟩, fun _ => by simp [State.unitState, run], ?_⟩, events, others, slots, records⟩
    intro none_ all
    refine absurd ?_ quiet
    simp only [State.unitQuiet, inFlight, none_, decide_true, Bool.true_and, queue, List.all_map, List.all_eq_true,
      Function.comp]
    intro e he
    by_cases named : e.names u = true
    · by_cases media : e.op.usesMedia = true
      · have free := all e he named
        simp only [named, media, Bool.and_self, if_true]
        unfold State.closedEntry
        cases st : e.state <;> simp [free]
        split <;> simp [st]
      · simp [named, media]
    · simp [named]

/-- A close cause that reaches the units of a list closes the OPEN ones, each with its UNIT_LOCKED in the list's order, and
leaves every other unit as it was. -/
theorem State.closeUnits_spec (c : CloseCause) (us : List UnitNo) : ∀ s : State, us.Nodup →
    (∀ u, s.unitState u = .opened → (s.unitRun u).claimPending = false) →
    (∀ u ∈ us, s.unitState u = .opened → s.closes (s.closeUnits c us) u) ∧
      (s.closeUnits c us).events = s.eventsAfterCloses c us s.events ∧
      (∀ v, v ∉ us → (s.closeUnits c us).unitRun v = s.unitRun v ∧
        (s.closeUnits c us).cipher.slots[v] = s.cipher.slots[v]) ∧
      (s.closeUnits c us).slots = s.slots ∧ (s.closeUnits c us).queueRecords = s.queueRecords := by
  induction us with
  | nil => intro s _ _; exact ⟨by simp, rfl, fun v _ => ⟨rfl, rfl⟩, rfl, rfl⟩
  | cons u us ih =>
    intro s distinct pending
    have unfolds : s.closeUnits c (u :: us) = (s.closeUnit c u).closeUnits c us := rfl
    rw [List.nodup_cons] at distinct
    rw [unfolds]
    by_cases h : s.unitState u = .opened
    · obtain ⟨unit, event, others, slots, records⟩ := s.closeUnit_spec c u h (pending u h)
      generalize s.closeUnit c u = m at unit event others slots records ⊢
      have closed : m.unitState u ≠ .opened := by
        rcases unit.either with e | e <;> simp [State.unitState, e.1]
      have inFlight : ∀ v, m.inFlight v = s.inFlight v := by intro v; simp [State.inFlight, State.occupied, slots]
      have outstanding : ∀ t, m.hasOutstanding t = s.hasOutstanding t := by
        intro t; simp [State.hasOutstanding, State.occupied, slots]
      have run : ∀ v, v ≠ u → m.unitRun v = s.unitRun v := fun v hv => (others v hv).1
      have state : ∀ v, v ≠ u → m.unitState v = s.unitState v := fun v hv => congrArg UnitRun.state (run v hv)
      obtain ⟨i1, i2, i3, i4, i5⟩ := ih m distinct.2 (by
        intro v hv
        have hvu : v ≠ u := by rintro rfl; exact closed hv
        rw [run v hvu]
        exact pending v (by rw [← state v hvu]; exact hv))
      refine ⟨?_, ?_, ?_, i4.trans slots, i5.trans records⟩
      · intro v hv opened
        rcases List.mem_cons.1 hv with rfl | mem
        · have rest := i3 v distinct.1
          have same : (m.closeUnits c us).unitState v = m.unitState v := congrArg UnitRun.state rest.1
          refine ⟨?_, ?_, ?_⟩
          · rw [rest.1, rest.2]; exact unit.either
          · rw [same]; exact unit.outstanding
          · rw [same]; exact unit.drained
        · have hvu : v ≠ u := by rintro rfl; exact distinct.1 mem
          obtain ⟨e, o, d⟩ := i1 v mem (by rw [state v hvu]; exact opened)
          rw [(others v hvu).1, (others v hvu).2] at e
          rw [inFlight] at o d
          refine ⟨e, o, fun none_ all => d none_ ?_⟩
          intro x hx named
          have mem' : (x.tag, x.head) ∈ s.queueRecords := by rw [← records]; exact List.mem_map.2 ⟨x, hx, rfl⟩
          obtain ⟨y, hy, eq⟩ := List.mem_map.1 mem'
          simp only [Prod.mk.injEq] at eq
          rw [outstanding, ← eq.1]
          apply all y hy
          simpa [QueueEntry.names, eq.2] using named
      · rw [i2, event]
        have same : ∀ (vs : List UnitNo) (q : EventQueue), (∀ v ∈ vs, v ≠ u) →
            m.eventsAfterCloses c vs q = s.eventsAfterCloses c vs q := by
          intro vs
          induction vs with
          | nil => intro q _; rfl
          | cons v vs ih =>
            intro q hv
            have hvu : v ≠ u := hv v (by simp)
            have step := ih (if s.unitState v = .opened then q.place (.unitLocked v (s.unitRun v).opener c) else q)
              (fun w hw => hv w (by simp [hw]))
            simp only [State.eventsAfterCloses, List.foldl_cons] at step ⊢
            rw [state v hvu, run v hvu]
            exact step
        rw [same us _ (by rintro v hv rfl; exact distinct.1 hv)]
        simp only [State.eventsAfterCloses, List.foldl_cons, if_pos h]
      · intro v hv
        simp only [List.mem_cons, not_or] at hv
        have rest := i3 v hv.2
        rw [rest.1, rest.2]
        exact others v hv.1
    · have same : s.closeUnit c u = s := by unfold State.closeUnit; rw [if_neg h]
      rw [same]
      obtain ⟨i1, i2, i3, i4, i5⟩ := ih s distinct.2 pending
      refine ⟨?_, ?_, ?_, i4, i5⟩
      · intro v hv opened
        rcases List.mem_cons.1 hv with rfl | mem
        · exact absurd opened h
        · exact i1 v mem opened
      · rw [i2]; simp [State.eventsAfterCloses, h]
      · intro v hv
        simp only [List.mem_cons, not_or] at hv
        exact i3 v hv.2

end Sys2Proof.Machine
end

