-- ==== Sys2Proof/Laws/Settling.lean ====
section
/-! SUPPORT. The shared operations around a command: what `act`, `transfer`, `settle` and `finish` can do, each said once;
and that a management record which joins a settled part is taken next. -/

namespace Sys2Proof.Machine

/-! ## Acting -/

theorem State.act_powered {s : State} (f : State → State) (h : s.power.vbus = true) : s.act f = .next (f s) := by
  simp [State.act, h]

theorem State.act_unpowered {s : State} (f : State → State) (h : s.power.vbus = false) : s.act f = .next s := by
  simp [State.act, h]

theorem State.transfer_taken {s : State} (i : Instr) (accept : State → State) (h : s.takesNow = true) :
    s.transfer i accept = (accept s).finish := by
  simp [State.transfer, h]

theorem State.transfer_waits {s : State} (i : Instr) (accept : State → State) (h : s.takesNow = false) :
    s.transfer i accept = s.wait i := by
  simp [State.transfer, h]

/-- A pipe free for a record: nothing holds it, no refused status waits, the bus runs, and no transfer waits. -/
theorem State.takesNow_iff {s : State} :
    s.takesNow = true ↔ s.port.bulkOut = .free ∧ s.port.refused = none ∧ s.port.standby = false ∧ s.port.waiting = [] := by
  simp [State.takesNow, State.pipeFree, and_assoc]

/-! ## Settling -/

/-- What every one of the part's own events keeps, settling keeps. -/
theorem State.settle_induction {P : State → Prop} (step : ∀ s t, P s → s.internal = some t → P t) :
    ∀ n s, P s → P (State.settle n s) := by
  intro n
  induction n with
  | zero => intro s h; exact h
  | succ n ih =>
    intro s h
    simp only [State.settle]
    cases e : s.internal with
    | none => exact h
    | some t => exact ih t (step s t h e)

/-- A settled state stays as it is. -/
theorem State.settle_settled {s : State} (h : s.settled) : ∀ n, State.settle n s = s := by
  intro n
  cases n with
  | zero => rfl
  | succ n => simp only [State.settle]; rw [show s.internal = none from h]

theorem State.finish_settled {s : State} (h : s.settled) : s.finish = s.refreshLeds := by
  rw [State.finish, State.settle_settled h]

theorem State.leads_finish (s : State) : s.leads s.finish := ⟨_, rfl⟩

/-- A state whose next own event gives `m` leads where `m` leads. -/
theorem State.leads_of_internal {s m : State} (h : s.internal = some m) : m.leads s.finish := by
  refine ⟨511 + 64 * s.port.waiting.length, ?_⟩
  have : s.settleBound = (511 + 64 * s.port.waiting.length) + 1 := by simp only [State.settleBound]; omega
  rw [State.finish, this]
  simp only [State.settle, h]

/-! ## A management record joins -/

theorem readyAfter_management {e : QueueEntry} (h : e.op.isManagement = true) (es : List QueueEntry) :
    readyAfter es e = false := by
  cases o : e.op <;> simp_all [readyAfter, Op.isManagement]

theorem isDue_queued {s : State} {e : QueueEntry} (h : e.state = .queued) : s.isDue e = false := by
  simp [State.isDue, h]

/-- What settled says of each kind of own event. -/
theorem State.settled_iff {s : State} :
    s.settled ↔ s.nextDrained = none ∧ s.advanceStartUp = none ∧ s.nextBegin = none ∧ s.nextUnserved = none ∧
      s.nextFollow = none ∧ s.nextStart = none ∧ s.nextCommand = none ∧ s.nextTransfer = none := by
  simp [State.settled, State.internal]

/-- Work is found past a prefix that does not matter only for READs, WRITEs and TRIMs: a last entry that is not ready
and has no segment due changes nothing. -/
theorem findWork_append {s t : State} {ok ok' : QueueEntry → Bool} (hd : ∀ e, t.isDue e = s.isDue e) (x : QueueEntry)
    (hx : ∀ es, readyAfter es x = false) (hdx : s.isDue x = false) :
    ∀ (q earlier : List QueueEntry), (∀ e ∈ q, ok' e = ok e) →
      t.findWork ok' earlier (q ++ [x]) = s.findWork ok earlier q := by
  intro q
  induction q with
  | nil => intro earlier _; simp [State.findWork, hx, hd, hdx]
  | cons e es ih =>
    intro earlier h
    simp only [List.cons_append, State.findWork, hd, h e (by simp)]
    rw [ih _ (fun e' he' => h e' (by simp [he']))]

/-- A management record that joins a settled part, with no management command in progress, is what the part takes
next. -/
theorem State.internal_enqueue {s : State} {e : QueueEntry} (h : s.settled) (idle : s.handler = none)
    (op : e.op.isManagement = true) (q : e.state = .queued) :
    (s.enqueue e).internal = some ((s.enqueue e).takeManagement e) := by
  obtain ⟨hd, ha, hb, hu, hf, hs, hc, -⟩ := State.settled_iff.1 h
  have due : ∀ x, (s.enqueue e).isDue x = s.isDue x := fun _ => rfl
  have rx : ∀ es, readyAfter es e = false := readyAfter_management op
  have dx : s.isDue e = false := isDue_queued q
  have media : e.op.usesMedia = false := by cases o : e.op <;> simp_all [Op.usesMedia, Op.isManagement]
  have quiet : ∀ u, (s.enqueue e).unitQuiet u = s.unitQuiet u := by
    intro u
    show (decide ((s.enqueue e).inFlight u = 0) && (s.queue ++ [e]).all _) = _
    rw [List.all_append]
    simp [media, State.unitQuiet, show (s.enqueue e).inFlight u = s.inFlight u from rfl]
  have work : ∀ ok ok', (∀ x ∈ s.queue, ok' x = ok x) →
      (s.enqueue e).findWork ok' [] (s.queue ++ [e]) = s.findWork ok [] s.queue :=
    fun ok ok' hok => findWork_append due e rx dx s.queue [] hok
  have c1 : (s.enqueue e).nextDrained = none := by
    have : (fun u => (s.enqueue e).drainDue u) = fun u => s.drainDue u := by
      funext u; simp only [State.drainDue, quiet]; rfl
    simp only [State.nextDrained, Option.map_eq_none_iff] at hd ⊢
    rw [show (s.enqueue e).drainDue = s.drainDue from this]; exact hd
  have c2 : (s.enqueue e).advanceStartUp = none := by
    simp only [State.advanceStartUp] at ha ⊢
    show (match s.power.startUp with
      | .step4Reruns =>
        if s.erase.rerun.isSome = true then none
        else
          match s.nextMarked with
          | some (u, w) => _
          | none => _
      | .step4Owed => if s.tamper.zeroizeOwed = true then none else _
      | .step6 => if s.attempt.phase = .idle then _ else none
      | .step2 => none
      | .done => none) = none
    cases p : s.power.startUp <;> simp only [p] at ha ⊢
    · split
      · rfl
      · split <;> simp_all
    · split <;> simp_all
    · split <;> simp_all
  have c3 : (s.enqueue e).nextBegin = none := by
    simp only [State.nextBegin, ite_eq_right_iff, Option.map_eq_none_iff] at hb ⊢
    exact hb
  have c4 : (s.enqueue e).nextUnserved = none := by
    simp only [State.nextUnserved] at hu ⊢
    rw [show (s.enqueue e).queue = s.queue ++ [e] from rfl, work (fun _ => true) (fun _ => true) (fun _ _ => rfl)]
    revert hu
    show _ → (if ((decide (s.link.state = .absent)) && s.presented.isSome) = true then _ else _) = none
    split
    · simp
    · intro hu
      show (if s.rail.state = .failed then _ else _) = none
      by_cases r : s.rail.state = .failed
      · simp only [r, if_true] at hu ⊢
        show (match s.waitingSlot with | some p => _ | none => _) = none
        cases w : s.waitingSlot with
        | some p => simp [w] at hu
        | none =>
          simp only [w] at hu ⊢
          cases f : s.findWork (fun _ => true) [] s.queue with
          | some x => simp [f] at hu
          | none =>
            simp only [f] at hu ⊢
            show (if s.presented.isSome = true then _ else _) = none
            by_cases p : s.presented.isSome = true <;> simp_all
      · simp [r]
  have c5 : (s.enqueue e).nextFollow = none := by
    have need : (s.enqueue e).need = s.need := by
      simp only [State.need, State.anyWork]
      rw [show (s.enqueue e).queue = s.queue ++ [e] from rfl, work (fun _ => true) (fun _ => true) (fun _ _ => rfl)]
      rfl
    simp only [State.nextFollow, need] at hf ⊢
    show (if s.rail.follow s.need = s.rail then _ else _) = none
    by_cases f : s.rail.follow s.need = s.rail <;> simp_all
  have c6 : (s.enqueue e).nextStart = none := by
    simp only [State.nextStart] at hs ⊢
    show (if s.startDue = true then _ else _) = none
    by_cases f : s.startDue = true <;> simp_all
  have c7 : (s.enqueue e).nextCommand = some ((s.enqueue e).takeManagement e) := by
    have none_before : s.nextManagement = none := by
      simpa [State.nextCommand, idle] using hc
    have : (s.enqueue e).nextManagement = some e := by
      simp only [State.nextManagement] at none_before ⊢
      show (s.queue ++ [e]).find? _ = _
      rw [List.find?_append, none_before]
      simp [op, q]
    simp [State.nextCommand, this, show (s.enqueue e).handler = none from idle]
  simp [State.internal, c1, c2, c3, c4, c5, c6, c7]

end Sys2Proof.Machine
end

