-- ==== Sys2Proof/Laws/Handler.lean ====
section
/-! SUPPORT. What the Management Handler does with a command that it takes at the record's arrival: it runs it past its
checks, and ends it with a status. -/

namespace Sys2Proof.Machine

/-- No entry has a tag that `entryOf` does not find. -/
theorem State.tag_ne_of_entryOf {s : State} {t : Tag} (h : s.entryOf t = none) : ∀ e ∈ s.queue, e.tag ≠ t := by
  simpa [State.entryOf, List.find?_eq_none] using h

/-- A change of a tag that no entry has changes nothing. -/
theorem map_tag_free {t : Tag} {f : QueueEntry → QueueEntry} {q : List QueueEntry} (h : ∀ e ∈ q, e.tag ≠ t) :
    (q.map fun e => if e.tag = t then f e else e) = q := by
  conv_rhs => rw [← List.map_id q]
  exact List.map_congr_left fun e he => by simp [h e he]

/-- A change of the last entry, whose tag no other entry has. -/
theorem map_last {t : Tag} {f : QueueEntry → QueueEntry} {q : List QueueEntry} {e : QueueEntry} (h : ∀ x ∈ q, x.tag ≠ t)
    (he : e.tag = t) : ((q ++ [e]).map fun x => if x.tag = t then f x else x) = q ++ [f e] := by
  rw [List.map_append, map_tag_free h]
  simp [he]

/-- The Handler ends the command whose entry stands last in the queue. -/
theorem State.endManagement_last {m : State} {q : List QueueEntry} {e : QueueEntry} {st : Status}
    (handler : m.handler = some e.tag) (queue : m.queue = q ++ [e]) (free : ∀ x ∈ q, x.tag ≠ e.tag)
    (kept : e.orphan = false) (pipe : m.port.bulkOut = .free) :
    m.endManagement st =
      { m with handler := none, queue := q ++ [{ e with state := .ending, verdict := some ⟨st, .none⟩ }] } := by
  have found : (q ++ [e]).find? (fun x => decide (x.tag = e.tag)) = some e := by
    rw [List.find?_append, List.find?_eq_none.2 (by simpa using free)]
    simp
  have entry : (m.withHandler none).entryOf e.tag = some e := by
    show m.queue.find? _ = _
    rw [queue]; exact found
  simp only [State.endManagement, handler, State.endOrDrop, entry, State.endEntry]
  rw [if_neg (by simp [kept])]
  simp only [State.updateEntry, State.withHandler_queue, queue, map_last free rfl, State.releaseStage,
    State.withQueue_port, State.withHandler_port, pipe]
  rfl

/-- The state in which a taken record stands as the command in progress. -/
theorem State.begin_management {s : State} {t : Tag} {op : Op} {h : RecordHead} {b : List Byte}
    (free : s.entryOf t = none) :
    ((s.enqueue (s.newEntry t op h (some b))).withHandler (some t)).updateEntry t (fun e => { e with state := .active }) =
      { s with queue := s.queue ++ [s.activeEntry t op h b], clock := s.clock + 1, handler := some t } := by
  simp only [State.updateEntry, State.withHandler_queue, State.enqueue, State.aged, State.withClock_queue,
    State.withQueue_queue]
  rw [map_last (tag_ne_of_entryOf free) rfl]
  rfl

/-- A management record that the Handler takes at its arrival leads where its execution leads. -/
theorem State.record_leads {s : State} {op : Op} {h : RecordHead} {t : Tag} (r : s.takesRecord op h t) (i : Instr)
    (b : List Byte) :
    (State.execute { s with queue := s.queue ++ [s.activeEntry t op h b], clock := s.clock + 1, handler := some t }
      (s.newEntry t op h (some b))).leads (s.transfer i fun s => s.acceptManagement op h b) := by
  have tag : recordTag h = some t := by
    have : h.tag.toNat < 16 := by rw [r.tag]; exact t.isLt
    simp only [recordTag, this, dif_pos, Option.some.injEq]
    exact Fin.ext r.tag
  have short : ¬512 < h.paramLength.toNat := by have := r.short; omega
  have taken : s.acceptManagement op h b = s.enqueue (s.newEntry t op h (some b)) := by
    simp [State.acceptManagement, State.takeRecord, tag, r.tagFree, short]
  rw [State.transfer_taken i _ r.pipe, taken]
  have key := State.internal_enqueue (e := s.newEntry t op h (some b)) r.settled r.noCommand r.management rfl
  refine State.leads_of_internal (key.trans ?_)
  simp only [State.takeManagement]
  rw [show (s.newEntry t op h (some b)).tag = t from rfl, State.begin_management r.tagFree]

/-- A management record that runs at once leads where its effect leads. -/
theorem State.management_leads {s : State} {op : Op} {h : RecordHead} {t : Tag} (r : s.runsNow op h t) (i : Instr)
    (b : List Byte) :
    ((s.inProgress t op h b).runManagement op b).leads (s.transfer i fun s => s.acceptManagement op h b) := by
  have key := State.record_leads r.totakesRecord i b
  have run : State.execute { s with queue := s.queue ++ [s.activeEntry t op h b], clock := s.clock + 1, handler := some t }
      (s.newEntry t op h (some b)) = (s.inProgress t op h b).runManagement op b := by
    generalize hm : ({ s with queue := s.queue ++ [s.activeEntry t op h b], clock := s.clock + 1,
                              handler := some t } : State) = m
    have conf : (m.configuring && !op.servedConfiguring) = false := by
      subst hm
      have := r.served
      simp only [State.configuring] at this ⊢
      revert this
      cases op.servedConfiguring <;> simp
    have gate : op.gated = true → m.gateOpen = true := by subst hm; exact r.gate
    have check : m.handlerCheck op h.paramLength.toNat = none := by
      simp only [State.handlerCheck, conf, r.length]
      by_cases g : op.gated = true <;> simp [g, gate]
    have opeq : (s.newEntry t op h (some b)).op = op := rfl
    have heq : (s.newEntry t op h (some b)).head = h := rfl
    have beq : (s.newEntry t op h (some b)).block = some b := rfl
    simp only [State.execute, opeq, heq, beq, check, Option.getD_some]
    congr 1
    subst hm
    by_cases g : op.gated = true <;> by_cases k : s.control.session = true <;>
      simp [g, k, State.restartSession, State.inProgress, State.handledControl, State.withControl]
  rwa [run] at key

/-- The command in progress, last in the queue, ends with a status. -/
theorem State.management_ended {s : State} {op : Op} {h : RecordHead} {t : Tag} (r : s.takesRecord op h t) (b : List Byte)
    (m : State) (st : Status) (queue : m.queue = (s.inProgress t op h b).queue)
    (handler : m.handler = some t) (port : m.port.bulkOut = .free) :
    m.endManagement st =
      { m with handler := none, queue := s.queue ++ [s.endedEntry t op h b st none] } := by
  exact State.endManagement_last (e := s.activeEntry t op h b) handler queue (tag_ne_of_entryOf r.tagFree) rfl port

end Sys2Proof.Machine
end

