-- ==== Sys2Proof/Laws/Targets.lean ====
section
/-! SUPPORT. What a request of an internal erase does to the list of targets (R86, R174, R177): a target that moves on keeps its
place, and the targets that a request adds change the Erase Engine alone. -/

namespace Sys2Proof.Machine

/-- A target that moves on keeps its place in the list. -/
@[simp] theorem advanceTarget_units (u : UnitNo) (a b : TargetStage) (ts : List Target) :
    (advanceTarget u a b ts).map Target.unit = ts.map Target.unit := by
  induction ts with
  | nil => rfl
  | cons t ts ih => unfold advanceTarget; split <;> simp [ih]

/-- A target that moves on changes the Erase Engine alone. -/
theorem State.moveTarget_frame (s : State) (u : UnitNo) (a b : TargetStage) :
    s.moveTarget u a b = s.withErase (s.moveTarget u a b).erase := by
  unfold State.moveTarget
  split <;> rfl

/-- All that adding a request's targets can do: the Erase Engine alone changes; the record holds the units of the merged list, in
its order, and the merged requesters; and where the request skips none of its units it is the merged record itself. -/
structure State.addsTargets (s t : State) (r : Requester) (us : List UnitNo) : Prop where
  frame : t = s.withErase t.erase
  record : ∃ i, t.erase = { s.erase with internal := some i } ∧
    i.targets.map Target.unit = (InternalErase.merge s.erase.internal r us).targets.map Target.unit ∧
    i.requesters = (InternalErase.merge s.erase.internal r us).requesters ∧
    ((∀ u ∈ us, s.skips r u = false) → i = InternalErase.merge s.erase.internal r us)

/-- Moving targets on, one after another, keeps the record's units and requesters. -/
theorem State.moveTargets_spec (a b : TargetStage) (us : List UnitNo) (s : State) (i : InternalErase)
    (h : s.erase.internal = some i) :
    ∃ j, us.foldl (fun s u => s.moveTarget u a b) s = s.withErase { s.erase with internal := some j } ∧
      j.targets.map Target.unit = i.targets.map Target.unit ∧ j.requesters = i.requesters := by
  induction us generalizing s i with
  | nil => exact ⟨i, by rw [← h]; rfl, rfl, rfl⟩
  | cons u us ih =>
    have m : s.moveTarget u a b =
        s.withErase { s.erase with internal := some { i with targets := advanceTarget u a b i.targets } } := by
      unfold State.moveTarget; rw [h]
    obtain ⟨j, hj, ht, hr⟩ := ih (s.moveTarget u a b) { i with targets := advanceTarget u a b i.targets } (by rw [m]; rfl)
    exact ⟨j, by rw [List.foldl_cons, hj, m]; rfl, by rw [ht]; simp, hr⟩

/-- What adding a request's targets can do. -/
theorem State.addTargets_spec (s : State) (r : Requester) (us : List UnitNo) : s.addsTargets (s.addTargets r us) r us := by
  obtain ⟨j, hj, ht, hr⟩ := State.moveTargets_spec .pending .done (s.skippedAmong r us)
    (s.withErase { s.erase with internal := some (InternalErase.merge s.erase.internal r us) }) _ rfl
  refine ⟨by unfold State.addTargets; rw [hj]; rfl, j, by unfold State.addTargets; rw [hj]; rfl, ht, hr, fun h => ?_⟩
  have none : s.skippedAmong r us = [] := by
    simp only [State.skippedAmong, List.filter_eq_nil_iff]
    intro u hu
    simp [h u hu]
  rw [none] at hj
  have := congrArg (fun t => t.erase.internal) hj
  exact (Option.some.inj this).symm

end Sys2Proof.Machine
end

