-- ==== Sys2Proof/Tests/Slice0.lean ====
section
/-! SUPPORT. Tests. The well-formedness smoke; record bytes written out from the layouts of 12_record_formats.md; worked values
of the manual; and, for each statement of Certificates/Slice0/Obligations.lean with hypotheses, one theorem that shows states
and operands which meet them, clause by clause and at the boundary values. -/

namespace Sys2Proof.Tests

open Sys2Proof.Machine

-- One theorem at a time: each is evaluated by the kernel, and all of them at once would ask for many threads.
set_option Elab.async false

/-! ## Well-formedness: one ill-formed command for each check -/

/-- The fields of a record, as a test writes them. -/
def head (tag unit lba count paramLength : Nat) : RecordHead :=
  { tag := BitVec.ofNat 8 tag, unit := BitVec.ofNat 8 unit, lba := BitVec.ofNat 32 lba, count := BitVec.ofNat 16 count,
    paramLength := BitVec.ofNat 16 paramLength }

theorem test_block_of_another_length_ill_formed :
    (Instr.lock (head 1 0 0 0 1) []).wellFormed = false ∧ (Instr.lock (head 1 0 0 0 1) [0x05]).wellFormed = true := by decide +kernel

theorem test_block_beside_a_length_above_512_ill_formed :
    (Instr.status (head 1 0 0 0 513) [0]).wellFormed = false ∧ (Instr.status (head 1 0 0 0 513) []).wellFormed = true := by
  decide +kernel

theorem test_known_op_as_unknown_ill_formed :
    (Instr.unknownOp 0x4D (head 1 0 0 0 0)).wellFormed = false ∧ (Instr.unknownOp 0x4E (head 1 0 0 0 0)).wellFormed = true := by
  decide +kernel

theorem test_record_length_as_other_transfer_ill_formed :
    (Instr.discardedTransfer 32).wellFormed = false ∧ (Instr.discardedTransfer 31).wellFormed = true := by decide +kernel

theorem test_sectors_sent_out_of_1_to_256_ill_formed :
    (Instr.readDataSent 0).wellFormed = false ∧ (Instr.readDataSent 257).wellFormed = false ∧
      (Instr.readDataSent 256).wellFormed = true := by decide +kernel

theorem test_empty_intake_ill_formed :
    (Instr.writeIntakeEnd []).wellFormed = false ∧ (Instr.writeIntakeEnd [0]).wellFormed = true := by decide +kernel

theorem test_reply_of_257_sectors_ill_formed :
    (Instr.mediaCompletion 0 (.ok (List.replicate 257 0))).wellFormed = false ∧
      (Instr.mediaCompletion 0 (.ok (List.replicate 256 0))).wellFormed = true := by decide +kernel

theorem test_presses_of_one_key_twice_ill_formed :
    (Instr.recognisedPress [.key, .key]).wellFormed = false ∧ (Instr.recognisedPress []).wellFormed = false ∧
      (Instr.recognisedPress [.key, .lock]).wellFormed = true := by decide +kernel

theorem test_sample_of_one_channel_twice_ill_formed :
    (Instr.channelSample [(0, 0), (0, 0), (1, 0), (2, 0)]).wellFormed = false ∧
      (Instr.channelSample [(0, 0), (1, 0), (2, 0)]).wellFormed = false ∧
      (Instr.channelSample [(3, 0), (1, 0), (2, 0), (0, 0)]).wellFormed = true := by decide +kernel

/-! ## Records as bytes (R224, R226) -/

/-- Twenty reserved bytes. -/
def zeros (n : Nat) : List Byte := List.replicate n 0

/-- Op 02h, tag 4, unit 2, LBA 1,000 = 3E8h, count 600 = 258h, least significant byte first; flags are not read. -/
theorem test_write_record_bytes :
    transferCommand ([4, 0x02, 2, 0xFF, 0xE8, 0x03, 0, 0, 0x58, 0x02, 0, 0] ++ zeros 20) [] =
      .write (head 4 2 1000 600 0) := by decide +kernel

/-- Op 01h at the last LBA of a unit of 2^32 - 1 sectors, with bytes 12 to 31 not read. -/
theorem test_read_record_bytes :
    transferCommand ([15, 0x01, 7, 0, 0xFE, 0xFF, 0xFF, 0xFF, 1, 0, 0, 0] ++ List.replicate 20 0xAA) [] =
      .read (head 15 7 4294967294 1 0) := by decide +kernel

theorem test_trim_and_sync_record_bytes :
    transferCommand ([0, 0x03, 1, 0, 8, 0, 0, 0, 0xFF, 0xFF, 0, 0] ++ zeros 20) [] = .trim (head 0 1 8 65535 0) ∧
      transferCommand ([3, 0x04, 1, 0, 0, 0, 0, 0, 0, 0, 0, 0] ++ zeros 20) [] = .sync (head 3 1 0 0 0) := by decide +kernel

/-- Op 4Ah with a parameter length of 1 and the tail position 4. -/
theorem test_erase_tail_record_bytes :
    transferCommand ([3, 0x4A, 0, 0, 0, 0, 0, 0, 0, 0, 1, 0] ++ zeros 20) [4] = .eraseTail (head 3 0 0 0 1) [4] := by decide +kernel

theorem test_unknown_op_record_bytes :
    transferCommand ([9, 0x4E, 0, 0, 0, 0, 0, 0, 0, 0, 2, 1] ++ zeros 20) [] = .unknownOp 0x4E (head 9 0 0 0 258) := by decide +kernel

theorem test_transfer_of_31_bytes : transferCommand (zeros 31) [] = .discardedTransfer 31 := by decide +kernel

/-- The op codes of R226, in the order of its table. -/
theorem test_op_codes :
    [0x01, 0x02, 0x03, 0x04, 0x05, 0x40, 0x41, 0x42, 0x43, 0x44, 0x45, 0x46, 0x47, 0x48, 0x49, 0x4A, 0x4B, 0x4C, 0x4D].map
        opOf =
      [some .read, some .write, some .trim, some .sync, some .unitInfo, some .status, some .eventRead, some .unitDefine,
        some .unitDelete, some .grantSet, some .credentialRemove, some .enroll, some .policySet, some .lock,
        some .eraseListWrite, some .eraseTail, some .eraseAbort, some .eraseClear, some .tamperClear] ∧
      opOf 0x00 = none ∧ opOf 0x06 = none ∧ opOf 0x3F = none ∧ opOf 0x4E = none := by decide +kernel

/-! ## Worked values of the manual -/

/-- The worked schedule of the default policy, B 5 and C 320 with Q 3: 5 s for F = 4, and the cap from F = 10 on (R95). -/
theorem test_penalty_schedule :
    [4, 5, 6, 7, 8, 9].map Policy.default.penaltyDelay = [5, 10, 20, 40, 80, 160] ∧
      { Policy.default with attemptLimit := 50 }.penaltyDelay 10 = 320 ∧
      { Policy.default with attemptLimit := 50 }.penaltyDelay 49 = 320 := by decide +kernel

/-- Count 65,535 runs as 256 segments, the last of 255 sectors (R35). -/
theorem test_segments :
    let e : QueueEntry := { State.newEntry State.reset 0 .read (head 0 0 0 65535 0) none with state := .queued }
    e.segments = 256 ∧ e.segmentLength 256 = 255 ∧ e.segmentLength 1 = 256 := by decide +kernel

/-- The ranges that R11 names: LBA equal to the length passes the first comparison and fails the second. -/
theorem test_range_at_the_end_of_a_unit :
    rangeFits 999 1 1000 = true ∧ rangeFits 1000 1 1000 = false ∧ rangeFits 1001 1 1000 = false ∧ rangeFits 0 1000 1000 = true := by
  decide +kernel

/-- The machine right after reset is a blank part to which VBUS is applied (R202). -/
theorem test_reset_is_power_on : State.reset = (State.unpowered Records.blank).powered := by decide +kernel

/-- No word spells a command in the opcode table, and an empty queue idles. -/
theorem test_no_words : decodeTableWord 32 7 = none ∧ (State.reset.withFetchWord 32 7) = State.reset :=
  ⟨rfl, rfl⟩

/-! ## States for the witnesses -/

/-- A digit list that slot 0 of `records` matches. -/
def pin : List Digit := [4, 8, 1, 9, 0, 3]

/-- Unit 0 SECURE with sectors 0 to 999 at generation 3, unit 1 CLEAR with 1,000 to 1,999, and slot 0 ACTIVE. -/
def records : Records :=
  { Records.blank with
    units := Records.blank.units.set 0 (some
        { kind := .secure, base := 0, length := 1000, generation := 3, honorWp := true, idleTimeout := 5,
          lockOnSuspend := true, label := none, marker := none }) |>.set 1 (some
        { kind := .clear, base := 1000, length := 1000, generation := 0, honorWp := false, idleTimeout := 0,
          lockOnSuspend := false, label := none, marker := none }),
    keys := Records.blank.keys.set 0 (some ⟨7⟩),
    creds := Records.blank.creds.set 0
      { state := .active, salt := some 1, verifier := some (verifierOf 1 pin), grants := [⟨0, .readWrite⟩],
        usesLeft := none } }

/-- A part past start-up with the media ready and everything LOCKED; the rail is about to be switched off. -/
def locked : State :=
  { State.unpowered records with
    power := { vbus := true, startUp := .done },
    link := { state := .ready, capacity := some 2000, capacityRead := .idle, resetTimer := none },
    rail := { state := .on, retryCount := 0, rampTimer := none, retryTimer := none, switchOffTimer := some 2000 },
    entry := { (State.unpowered records).entry with state := .idle },
    scanner := { (State.unpowered records).scanner with switchSampled := true },
    tamper := { channels := Vector.replicate 4 Channel.fresh, zeroizeOwed := false, sampling := true },
    store := { array := records, image := records, pendingSet := [], running := none } }

/-- `locked` with unit 0 OPEN by slot 0 READ_WRITE and the admin session open. -/
def live : State :=
  { locked with
    rail := { locked.rail with switchOffTimer := none },
    units := locked.units.set 0
      { UnitRun.fresh with state := .opened, mode := some .readWrite, opener := some 0, idleTimer := some 5 },
    cipher := { locked.cipher with slots := locked.cipher.slots.set 0 ⟨.loaded, some ⟨7⟩⟩ },
    control := { openOrder := [0], session := true, sessionTimer := some 5 } }

/-- An entry of a command of unit 0 in the queue. -/
def entry (t : Tag) (op : Op) (lba count : Nat) (st : EntryState) : QueueEntry :=
  { live.newEntry t op (head t.val 0 lba count 0) none with state := st, mediaStart := some lba }

/-- A slot that runs an operation of a command of unit 0. -/
def slot (t : Tag) (op : MediaOp) (sectors : Nat) (st : SlotStage) : MediaSlot :=
  { origin := .host t, unit := 0, op := op, start := some 0, sectors := sectors, pattern := none, segment := 1, stage := st,
    timeout := if st = .outstanding then some op.timeout else none, data := [], buffer := none }

/-- An erase descriptor of unit 0. -/
def descriptor (m : EraseMethod) (r : Option EraseRange) : Descriptor :=
  { unit := 0, work := { method := m, range := r, passes := [], verify := false }, done := false, outcome := none,
    phase := none, sectorsDone := 0 }

/-- `locked` with the engine RUNNING in WAITING and a descriptor at the current position. -/
def waiting (d : Option Descriptor) : State :=
  { locked with
    erase := { locked.erase with list := locked.erase.list.set 0 d, state := .running, stage := .waiting, tail := 1 } }

/-- `locked` in CONFIGURING. -/
def starting (p : StartUp) : State := { locked with power := { vbus := true, startUp := p } }

/-- A state with an entry in progress. -/
def withEntries (s : State) (es : List QueueEntry) : State := { s with queue := es }

/-- The state after a command has a property. -/
def after (c : Instr) (s : State) (p : State → Bool) : Bool :=
  match exec c s with
  | .next t => p t
  | .fault _ | .refused _ => false

/-- The states of the witnesses are settled. -/
theorem test_states_settled : locked.settled ∧ live.settled ∧ (starting .step2).settled := by
  refine ⟨?_, ?_, ?_⟩ <;> exact Option.isNone_iff_eq_none.1 (by decide +kernel)

/-! ## Witnesses: the machine as a whole -/

theorem witness_StepRunsFrontCommand :
    ({ live with pending := [.writeStart, .busReset] } : State).pending = .writeStart :: [.busReset] ∧ live.pending = [] :=
  ⟨rfl, rfl⟩

theorem witness_OwnEventsKeepFrame : live.leads live.refreshLeds := ⟨0, rfl⟩

theorem witness_OnlyVerdictsOpen : Instr.busReset ≠ .writeCompletion ∧ ∃ t, exec .busReset live = .next t :=
  ⟨by decide, _, rfl⟩

theorem witness_RecordWritesAreAtomic :
    let s : State := { live with store := { live.store with running := some ⟨.policy Policy.default, []⟩ } }
    s.power.vbus = true ∧ s.store.running = some ⟨.policy Policy.default, []⟩ ∧ (∃ t, exec .writeCompletion s = .next t) ∧
      live.store.running = none ∧ (∃ t, exec .powerLoss live = .next t) ∧ ∃ t, exec .powerOn live = .next t :=
  ⟨rfl, rfl, ⟨_, rfl⟩, rfl, ⟨_, rfl⟩, ⟨_, rfl⟩⟩

theorem witness_StepKeepsUnitsFit : live.unitsFit ∧ ∃ t, step live = .next t := by
  refine ⟨⟨fun u => ⟨?_, ?_, ?_, ?_, ?_, ?_, ?_, ?_, ?_⟩, by decide +kernel, by decide +kernel⟩, _, rfl⟩ <;> revert u <;>
    decide +kernel

theorem witness_StepKeepsQueuesFit :
    (withEntries live [entry 0 .read 0 8 .queued, entry 15 .write 0 8 .active]).queuesFit ∧ ∃ t, step live = .next t :=
  ⟨⟨by decide +kernel, by decide +kernel, by decide +kernel, by decide +kernel⟩, _, rfl⟩

theorem witness_StepKeepsMediaFits : locked.mediaFits ∧ ∃ t, step locked = .next t := by
  have none : ∀ n : Fin 4, locked.slots[n] = none := by decide +kernel
  refine ⟨⟨?_, ?_, ?_, ?_, ?_, ?_, ?_⟩, _, rfl⟩
  · intro n m h; rw [none n] at h; cases h
  · intro n m h; rw [none n] at h; cases h
  · refine ⟨?_, ?_, ?_, ?_, ?_, ?_⟩ <;> decide +kernel
  · exact fun _ => ⟨rfl, none⟩
  · decide +kernel
  · decide +kernel
  · decide +kernel

/-- At the bound of each run: 16 digits, a run of 2, and tamper runs of 3. -/
theorem witness_StepKeepsCountsFit :
    let s : State := { live with
      entry := { live.entry with buffer := List.replicate 16 9, first := some (List.replicate 16 9) },
      scanner := { live.scanner with run := Vector.replicate 12 2, switchRun := 2 },
      tamper := { live.tamper with channels := Vector.replicate 4 { Channel.fresh with outRun := 3 } } }
    s.countsFit ∧ ∃ t, step s = .next t := by
  refine ⟨⟨?_, ?_, ?_, ?_, ?_⟩, _, rfl⟩
  · decide +kernel
  · intro f h; cases h; decide +kernel
  · decide +kernel
  · decide +kernel
  · decide +kernel

theorem witness_StepKeepsRecordsFit : locked.recordsFit ∧ ∃ t, step locked = .next t := by
  have policy : Policy.default.fits := by
    refine ⟨?_, ?_, ?_, ?_, ?_, ?_, ?_, ?_, ?_, ?_⟩ <;> (try simp only [ChannelPolicy.fits]) <;> decide +kernel
  have one (d : UnitDef) (h : 8 ≤ d.length ∧ d.generation ≤ 65535 ∧ (d.kind = .clear → d.generation = 0) ∧
      d.idleTimeout ≤ 240) : d.fits := ⟨h.1, h.2.1, h.2.2.1, h.2.2.2⟩
  have all : ∀ id, (records.content id).fits := by
    intro id
    cases id with
    | credential k => exact (by decide +kernel : ∀ k : SlotNo, (records.creds[k].grants.map Grant.unit).Nodup) k
    | unit u =>
      have key : ∀ u : UnitNo, ∀ d, records.units[u] = some d → 8 ≤ d.length ∧ d.generation ≤ 65535 ∧
          (d.kind = .clear → d.generation = 0) ∧ d.idleTimeout ≤ 240 := by
        have : ∀ u : UnitNo, (records.units[u]).all (fun d => decide (8 ≤ d.length ∧ d.generation ≤ 65535 ∧
          (d.kind = .clear → d.generation = 0) ∧ d.idleTimeout ≤ 240)) = true := by decide +kernel
        intro u d h
        have := this u
        rw [h] at this
        exact of_decide_eq_true this
      show (RecordContent.unit u records.units[u]).fits
      cases h : records.units[u] with
      | none => trivial
      | some d => exact one d (key u d h)
    | key u => trivial
    | policy => exact policy
    | attempt => trivial
    | latch => trivial
  refine ⟨⟨all, all, ?_, ?_, ?_⟩, _, rfl⟩
  · intro w h; cases h
  · intro w h; cases h
  · decide +kernel

theorem witness_StepKeepsPersists : locked.persists ∧ ∃ t, step locked = .next t := by
  refine ⟨⟨?_, fun _ _ _ _ => rfl, ?_⟩, _, rfl⟩
  · intro w h; cases h
  · intro w h; cases h

/-! ## Witnesses: records and admission -/

theorem witness_RecordsReadBack :
    (Instr.lock (head 15 0 0 0 1) [0xFF]).wellFormed = true ∧ (encodeRecord (.lock (head 15 0 0 0 1) [0xFF])).isSome = true ∧
      (Instr.unknownOp 0xFF (head 0 0 0 0 1)).wellFormed = true := by decide +kernel

/-- A tag of 16, a tag that is held, and a parameter length of 513. -/
theorem witness_RecordRefusedAtArrival :
    let held := withEntries live [entry 15 .read 0 8 .queued]
    live.power.vbus = true ∧ live.takesNow = true ∧ 16 ≤ (head 16 0 0 1 0).tag.toNat ∧
      held.takesNow = true ∧ (∃ e ∈ held.queue, e.tag.val = (head 15 0 0 1 0).tag.toNat) ∧
      (head 15 0 0 0 513).tag.toNat < 16 ∧ Op.status.isManagement = true ∧ 512 < (head 15 0 0 0 513).paramLength.toNat ∧
      ∀ e ∈ live.queue, e.tag.val ≠ (head 15 0 0 0 513).tag.toNat := by decide +kernel

theorem witness_UnknownRecordsTakeNoEntry : live.power.vbus = true ∧ live.takesNow = true := by decide +kernel

theorem witness_TransfersWaitForThePipe :
    let s : State := { live with port := { live.port with bulkOut := .discarding } }
    s.power.vbus = true ∧ s.takesNow = false ∧ recordCommand .read (head 0 0 0 1 0) [] = .read (head 0 0 0 1 0) := by
  decide +kernel

/-- The last sector of the OPEN unit, and of the CLEAR one. -/
theorem witness_AdmittedCommandIsQueued :
    live.power.vbus = true ∧ live.takesNow = true ∧ Op.write.movesData = true ∧
      live.admission .write (head 15 0 999 1 0) = none ∧ live.admission .read (head 0 1 999 1 0) = none ∧
      live.admission .write (head 0 1 0 1000 0) = none ∧ live.entryOf 15 = none ∧ (live.unitDef 0).isSome = true ∧
      (live.unitDef 1).isSome = true := by decide +kernel

/-- Each step of admission stops one command, in states that meet the steps before it and where a later step would stop it
too: count 0 past the end, one sector too many, units 2 and 8, and steps 5 to 11; and step 1 by start-up and by the link. -/
theorem witness_RefusedCommandEnds :
    let run (r : UnitRun) : State := { live with units := live.units.set 0 r }
    let on : State := { live with scanner := { live.scanner with switchOn := true } }
    let hot : State := { live with
      tamper := { live.tamper with channels := live.tamper.channels.set 2 { Channel.fresh with alarm := true } } }
    let one := head 15 0 999 1 0
    live.power.vbus = true ∧ live.takesNow = true ∧ live.entryOf 15 = none ∧
      live.admission .write (head 15 0 1001 0 0) = some .good ∧ live.admission .read (head 15 0 999 2 0) = some .outOfRange ∧
      live.admission .trim (head 15 2 0 0 0) = some .noUnit ∧ live.admission .read (head 15 8 0 0 0) = some .noUnit ∧
      (run { UnitRun.fresh with state := .erasing, unusable := true }).admission .read one = some .outOfRange ∧
      (run { UnitRun.fresh with state := .erasing }).admission .write one = some .erasing ∧
      (run { UnitRun.fresh with state := .closing }).admission .read one = some .locked ∧
      (run { UnitRun.fresh with state := .opened, mode := some .readOnly }).admission .trim one = some .writeProtected ∧
      locked.takesNow = true ∧ locked.admission .write (head 15 1 0 1 0) = some .locked ∧
      locked.admission .read (head 15 0 0 1 0) = some .locked ∧ on.admission .write one = some .writeProtected ∧
      on.admission .read one = none ∧ hot.admission .read one = some .notReady ∧
      (starting .step6).admission .read (head 15 0 0 0 0) = some .notReady ∧
      ({ live with link := { live.link with state := .absent } } : State).admission .read one = some .notReady := by
  decide +kernel

/-- SYNC on an OPEN unit and on a CLEAR one; on each unit that steps 5 to 7 stop; and with the temperature alarm. -/
theorem witness_AdmittedSyncIsQueued :
    let run (r : UnitRun) : State := { live with units := live.units.set 0 r }
    let hot : State := { live with
      tamper := { live.tamper with channels := live.tamper.channels.set 2 { Channel.fresh with alarm := true } } }
    live.power.vbus = true ∧ live.takesNow = true ∧ live.entryOf 0 = none ∧ live.power.startUp = .done ∧
      live.link.state ≠ .absent ∧ (live.unitRun 0).unusable = false ∧ live.unitState 0 = .opened ∧
      (live.unitRun 1).unusable = false ∧ live.unitState 1 ≠ .erasing ∧ live.isClear 1 = true ∧
      live.temperatureAlarm = false ∧ live.unitDef 2 = none ∧ hot.temperatureAlarm = true ∧ hot.takesNow = true ∧
      (starting .step2).power.startUp ≠ .done ∧
      ((run { UnitRun.fresh with unusable := true }).unitRun 0).unusable = true ∧
      (run { UnitRun.fresh with state := .erasing }).unitState 0 = .erasing ∧
      (run { UnitRun.fresh with state := .closing }).unitState 0 = .closing ∧ locked.unitState 0 = .locked := by
  decide +kernel

theorem witness_UnitInfoServedAtArrival :
    live.power.vbus = true ∧ live.takesNow = true ∧ live.entryOf 0 = none ∧ live.power.startUp = .done ∧
      (head 0 7 0 0 0).unit.toNat = 7 ∧ 8 ≤ (head 0 8 0 0 0).unit.toNat ∧ (starting .step6).takesNow = true ∧
      (starting .step6).power.startUp ≠ .done := by decide +kernel

/-! ## Witnesses: management commands -/

/-- The conditions of a management record that is taken at once, as one decidable conjunction. -/
theorem takesRecord_of {s : State} {op : Op} {h : RecordHead} {t : Tag}
    (c : s.power.vbus = true ∧ s.internal.isNone = true ∧ op.isManagement = true ∧ s.handler.isNone = true ∧
      s.takesNow = true ∧ h.tag.toNat = t.val ∧ (s.entryOf t).isNone = true ∧ h.paramLength.toNat ≤ 512) :
    s.takesRecord op h t :=
  let ⟨a, b, d, e, f, g, i, j⟩ := c
  ⟨a, Option.isNone_iff_eq_none.1 b, d, Option.isNone_iff_eq_none.1 e, f, g, Option.isNone_iff_eq_none.1 i, j⟩

/-- The same for one that passes the Handler's checks as well. -/
theorem runsNow_of {s : State} {op : Op} {h : RecordHead} {t : Tag}
    (c : s.power.vbus = true ∧ s.internal.isNone = true ∧ op.isManagement = true ∧ s.handler.isNone = true ∧
      s.takesNow = true ∧ h.tag.toNat = t.val ∧ (s.entryOf t).isNone = true ∧ h.paramLength.toNat ≤ 512)
    (d : (s.configuring = true → op.servedConfiguring = true) ∧ h.paramLength.toNat = op.paramLength ∧
      (op.gated = true → s.gateOpen = true)) : s.runsNow op h t :=
  { takesRecord_of c with served := d.1, length := d.2.1, gate := d.2.2 }

/-- CONFIGURING, a length of 2 in place of 1, and a gated command without the session on a device that is not FACTORY; and a
command in progress behind which another is QUEUED, whose write ends it. -/
theorem witness_HandlerChecksRefuse :
    let busy : State :=
      { withEntries live [{ entry 15 .policySet 0 0 .active with block := some [] },
          { entry 0 .lock 0 0 .queued with block := some [0], head := head 0 0 0 0 1 }] with
        handler := some 15, store := { live.store with running := some ⟨.policy Policy.default, [.management]⟩ } }
    (busy.power.vbus = true ∧ busy.internal.isNone = true ∧ busy.takesNow = true ∧ busy.entryOf 1 = none ∧
      (busy.entryOf 15).any (fun e => e.op.isManagement && !e.orphan) = true ∧ busy.port.bulkOut = .free ∧
      (busy.queue.map QueueEntry.tag).Nodup ∧
      (busy.entryOf 0).any (fun e => e.op.isManagement && decide (e.state = .queued)) = true) ∧
    ((starting .step2).takesRecord .lock (head 15 0 0 0 1) 15 ∧ (starting .step2).configuring = true) ∧
      (live.takesRecord .lock (head 15 0 0 0 2) 15 ∧ live.configuring = false ∧
        (head 15 0 0 0 2).paramLength.toNat ≠ Op.lock.paramLength) ∧
      ((starting .step2).takesRecord .status (head 15 0 0 0 512) 15 ∧
        (head 15 0 0 0 512).paramLength.toNat ≠ Op.status.paramLength) ∧
      locked.takesRecord .eraseTail (head 15 0 0 0 1) 15 ∧ locked.configuring = false ∧ Op.eraseTail.gated = true ∧
      locked.control.session = false ∧ locked.factory = false :=
  ⟨by decide +kernel, ⟨takesRecord_of (by decide +kernel), by decide +kernel⟩,
    ⟨takesRecord_of (by decide +kernel), by decide +kernel⟩, ⟨takesRecord_of (by decide +kernel), by decide +kernel⟩,
    takesRecord_of (by decide +kernel), by decide +kernel⟩

theorem witness_ReportsAreServed :
    live.runsNow .status (head 15 0 0 0 0) 15 ∧ live.runsNow .eventRead (head 0 0 0 0 0) 0 ∧
      (starting .step2).runsNow .status (head 15 0 0 0 0) 15 :=
  ⟨runsNow_of (by decide +kernel) (by decide +kernel), runsNow_of (by decide +kernel) (by decide +kernel),
    runsNow_of (by decide +kernel) (by decide +kernel)⟩

/-- A label of 16 characters from 20h to 7Eh, and numbers at the top of their fields. -/
theorem witness_DefinitionBlockIsRead :
    (4294967295 < 2 ^ 32 ∧ 255 < 256 ∧ 8 ≤ 8) ∧
      (let label : List Byte := 0x20 :: List.replicate 15 0x7E
       label.length ≤ 16 ∧ ∀ c ∈ label, 32 ≤ c.toNat ∧ c.toNat ≤ 126) := by decide +kernel

/-- One value beyond each limit of R14 in a block that is good otherwise. -/
theorem test_definition_refused_beyond_each_limit :
    let block (unit kind length wp los n c : Nat) : List Byte :=
      [byteOf unit, byteOf kind, 0, 0, 0, 0, byteOf length, 0, 0, 0, byteOf wp, 255, byteOf los, byteOf n, byteOf c] ++ zeros 15
    (defineOf (block 7 1 8 1 1 1 126)).isSome = true ∧ defineOf (block 8 1 8 1 1 1 126) = none ∧
      defineOf (block 7 2 8 1 1 1 126) = none ∧ defineOf (block 7 1 7 1 1 1 126) = none ∧
      defineOf (block 7 1 8 2 1 1 126) = none ∧ defineOf (block 7 1 8 1 2 1 126) = none ∧
      defineOf (block 7 1 8 1 1 17 126) = none ∧ defineOf (block 7 1 8 1 1 1 31) = none ∧
      defineOf (block 7 1 8 1 1 1 127) = none := by decide +kernel

/-- The block that defines a unit of a kind with a base and a length. -/
def define (unit kind base length : Nat) : List Byte :=
  [byteOf unit, byteOf kind] ++ fieldOf 4 base ++ fieldOf 4 length ++ zeros 20

/-- The record that `define` describes. -/
def defined (kind : UnitKind) (base length : Nat) : UnitDef :=
  { kind := kind, base := base, length := length, generation := 0, honorWp := false, idleTimeout := 0,
    lockOnSuspend := false, label := none, marker := none }

/-- `live` on a package of 2,008 sectors. -/
def wide : State := { live with link := { live.link with capacity := some 2008 } }

/-- A new unit of both kinds that ends with the last sector of the package and touches its neighbour, and the redefinition
of a LOCKED unit in its own place. -/
theorem witness_UnitDefineIsAccepted :
    wide.runsNow .unitDefine (head 15 0 0 0 30) 15 ∧ wide.link.state ≠ .absent ∧ wide.link.capacity = some 2008 ∧
      defineOf (define 7 0 2000 8) = some (7, defined .secure 2000 8) ∧
      defineOf (define 7 1 2000 8) = some (7, defined .clear 2000 8) ∧ wide.unitDef 7 = none ∧ 2000 ≤ 2008 - 8 ∧
      (∀ v : UnitNo, v ≠ 7 → (wide.unitDef v).all (fun o => decide (2000 + 8 ≤ o.base ∨ o.base + o.length ≤ 2000)) = true) ∧
      defineOf (define 1 0 1000 8) = some (1, defined .secure 1000 8) ∧ wide.unitState 1 = .locked ∧ wide.marker 1 = none ∧
      wide.writeOutstanding (.unit 1) = false ∧
      ∀ v : UnitNo, v ≠ 1 → (wide.unitDef v).all (fun o => decide (1000 + 8 ≤ o.base ∨ o.base + o.length ≤ 1000)) = true :=
  ⟨runsNow_of (by decide +kernel) (by decide +kernel), by decide +kernel⟩

/-- A part without media, a length of 7, an OPEN unit, a range one sector past the package, and one sector shared. -/
theorem witness_UnitDefineIsRefused :
    let absent : State := { wide with link := { wide.link with state := .absent, capacity := none } }
    absent.runsNow .unitDefine (head 15 0 0 0 30) 15 ∧ absent.link.state = .absent ∧
      wide.runsNow .unitDefine (head 15 0 0 0 30) 15 ∧ defineOf (define 7 0 2000 7) = none ∧
      defineOf (define 0 0 0 8) = some (0, defined .secure 0 8) ∧ wide.unitHeld 0 = true ∧
      defineOf (define 7 0 2001 8) = some (7, defined .secure 2001 8) ∧ wide.unitHeld 7 = false ∧ ¬2001 ≤ 2008 - 8 ∧
      defineOf (define 7 0 1999 8) = some (7, defined .secure 1999 8) ∧ 1999 ≤ 2008 - 8 ∧
      (wide.unitDef 1).any (fun o => decide (1999 < o.base + o.length ∧ o.base < 1999 + 8)) = true :=
  ⟨runsNow_of (by decide +kernel) (by decide +kernel), by decide +kernel,
    runsNow_of (by decide +kernel) (by decide +kernel), by decide +kernel⟩

theorem witness_UnitDeleteActs :
    live.runsNow .unitDelete (head 15 0 0 0 1) 15 ∧ byteAt [8] 0 = 8 ∧ live.unitDef 7 = none ∧ live.unitHeld 0 = true ∧
      (live.unitDef 0).isSome = true ∧ live.unitHeld 1 = false ∧ (live.unitDef 1).isSome = true :=
  ⟨runsNow_of (by decide +kernel) (by decide +kernel), by decide +kernel⟩

/-- Eight grants and none, nine grants and slot 6; the removal of a slot with no enrollment, with one that is not committed,
and with one that is. -/
theorem witness_CredentialCommandsAct :
    let target (committed : Bool) : State := { live with
      entry := { live.entry with target := some ⟨0, none, false⟩, commitPending := committed } }
    live.runsNow .grantSet (head 15 0 0 0 18) 15 ∧
      grantsOf ([5, 8] ++ [0, 0, 1, 1, 2, 0, 3, 1, 4, 0, 5, 1, 6, 0, 7, 1]) = some (5,
        [⟨0, .readOnly⟩, ⟨1, .readWrite⟩, ⟨2, .readOnly⟩, ⟨3, .readWrite⟩, ⟨4, .readOnly⟩, ⟨5, .readWrite⟩, ⟨6, .readOnly⟩,
          ⟨7, .readWrite⟩]) ∧
      grantsOf (0 :: zeros 17) = some (0, []) ∧ grantsOf ([5, 9] ++ zeros 16) = none ∧ grantsOf (6 :: zeros 17) = none ∧
      grantsOf ([0, 1, 8, 0] ++ zeros 14) = none ∧ grantsOf ([0, 1, 7, 2] ++ zeros 14) = none ∧
      grantsOf ([0, 2, 7, 0, 7, 1] ++ zeros 12) = none ∧
      live.runsNow .credentialRemove (head 15 0 0 0 1) 15 ∧ live.entry.target = none ∧
      (target false).runsNow .credentialRemove (head 15 0 0 0 1) 15 ∧
      (target true).runsNow .credentialRemove (head 15 0 0 0 1) 15 :=
  ⟨runsNow_of (by decide +kernel) (by decide +kernel), by decide +kernel, by decide +kernel, by decide +kernel,
    by decide +kernel, by decide +kernel, by decide +kernel, by decide +kernel,
    runsNow_of (by decide +kernel) (by decide +kernel), rfl, runsNow_of (by decide +kernel) (by decide +kernel),
    runsNow_of (by decide +kernel) (by decide +kernel)⟩

/-- Slots 0 and 6, slot 5 with a uses-left value, slots 1 and 5 in IDLE, and a state other than IDLE. -/
theorem witness_EnrollStartsEnrollment :
    let busy : State := { live with entry := { live.entry with state := .penalty } }
    live.runsNow .enroll (head 15 0 0 0 2) 15 ∧ byteAt [0, 0] 0 = 0 ∧ byteAt [6, 0] 0 = 6 ∧
      (byteAt [5, 1] 0 = 5 ∧ byteAt [5, 1] 1 ≠ 0) ∧ byteAt [1, 255] 0 = 1 ∧ (byteAt [5, 0] 0 = 5 ∧ byteAt [5, 0] 1 = 0) ∧
      live.entry.state = .idle ∧ busy.runsNow .enroll (head 15 0 0 0 2) 15 ∧ busy.entry.state ≠ .idle :=
  ⟨runsNow_of (by decide +kernel) (by decide +kernel), by decide +kernel, by decide +kernel, by decide +kernel,
    by decide +kernel, by decide +kernel, rfl, runsNow_of (by decide +kernel) (by decide +kernel), by decide +kernel⟩

/-- Policies at the low and at the high end of every field. -/
theorem witness_PolicyBlockReadsBack :
    let c : Vector ChannelPolicy 4 := Vector.replicate 4 ⟨0, 4095, true⟩
    let low : Policy :=
      { attemptLimit := 4, freeAttempts := 1, replugPoint := 2, baseDelay := 1, cap := 1, minPin := 6, adminIdle := 1,
        threshold := 1, delay := 0, channels := c, action := .lockOnly }
    let high : Policy :=
      { attemptLimit := 50, freeAttempts := 48, replugPoint := 49, baseDelay := 60, cap := 3600, minPin := 12,
        adminIdle := 60, threshold := 32, delay := 255, channels := c, action := .zeroize }
    low.fits ∧ 3 < low.attemptLimit ∧ high.fits ∧ 49 < high.attemptLimit := by
  refine ⟨⟨?_, ?_, ?_, ?_, ?_, ?_, ?_, ?_, ?_, ?_⟩, by decide, ⟨?_, ?_, ?_, ?_, ?_, ?_, ?_, ?_, ?_, ?_⟩, by decide⟩ <;>
    (try simp only [ChannelPolicy.fits]) <;> decide +kernel

/-- A block whose B, C, admin idle timeout, threshold and delay lie beyond their ranges, on a stored threshold of 9, is
accepted with B 1, C 3,600, 60 min, threshold 9 and delay 255; and one value beyond each limit of R108 and R191 is refused. -/
theorem test_policy_clamps_and_refusals :
    let block (l q p f : Nat) (low : Byte) (enable action : Byte) : List Byte :=
      [byteOf l, byteOf q, byteOf p, 0, 0xFF, 0xFF, byteOf f, 61, 0, 255] ++
        [low, 0x0F, 0xFF, 0x0F, enable, 0, 0, 0, 0, 0, 0, 0, 0, 0, 0, 0, 0, 0, 0, 0, action, 0]
    let stored : Policy := { Policy.default with threshold := 9 }
    let off : ChannelPolicy := ⟨0, 0, false⟩
    policyOf stored 3 (block 4 1 3 12 0xFF 1 1) = some
        { attemptLimit := 4, freeAttempts := 1, replugPoint := 3, baseDelay := 1, cap := 3600, minPin := 12, adminIdle := 60,
          threshold := 9, delay := 255, channels := #v[⟨4095, 4095, true⟩, off, off, off], action := .zeroize } ∧
      policyOf stored 4 (block 4 1 3 12 0 0 0) = none ∧ policyOf stored 0 (block 3 1 2 12 0 0 0) = none ∧
      policyOf stored 0 (block 51 1 3 12 0 0 0) = none ∧ policyOf stored 0 (block 4 0 3 12 0 0 0) = none ∧
      policyOf stored 0 (block 4 3 3 12 0 0 0) = none ∧ policyOf stored 0 (block 4 2 2 12 0 0 0) = none ∧
      policyOf stored 0 (block 4 1 4 12 0 0 0) = none ∧ policyOf stored 0 (block 4 1 3 5 0 0 0) = none ∧
      policyOf stored 0 (block 4 1 3 13 0 0 0) = none ∧ policyOf stored 0 (block 4 1 3 12 0 2 0) = none ∧
      policyOf stored 0 (block 4 1 3 12 0 0 2) = none := by decide +kernel

theorem witness_PolicySetActs :
    live.runsNow .policySet (head 15 0 0 0 32) 15 ∧
      policyOf live.store.image.policy live.attempt.failed (zeros 32) = none ∧
      policyOf live.store.image.policy live.attempt.failed Policy.default.bytes = some Policy.default :=
  ⟨runsNow_of (by decide +kernel) (by decide +kernel), by decide +kernel⟩

theorem witness_LockClosesNamedUnits :
    live.unitsFit ∧ live.runsNow .lock (head 15 0 0 0 1) 15 ∧ (byteAt [0x01] 0).testBit 0 = true ∧
      (byteAt [0x80] 0).testBit 0 = false ∧ byteAt [0xFF] 0 = 255 ∧ live.control.session = true ∧ live.entry.target = none ∧
      (let s : State := { live with entry := { live.entry with state := .enrollFirst, target := some ⟨1, none, true⟩ } }
       s.runsNow .lock (head 15 0 0 0 1) 15 ∧ s.entry.target.any (fun g => g.sessionBound) = true ∧
         s.entry.commitPending = false) :=
  ⟨witness_StepKeepsUnitsFit.1, runsNow_of (by decide +kernel) (by decide +kernel), by decide +kernel, by decide +kernel,
    by decide +kernel, rfl, rfl, runsNow_of (by decide +kernel) (by decide +kernel), by decide +kernel⟩

/-- Sixteen entries; a penalty of 1 s and of 65,535 s; M in both link states; a descriptor in each phase and none; units undefined,
OPEN, LOCKED; labels of 1 and of 16 characters and none; and markers with a range, without, and none. -/
theorem witness_FormedRecordLayouts :
    let penalty (d : Nat) : State :=
      { live with attempt := { live.attempt with phase := .penalty, penaltyTimer := some d } }
    let at_ (p : Option ErasePhase) : State := waiting (some { (descriptor .trim (some ⟨0, 8⟩)) with phase := p })
    let labelled (n : Nat) (w : Option EraseWork) : State := { locked with store := { locked.store with
      image := { records with
        units := records.units.set 0
          (some { defined .secure 0 1000 with label := some (List.replicate n 65), marker := w }) } } }
    (List.replicate 16 Event.railFailed).length ≤ 16 ∧ ((penalty 1).attempt.penaltyTimer = some 1 ∧ 0 < 1) ∧
      (penalty 65535).attempt.phase = .penalty ∧ live.attempt.phase ≠ .penalty ∧ live.link.state = .ready ∧
      live.link.capacity.isSome = true ∧ State.reset.link.state = .sizing ∧ live.currentDescriptor = none ∧
      (∀ p ∈ [none, some (.pass 1), some (.pass 4), some .verify], (at_ p).currentDescriptor.map Descriptor.phase = some p) ∧
      live.unitDef 7 = none ∧ (live.unitDef 0).isSome = true ∧ live.unitState 0 = .opened ∧
      (live.unitRun 0).mode = some .readWrite ∧ (live.unitRun 0).opener = some 0 ∧ locked.unitState 0 = .locked ∧
      (∀ n ∈ [1, 16], (((labelled n none).unitDef 0).bind UnitDef.label).map List.length = some n) ∧
      (∀ r ∈ [none, some ⟨0, 8⟩], (labelled 1 (some (descriptor .trim r).work)).marker 0 = some ⟨.trim, r, [], false⟩) := by
  decide +kernel

/-- An OVERWRITE of four passes with verify over the top range; a fifth pass, a method 4, a unit 8, a TRIM with a pass, and an
OVERWRITE with none. -/
theorem test_descriptor_fields_and_refusals :
    let block (unit m n verify : Byte) : List Byte :=
      [31, unit, m, 1, 0xFE, 0xFF, 0xFF, 0xFF, 1, 0, 0, 0, n, 0x00, 0xFF, 0x55, 0xAA, verify]
    descriptorOf (block 7 3 4 1) = some (31,
        { unit := 7, work := ⟨.overwrite, some ⟨4294967294, 1⟩, [0x00, 0xFF, 0x55, 0xAA], true⟩, done := false,
          outcome := none, phase := none, sectorsDone := 0 }) ∧
      descriptorOf (block 7 3 5 1) = none ∧ descriptorOf (block 7 4 0 0) = none ∧ descriptorOf (block 8 2 0 0) = none ∧
      descriptorOf (block 7 2 1 0) = none ∧ descriptorOf (block 7 2 0 1) = none ∧ descriptorOf (block 7 3 0 0) = none := by
  decide +kernel

/-- A position inside the window of a RUNNING engine, the tail position just outside it, and one of an IDLE engine. -/
theorem witness_EraseListWriteActs :
    let d := descriptor .keyReplace none
    let s : State := { live with erase := { live.erase with state := .halted, tail := 2 } }
    live.runsNow .eraseListWrite (head 15 0 0 0 18) 15 ∧ descriptorOf ([31, 0, 1] ++ zeros 15) = some (31, d) ∧
      live.erase.state = .idle ∧ descriptorOf ([32, 0, 1] ++ zeros 15) = none ∧
      s.runsNow .eraseListWrite (head 15 0 0 0 18) 15 ∧ descriptorOf ([1, 0, 1] ++ zeros 15) = some (1, d) ∧
      (1 - s.erase.current).val < (s.erase.tail - s.erase.current).val ∧
      descriptorOf ([2, 0, 1] ++ zeros 15) = some (2, d) ∧
      (s.erase.tail - s.erase.current).val ≤ (2 - s.erase.current).val :=
  ⟨runsNow_of (by decide +kernel) (by decide +kernel), by decide +kernel, rfl, by decide +kernel,
    runsNow_of (by decide +kernel) (by decide +kernel), by decide +kernel⟩

theorem witness_EraseTailActs :
    let s : State := { live with erase := { live.erase with state := .halted, tail := 2 } }
    live.runsNow .eraseTail (head 15 0 0 0 1) 15 ∧ byteAt [32] 0 = 32 ∧ live.erase.state = .idle ∧ live.erase.current = 0 ∧
      byteAt [0] 0 = 0 ∧ byteAt [31] 0 = 31 ∧ s.runsNow .eraseTail (head 15 0 0 0 1) 15 ∧ s.erase.state ≠ .idle ∧
      s.erase.current = 0 :=
  ⟨runsNow_of (by decide +kernel) (by decide +kernel), by decide +kernel, rfl, rfl, by decide +kernel, by decide +kernel,
    runsNow_of (by decide +kernel) (by decide +kernel), by decide +kernel⟩

/-- An IDLE engine, a RUNNING one in MARKING, in WAITING held back by VBUS_LOW, and with a segment presented, and a HALTED one whose next position
is the tail and is not. -/
theorem witness_EraseAbortAndClearAct :
    let list := live.erase.list.set 0 (some (descriptor .keyReplace none))
    let claiming : State :=
      { live with erase := { live.erase with list := list, state := .running, stage := .marking, tail := 1 } }
    let low : State := { live with
      erase := { live.erase with state := .running, stage := .waiting, tail := 1 },
      tamper := { live.tamper with channels := live.tamper.channels.set 0 { Channel.fresh with alarm := true } } }
    let presenting : State := { live with
      erase := { live.erase with list := list, state := .running, stage := .working, segment := .presented, tail := 1 } }
    let halted (tail : Fin 32) : State := { live with erase := { live.erase with state := .halted, tail := tail } }
    presenting.runsNow .eraseAbort (head 15 0 0 0 0) 15 ∧ live.runsNow .eraseAbort (head 15 0 0 0 0) 15 ∧ claiming.runsNow .eraseAbort (head 15 0 0 0 0) 15 ∧
      claiming.erase.stop = .none ∧ low.runsNow .eraseAbort (head 15 0 0 0 0) 15 ∧ low.erase.stage = .waiting ∧
      live.runsNow .eraseClear (head 15 0 0 0 0) 15 ∧ (halted 1).runsNow .eraseClear (head 15 0 0 0 0) 15 ∧
      (halted 1).erase.current + 1 = (halted 1).erase.tail ∧ (halted 2).runsNow .eraseClear (head 15 0 0 0 0) 15 ∧
      (halted 2).erase.current + 1 ≠ (halted 2).erase.tail :=
  ⟨runsNow_of (by decide +kernel) (by decide +kernel), runsNow_of (by decide +kernel) (by decide +kernel),
    runsNow_of (by decide +kernel) (by decide +kernel), rfl,
    runsNow_of (by decide +kernel) (by decide +kernel), rfl, runsNow_of (by decide +kernel) (by decide +kernel),
    runsNow_of (by decide +kernel) (by decide +kernel), by decide +kernel,
    runsNow_of (by decide +kernel) (by decide +kernel), by decide +kernel⟩

/-- The latch clear; set with an erase owed, with the enabled loop still OUT, with it IN, and with the channel disabled. -/
theorem witness_TamperClearActs :
    let policy (on : Bool) : Policy :=
      { Policy.default with channels := Policy.default.channels.set 3 ⟨100, 1024, on⟩ }
    let s (on owed : Bool) (l : Level) : State := { live with
      tamper := { live.tamper with
        channels := live.tamper.channels.set 3 { Channel.fresh with alarm := true, level := l, last := 100 },
        zeroizeOwed := owed },
      store := { live.store with image := { live.store.image with policy := policy on } } }
    let runs (m : State) := m.runsNow .tamperClear (head 15 0 0 0 0) 15
    (runs live ∧ live.latch = false) ∧ (runs (s true true .inRange) ∧ (s true true .inRange).latch = true) ∧
      (runs (s true false .outOfRange) ∧ (s true false .outOfRange).latch = true) ∧
      (runs (s true false .inRange) ∧ ((s true false .inRange).channelPolicy 3).inRange 100 = true) ∧
      runs (s false false .outOfRange) ∧ ((s false false .outOfRange).channelPolicy 3).enabled = false :=
  ⟨⟨runsNow_of (by decide +kernel) (by decide +kernel), by decide +kernel⟩,
    ⟨runsNow_of (by decide +kernel) (by decide +kernel), by decide +kernel⟩,
    ⟨runsNow_of (by decide +kernel) (by decide +kernel), by decide +kernel⟩,
    ⟨runsNow_of (by decide +kernel) (by decide +kernel), by decide +kernel⟩,
    runsNow_of (by decide +kernel) (by decide +kernel), by decide +kernel⟩

/-! ## Witnesses: pipes and media -/

/-- An entry in ENDING with a verdict. -/
def ended (t : Tag) (op : Op) (v : Verdict) : QueueEntry := { entry t op 0 8 .ending with verdict := some v }

/-- A state with a media slot and a read buffer in use. -/
def withSlot (s : State) (n : Fin 4) (m : MediaSlot) : State := { s with slots := s.slots.set n (some m) }
def withBuffer (s : State) (n : Fin 4) (r : ReadBuffer) : State :=
  { s with port := { s.port with readBuffers := s.port.readBuffers.set n (some r) } }

theorem witness_StatusRecordIsSent :
    let s := withBuffer (withEntries live [ended 15 .read ⟨.mediaError, .timeout⟩]) 3 ⟨15, 2, none, 0⟩
    s.power.vbus = true ∧ s.port.standby = false ∧ s.port.refused = none ∧ s.sendingRead = false ∧
      ∀ n : Fin 4, (s.port.readBuffers[n]).all (fun r => decide (r.tag = 15 → r.data = none)) = true := by
  decide +kernel

/-- The first part of a segment, and the last sector of one of which a part has gone. -/
theorem witness_ReadDataIsSent :
    let s (sent : Nat) := withBuffer (withEntries live [entry 15 .read 0 2 .active]) 3 ⟨15, 1, some [7, 8], sent⟩
    (s 0).power.vbus = true ∧ (s 0).port.standby = false ∧ (s 0).port.refused = none ∧ (s 0).sendingRead = false ∧
      0 + 1 ≤ [7, 8].length ∧ 0 < 1 ∧ 1 + 1 ≤ [7, 8].length ∧ (s 1).port.readBuffers[3] = some ⟨15, 1, some [7, 8], 1⟩ ∧
      ∀ j : Fin 4, j ≠ 3 → (s 1).port.readBuffers[j] = none := by decide +kernel

theorem witness_PortTransfers :
    let returned := withEntries live [{ ended 15 .status ⟨.good, .none⟩ with returned := some (zeros 512) }]
    let refused : State := { live with port := { live.port with refused := some ⟨255, .tagInUse, .none, 65535⟩ } }
    let discarding : State := { live with port := { live.port with bulkOut := .discarding } }
    let polled : State := { live with events := ⟨[.railFailed], true, true⟩ }
    returned.port.standby = false ∧ returned.port.refused = none ∧ returned.sendingRead = false ∧
      refused.sendingRead = false ∧ discarding.port.bulkOut = .discarding ∧ polled.events.attention = true := by
  decide +kernel

/-- The last sector of a unit of either kind, as the last segment of its stage and as one before the last. -/
theorem witness_WriteIntakeEnciphers :
    let s (u : Nat) (left : Nat) : State :=
      withSlot { withEntries live [{ entry 15 .write 999 1 .active with head := head 15 u 999 1 0 }] with
        port := { live.port with bulkOut := .writeStage 15 left } } 3
        { slot 15 .write 1 .intake with unit := Fin.ofNat 8 u }
    (s 0 1).power.vbus = true ∧ (s 0 1).port.bulkOut = .writeStage 15 1 ∧ (s 0 257).port.bulkOut = .writeStage 15 257 ∧
      ((s 0 1).entryOf 15).isSome = true ∧ (s 0 1).slots[3] = some (slot 15 .write 1 .intake) ∧
      (∀ k : Fin 4, k ≠ 3 → (s 0 1).slots[k] = none) ∧ ((s 0 1).unitDef 0).any (fun d => decide (d.kind = .secure)) = true ∧
      (s 0 1).cipher.slots[0].key = some ⟨7⟩ ∧ ((s 1 1).unitDef 1).any (fun d => decide (d.kind = .clear)) = true ∧
      [Config.sectorTransform ⟨7⟩ { generation := 3, lba := 999 } 5].length = [(5 : Sector)].length := by decide +kernel

/-- Keys, generations and LBAs that differ, at the ends of their ranges. -/
theorem witness_DecipherUndoesEncipher :
    (⟨7⟩ : CipherKey) ≠ ⟨8⟩ ∧ 0 < 2 ^ 16 ∧ 65535 < 2 ^ 16 ∧ 0 ≠ 65535 ∧ 4294967294 < 2 ^ 32 ∧ 4294967295 < 2 ^ 32 := by decide

/-- Behind a WRITE of sectors 0 to 7 in progress, a READ of sector 7 and a SYNC wait, and a READ of sector 8 is found (R32). -/
theorem test_work_behind_a_write :
    let s (e : QueueEntry) : State := withSlot (withEntries live [{ entry 15 .write 0 8 .active with segmentsIssued := 1 }, e]) 0
      (slot 15 .write 8 .outstanding)
    let found (e : QueueEntry) : Option Tag := ((s e).findWork (s e).bufferAvailable [] (s e).queue).map QueueEntry.tag
    found (entry 0 .read 7 1 .queued) = none ∧ found (entry 0 .sync 0 0 .queued) = none ∧
      found (entry 0 .read 8 1 .queued) = some 0 ∧ found { entry 0 .write 8 512 .active with segmentsIssued := 1 } = some 0 := by
  decide +kernel

/-- A READ that takes a buffer, a WRITE and a TRIM that take none, a SYNC with no start; a command older than a presented erase
segment and one younger; and the operations that wait in the highest slot. -/
theorem witness_DispatcherIssuesAndBegins :
    (∀ op ∈ [Op.read, .write, .trim, .sync],
      let s := withEntries live [entry 15 op 0 (if op = .sync then 0 else 65535) .queued]
      s.power.vbus = true ∧ s.rail.follow s.need = s.rail ∧ s.link.state = .ready ∧ s.rail.state = .on ∧
        s.freeSlot = some 0 ∧ (s.findWork s.bufferAvailable [] s.queue).isSome = true ∧ s.presented = none) ∧
      live.freeBuffer = some 0 ∧
      (∀ old : Bool, ∀ w ∈ [EraseMethod.trim, .overwrite],
        let s : State := { withEntries live [{ entry 15 .read 0 8 .queued with age := if old then 0 else 2 }] with
          erase := { live.erase with
            list := live.erase.list.set 0 (some { descriptor w (some ⟨0, 1000⟩) with phase := some (.pass 1) }),
            state := .running, stage := .working, segment := .presented, tail := 1, workAge := 1 } }
        s.rail.follow s.need = s.rail ∧ s.freeSlot = some 0 ∧ s.presented.isSome = true ∧ (s.unitDef 0).isSome = true ∧
          (s.findWork s.bufferAvailable [] s.queue).any
            (fun e => if old then decide (e.age ≤ s.erase.workAge) else decide (s.erase.workAge < e.age)) = true) ∧
      ∀ op ∈ [MediaOp.read, .write, .trim, .patternWrite, .flush],
        let s := withSlot live 3 (slot 15 op 8 .waiting)
        s.slots[3] = some (slot 15 op 8 .waiting) ∧ s.link.state = .ready ∧ s.rail.state = .on := by decide +kernel

/-- The segment of one sector at the last LBA, whose reply is a plain sector enciphered. -/
theorem witness_ReadCompletionDeciphers :
    let s := withBuffer (withSlot (withEntries live [entry 15 .read 999 1 .active]) 3
      { slot 15 .read 1 .outstanding with buffer := some 2 }) 2 ⟨15, 1, none, 0⟩
    s.power.vbus = true ∧ (s.entryOf 15).isSome = true ∧ s.unitState 0 = .opened ∧ s.cipher.slots[0].key = some ⟨7⟩ ∧
      s.port.bulkOut = .free ∧ [Config.sectorTransform ⟨7⟩ { generation := 3, lba := 999 } 5].length = 1 ∧
      ∀ j (hj : j < 1) (hp : j < 1), Config.sectorTransform ⟨7⟩
        { generation := 3, lba := (head 15 0 999 1 0).lba.toNat + 256 * (1 - 1) + j } [(5 : Sector)][j] =
          [Config.sectorTransform ⟨7⟩ { generation := 3, lba := 999 } 5][j] := by
  refine ⟨by decide +kernel, by decide +kernel, by decide +kernel, by decide +kernel, rfl, rfl, fun j hj _ => ?_⟩
  obtain rfl : j = 0 := by omega
  rfl

/-- A free slot; a WRITE, TRIM or SYNC that fails, with its own stage on the pipe and with another's; a segment of a SECURE
unit that is OPEN which is not the last, and one that is; a READ of a CLEAR unit; a unit of each kind that is claimed; and an
entry that a bus reset left. -/
theorem witness_CompletionsEndCommands :
    let s (op : Op) (b : BulkOut) : State :=
      { withSlot (withEntries live [entry 15 op 0 512 .active, entry 0 .write 512 8 .queued]) 0
          (slot 15 op.mediaOp 256 .outstanding) with
        port := { live.port with bulkOut := b } }
    live.linkSlot 0 = none ∧
      (∀ op ∈ [Op.write, .trim, .sync], (s op .free).slots[0] = some (slot 15 op.mediaOp 256 .outstanding) ∧
        ((s op .free).entryOf 15).any (fun e => decide (e.orphan = false)) = true) ∧
      ((s .write (.writeStage 0 8)).entryOf 0).any (fun e => decide (e.state ≠ .ending)) = true ∧
      (s .write (.writeStage 15 256)).port.bulkOut = .writeStage 15 256 ∧ (s .write .free).unitState 0 = .opened ∧
      (entry 15 .trim 0 512 .active).segments ≤ (slot 15 .trim 512 .outstanding).segment ∧
      (live.unitDef 1).any (fun d => decide (d.kind = .clear)) = true ∧ live.unitState 1 ≠ .erasing ∧
      (∀ st ∈ [UnitState.closing, .erasing],
        ({ live with units := Vector.replicate 8 { UnitRun.fresh with state := st } } : State).unitState 0 ≠ .opened) ∧
      (({ live with units := Vector.replicate 8 { UnitRun.fresh with state := .erasing } } : State).unitState 1 = .erasing) ∧
      ((withEntries live [{ entry 15 .write 0 8 .active with orphan := true }]).entryOf 15).any (·.orphan) = true ∧
      ((s .write .free).entryOf 15).any (fun e => decide (1 < e.segments)) = true := by decide +kernel

/-- A timeout; a reset that its report and its timer end; no reset; and the capacity answers 1, 2^32 - 1, 0 and none. -/
theorem witness_LinkEvents :
    let s := withSlot (withEntries live [entry 15 .sync 0 0 .active]) 3 (slot 15 .flush 0 .outstanding)
    let reset : State := { live with link := { live.link with state := .resetting, resetTimer := some 1 } }
    let sizing : State := { starting .step2 with link := ⟨.sizing, none, .outstanding, none⟩ }
    s.power.vbus = true ∧ s.slots[3] = some (slot 15 .flush 0 .outstanding) ∧
      (s.entryOf 15).any (fun e => decide (e.orphan = false)) = true ∧ (∀ k : Fin 4, k ≠ 3 → s.slots[k] = none) ∧
      reset.link.state = .resetting ∧ reset.link.resetTimer.isSome = true ∧ live.link.state ≠ .resetting ∧
      (1 : BitVec 32) ≠ 0 ∧ (4294967295 : BitVec 32) ≠ 0 ∧ sizing.link.capacityRead = .outstanding ∧
      sizing.power.startUp = .step2 ∧ sizing.power.vbus = true := by decide +kernel

/-- Every rail state, with the retry count on both sides of 2, in and out of the capacity read; the loss of power-good with a
READ, a WRITE and an erase segment outstanding, with nothing outstanding, and with the capacity read outstanding. -/
theorem witness_RailEvents :
    let s (st : RailState) (n : Nat) : State :=
      { live with rail := ⟨st, n, some 1, some 1, some 1⟩ }
    (s .ramping 1).rail.rampTimer.isSome = true ∧ (s .ramping 1).rail.retryCount < 2 ∧
      2 ≤ (s .ramping 2).rail.retryCount ∧ (s .ramping 2).link.capacityRead = .idle ∧
      (s .fault 1).rail.retryTimer.isSome = true ∧ (s .on 0).rail.switchOffTimer.isSome = true ∧
      (let s : State := { starting .step2 with
        rail := ⟨.ramping, 2, some 5, none, none⟩, link := ⟨.sizing, none, .awaitingRail, none⟩ }
      s.link.capacityRead ≠ .idle ∧ s.power.startUp = .step2 ∧ s.rail.rampTimer.isSome = true) ∧
      live.rail.state = .on ∧ live.power.vbus = true ∧ live.link.capacityRead = .idle ∧ (∀ k, live.linkSlot k = none) ∧
      (∀ op ∈ [Op.read, .write, .trim, .sync],
        let s := withSlot (withEntries live [entry 15 op 0 256 .active]) 3 (slot 15 op.mediaOp 256 .outstanding)
        s.slots[3] = some (slot 15 op.mediaOp 256 .outstanding) ∧ s.rail.state = .on ∧
          (s.entryOf 15).any (fun e => decide (e.tag = 15 ∧ e.orphan = false)) = true ∧ (∀ k : Fin 4, k ≠ 3 → s.slots[k] = none) ∧
          s.isSecure 0 = true ∧ s.unitState 0 = .opened) ∧
      (let s : State := { withSlot live 0 { slot 0 .trim 8 .outstanding with origin := .erase } with
        erase := { live.erase with
          list := live.erase.list.set 0 (some { (descriptor .trim (some ⟨0, 8⟩)) with phase := some (.pass 1) }),
          state := .running, stage := .working } }
       s.erase.rerun = none ∧ s.currentDescriptor.any (fun d => decide (d.phase ≠ none)) = true ∧
         (s.linkSlot 0).any (fun m => decide (m.origin = .erase)) = true) ∧
      (let s : State := { starting .step2 with
        rail := ⟨.on, 0, none, none, none⟩, link := ⟨.sizing, none, .outstanding, none⟩ }
       s.rail.state = .on ∧ s.link.capacityRead = .outstanding ∧ s.power.startUp = .step2 ∧ s.power.vbus = true ∧
         ∀ k, s.linkSlot k = none) := by decide +kernel

/-- The power is lost while M is asked for: the link is ABSENT, with no unit unusable, RAIL_FAULT LOST, and F taken over (R54,
R61, R204). -/
theorem test_power_good_lost_during_capacity_read :
    let s : State := { starting .step2 with
      rail := ⟨.on, 0, none, none, none⟩, link := ⟨.sizing, none, .outstanding, none⟩ }
    after .powerGoodLoss s fun t =>
      decide (t.link = ⟨.absent, none, .idle, none⟩ ∧ t.rail.state = .fault ∧ t.events.entries = [.railFault true 0] ∧
        (∀ u, (t.unitRun u).unusable = false) ∧ t.tamper.sampling = true) := by decide +kernel

/-! ## Witnesses: units, keys and records -/

/-- A close finds a WRITE outstanding: the unit is CLOSING with its mode and its slot DRAINING with the key, UNIT_LOCKED names
the opener and the cause, and the QUEUED command behind ends LOCKED; nothing outstanding, and the unit is LOCKED at once with an
EMPTY slot (R42, R70, R71, R141, R154). -/
theorem test_lock_press_closes :
    let busy := withSlot (withEntries live [entry 15 .write 0 8 .active, entry 3 .write 0 8 .queued]) 0
      (slot 15 .write 8 .outstanding)
    (after (.recognisedPress [.lock]) busy fun t =>
      decide (t.unitRun 0 = { busy.unitRun 0 with state := .closing, idleTimer := none } ∧
        t.cipher.slots[0] = ⟨.draining, some ⟨7⟩⟩ ∧ t.events.entries = [.unitLocked 0 (some 0) .lockKey]) &&
        (t.entryOf 3).any fun e => decide (e.verdict = some ⟨.locked, .none⟩)) ∧
      after (.recognisedPress [.lock]) live fun t =>
        decide (t.unitState 0 = .locked ∧ t.cipher.slots[0] = ⟨.empty, none⟩ ∧
          t.events.entries = [.unitLocked 0 (some 0) .lockKey]) := by decide +kernel

/-- An OPEN unit, with a segment outstanding and with nothing, a drained CLOSING one, and a session with no enrollment and with a session-bound one. -/
theorem witness_ClosesTakeEffect :
    let run : UnitRun := { UnitRun.fresh with state := .closing, mode := some .readWrite, opener := some 0 }
    let closing : State := { live with units := live.units.set 0 run }
    let bound : State := { live with entry := { live.entry with target := some ⟨0, none, true⟩ } }
    live.unitsFit ∧ live.unitState 0 = .opened ∧ (live.unitRun 0).idleTimer.isSome = true ∧
      (live.unitRun 0).opener = some 0 ∧ closing.unitState 0 = .closing ∧ closing.inFlight 0 = 0 ∧ closing.queue = [] ∧
      live.control.session = true ∧ live.control.sessionTimer.isSome = true ∧ live.entry.target = none ∧
      bound.entry.commitPending = false ∧ live.inFlight 0 = 0 ∧ (∀ e ∈ live.queue, e.names 0 = false) ∧
      (withSlot live 0 (slot 15 .write 8 .outstanding)).inFlight 0 ≠ 0 :=
  ⟨witness_StepKeepsUnitsFit.1, by decide +kernel⟩

/-- FACTORY; an undefined unit, a CLEAR and an UNUSABLE one; each state of a SECURE unit; and the modes of an OPEN one. -/
theorem witness_GrantsOpenByTable :
    let of (r : UnitRun) : State := { locked with units := locked.units.set 0 r }
    State.reset.factory = true ∧ live.factory = false ∧
      (∃ t, exec (.drained 0) (of { UnitRun.fresh with state := .closing }) = .next t) ∧ live.unitDef 7 = none ∧ live.isClear 1 = true ∧
      ((of { UnitRun.fresh with unusable := true }).unitRun 0).unusable = true ∧
      (locked.unitDef 0).any (fun d => decide (d.kind = .secure ∧ d.marker = none)) = true ∧
      (locked.unitRun 0).unusable = false ∧ locked.unitState 0 = .locked ∧
      (of { UnitRun.fresh with state := .closing }).unitState 0 = .closing ∧
      (of { UnitRun.fresh with state := .erasing }).unitState 0 = .erasing ∧ live.unitState 0 = .opened ∧
      (live.unitRun 0).mode = some .readWrite ∧
      ((of { UnitRun.fresh with state := .opened, mode := some .readOnly }).unitRun 0).mode = some .readOnly := by
  refine ⟨by decide +kernel, by decide +kernel, ⟨_, rfl⟩, ?_⟩
  decide +kernel

/-- Both sides of generation 65,535, on each path, with another unit's request before and after; a target's marker written; a
descriptor's replacement written; and a target's, as the last one, before another, and of a unit targeted again. -/
theorem witness_KeyReplacementIsTaken :
    let d (g : Nat) : UnitDef := { defined .secure 0 1000 with generation := g }
    let s (g : Nat) (path : KeyPath) : State := { locked with
      units := locked.units.set 0 { UnitRun.fresh with state := .erasing },
      cipher := { locked.cipher with requests := [⟨1, path⟩, ⟨0, path⟩, ⟨2, path⟩] },
      erase := { locked.erase with
        list := locked.erase.list.set 0 (some (descriptor .keyReplace none)), state := .running, stage := .working },
      store := { locked.store with image := { records with units := records.units.set 0 (some (d g)) } } }
    let written (w : Waiter) (ts : List Target) : State := { s 65534 .internal with
      cipher := { locked.cipher with requests := [], replacing := [0] },
      erase := { (s 0 .internal).erase with internal := some ⟨ts, [.bruteForce, .zeroize]⟩ },
      attempt := { locked.attempt with brute := .erasing },
      store := { (s 0 .internal).store with running := some ⟨.unit 0 (some (d 1)), [w]⟩ } }
    (s 65534 .descriptor).power.vbus = true ∧
      (s 65534 .descriptor).cipher.requests = [⟨1, .descriptor⟩] ++ ⟨0, .descriptor⟩ :: [⟨2, .descriptor⟩] ∧
      (s 65534 .descriptor).unitDef 0 = some (d 65534) ∧ (s 65535 .internal).unitDef 0 = some (d 65535) ∧
      (s 65535 .descriptor).unitState 0 = .erasing ∧ (s 65535 .descriptor).cipher.slots[0].state = .empty ∧
      0 ∉ (s 65535 .descriptor).cipher.replacing ∧
      (s 65535 .descriptor).currentDescriptor = some (descriptor .keyReplace none) ∧
      (∀ ts ∈ [[(⟨0, .marking⟩ : Target)], [⟨0, .replacing⟩], [⟨0, .replacing⟩, ⟨1, .marking⟩],
          [⟨0, .replacing⟩, ⟨0, .pending⟩]],
        (written (.internalMarker 0) ts).erase.internal.map InternalErase.targets = some ts ∧
          (written (.replacement 0 .internal) ts).erase.rerun = none ∧
          (written (.replacement 0 .internal) ts).unitState 0 = .erasing ∧
          (written (.replacement 0 .descriptor) ts).currentDescriptor = some (descriptor .keyReplace none) ∧
          (written (.replacement 0 .internal) ts).cipher.slots[0].state = .empty) ∧
      (⟨0, .replacing⟩ : Target) ∉ ([] : List Target) ∧ (⟨0, .pending⟩ : Target) ∉ [⟨1, .marking⟩] := by decide +kernel

/-- A set that holds the record and one that does not; a write that may start, and one held back; a write that runs; and the
write that a management command waits for. -/
theorem witness_RecordWritesInOrder :
    let w : WriteRequest := ⟨.policy Policy.default, []⟩
    let s : State := { live with store := { live.store with pendingSet := [w] } }
    let waits : State :=
      { withEntries live [{ ended 15 .policySet ⟨.good, .none⟩ with state := .active, verdict := none }] with
        handler := some 15, store := { live.store with running := some ⟨.policy Policy.default, [.management]⟩ } }
    (RecordContent.policy Policy.default).id = .policy ∧
      (∀ v ∈ [(⟨.attempt ⟨1, 0⟩, [.charge]⟩ : WriteRequest)], v.content.id ≠ .policy) ∧
      s.store.running = none ∧ s.vbusLow = false ∧ live.store.pendingSet = [] ∧
      (waits.entryOf 15).any (fun e => decide (e.orphan = false)) = true ∧ waits.port.bulkOut = .free := by decide +kernel

/-! ## Witnesses: attempts and entry -/

/-- `live` with the KEY held and an entry of some digits. -/
def keyHeld (digits : List Digit) : State := { live with
  scanner := { live.scanner with down := live.scanner.down.set 10 true, held := some .key, holdTimer := some 1 },
  entry := { live.entry with state := .collecting, buffer := digits, interKeyTimer := some 10 } }

/-- `live` in an entry state with some digits. -/
def gathering (st : EntryCtl) (n : Nat) : State :=
  { live with entry := { live.entry with state := st, buffer := List.replicate n 9 } }

/-- A KEY that ends an entry of six digits and of five, with its hold timer run out, and not held; a digit held; and KEY in an
enrollment: the first entry, none, a short one, two that differ, one in use, and one that commits, removed or not. -/
theorem witness_KeyReleaseEndsEntry :
    let enrolling (st : EntryCtl) (first digits : List Digit) (creds : Vector CredRecord 6) : State := { keyHeld digits with
      entry := { (keyHeld digits).entry with state := st, first := some first, target := some ⟨5, none, false⟩ },
      store := { live.store with image := { records with creds := creds } } }
    let late : State := { keyHeld pin with scanner := { (keyHeld pin).scanner with holdTimer := none } }
    let other : State := { keyHeld pin with
      scanner := { (keyHeld pin).scanner with down := live.scanner.down.set 0 true, held := some (.digit 0) } }
    let committed (removed : Bool) : State := { live with
      entry := { live.entry with
        state := .verifying, target := some ⟨5, none, false⟩, commitPending := true, commitRemoved := removed },
      store := { live.store with running := some ⟨.credential 5 CredRecord.blank, [.commit]⟩ } }
    (keyHeld pin).scanner.isDown .key = true ∧ (keyHeld pin).scanner.held = some .key ∧
      (keyHeld pin).scanner.holdTimer.isSome = true ∧
      (keyHeld pin).store.image.policy.minPin ≤ (keyHeld pin).entry.buffer.length ∧
      (keyHeld (pin.drop 1)).entry.buffer.length < (keyHeld (pin.drop 1)).store.image.policy.minPin ∧
      late.scanner.isDown .key = true ∧ late.scanner.holdTimer = none ∧ other.scanner.isDown (.digit 0) = true ∧
      other.scanner.held ≠ some .key ∧ (gathering .idle 0).entry.state ≠ .collecting ∧
      (enrolling .enrollFirst [] pin records.creds).entry.buffer ≠ [] ∧
      (enrolling .enrollConfirm [] [] records.creds).entry.buffer = [] ∧
      (pin.drop 1).length < (enrolling .enrollConfirm (pin.drop 1) pin records.creds).store.image.policy.minPin ∧
      pin.reverse ≠ pin ∧ (enrolling .enrollConfirm pin pin records.creds).isActive 0 = true ∧
      (∀ k, (enrolling .enrollConfirm pin pin Records.blank.creds).isActive k = false) ∧
      (enrolling .enrollConfirm pin pin records.creds).entry.commitPending = false ∧
      ∀ removed, (committed removed).entry.commitPending = true ∧ (committed removed).entry.commitRemoved = removed := by
  decide +kernel

/-- A PIN that an ACTIVE slot holds is in use. -/
theorem witness_pin_in_use : (live.cred 0).matches pin = true := by
  show decide (verifierOf 1 pin = verifierOf 1 pin) = true
  simp

/-- A charged entry whose write runs, with F and the slots. -/
def charged (f : Nat) (creds : Vector CredRecord 6) : State := { live with
  attempt := { live.attempt with failed := f, phase := .charging },
  entry := { live.entry with state := .verifying, buffer := pin },
  store := { live.store with
    image := { records with creds := creds }, running := some ⟨.attempt ⟨f, 0⟩, [.charge]⟩ } }

/-- Slot 0 or 5 of a part whose only PIN it holds matches the PIN. -/
theorem matches_only_slot (k : SlotNo) (hk : k = 0 ∨ k = 5) (f : Nat) (gs : List Grant) (uses : Option Nat) :
    (charged f (Records.blank.creds.set k
      { state := .active, salt := some 1, verifier := some (verifierOf 1 pin), grants := gs, usesLeft := uses })).matchingSlot pin =
      some k := by
  have v : decide (verifierOf 1 pin = verifierOf 1 pin) = true := by simp
  have l : List.finRange 6 = [0, 1, 2, 3, 4, 5] := by decide
  rcases hk with rfl | rfl <;> simp only [State.matchingSlot, l, List.find?]
  · exact (show (match true && decide (verifierOf 1 pin = verifierOf 1 pin) with
      | true => some (0 : SlotNo) | false => _) = some 0 by rw [v]; rfl)
  · exact (show (match (true && decide (verifierOf 1 pin = verifierOf 1 pin)) with
      | true => some (5 : SlotNo) | false => none) = some 5 by rw [v]; rfl)

/-- Units 0, 1 and 3 are SECURE and LOCKED, and unit 3 is unusable. -/
def worn : State :=
  let units := (records.units.set 1 (some (defined .secure 1000 8))).set 3 (some (defined .secure 2000 8))
  { locked with
    units := (locked.units.set 1 UnitRun.fresh).set 3 { UnitRun.fresh with unusable := true },
    store := { locked.store with image := { records with units := units } } }

/-- F on both sides of Q and at L with no slot that matches, with SECURE units and without; a match on ADMIN, on a slot with one
use left, and on DURESS with a SECURE unit named, with none, with an unusable one beside it and with that alone, below L and
at it; the last write of the clearing stage; a penalty with and without
the latch due; and step 6 with F below L, with a delay owed, and at L. -/
theorem witness_VerdictsAct :
    (∀ f ∈ [3, 4, 9, 10], (charged f Records.blank.creds).matchingSlot pin = none ∧
      (charged f Records.blank.creds).attempt.phase = .charging ∧ (charged f Records.blank.creds).power.vbus = true ∧
      (charged f Records.blank.creds).erase.internal = none ∧ (charged f Records.blank.creds).secureUnits = [0]) ∧
      3 ≤ Policy.default.freeAttempts ∧ Policy.default.freeAttempts < 4 ∧ 9 < Policy.default.attemptLimit ∧
      Policy.default.attemptLimit ≤ 10 ∧ State.reset.secureUnits = [] ∧
      (∀ k : SlotNo, k = 0 ∨ k = 5 → ∀ f gs uses, (charged f (Records.blank.creds.set k
        { state := .active, salt := some 1, verifier := some (verifierOf 1 pin), grants := gs,
          usesLeft := uses })).matchingSlot pin = some k) ∧
      (live.secureAmong [0, 1] = [0] ∧ live.secureAmong [1] = [] ∧ ([0, 1] : List UnitNo).Nodup) ∧
      (worn.secureAmong [3, 1] = [3, 1] ∧ worn.secureAmong [3] = [3] ∧ (worn.unitRun 1).unusable = false ∧
        (worn.unitRun 3).unusable = true ∧ worn.heldUnit ≠ some 3 ∧ worn.erase.internal = none) ∧
      (let s : State := { live with
        attempt := { live.attempt with phase := .bruteForce, brute := .clearing },
        store := { live.store with running := some ⟨.attempt ⟨0, 0⟩, [.clearing]⟩ } }
      s.attempt.brute = .clearing ∧ s.power.vbus = true) ∧
      (∀ due : Bool,
        let s : State := { live with attempt := ⟨5, .penalty, some 10, false, due, .none⟩ }
        s.attempt.penaltyTimer.isSome = true ∧ s.attempt.replugDue = due) ∧
      ∀ owed ∈ [0, 5], ∀ f ∈ [9, 10],
        let s : State := { starting .step4Reruns with
          attempt := { locked.attempt with failed := f },
          store := { locked.store with image := { records with attempt := ⟨f, owed⟩ } } }
        s.erase.rerun = none ∧ s.nextMarked = none ∧ s.tamper.zeroizeOwed = false ∧ (∀ u, s.drainDue u = false) ∧
          s.secureUnits ≠ [] ∧ (starting .step6).attempt.phase = .idle := by
  refine ⟨by decide +kernel, by decide, by decide, by decide, by decide, by decide +kernel, ?_, by decide +kernel,
    by decide +kernel, by decide +kernel, by decide +kernel, by decide +kernel⟩
  exact fun k hk f gs uses => matches_only_slot k hk f gs uses

/-- F just above Q and just below L, at the exponents 11, 12 and 47. -/
theorem witness_PenaltyDelayIsCapped :
    let p (q b c : Nat) : Policy :=
      { Policy.default with attemptLimit := 50, freeAttempts := q, replugPoint := 49, baseDelay := b, cap := c }
    ((p 1 60 3600).fits ∧ 1 < 2 ∧ 49 < 50) ∧ 2 - 1 - 1 = 0 ∧ 13 - 1 - 1 = 11 ∧ 14 - 1 - 1 = 12 ∧ 49 - 1 - 1 = 47 := by
  refine ⟨⟨⟨?_, ?_, ?_, ?_, ?_, ?_, ?_, ?_, ?_, ?_⟩, by decide, by decide⟩, by decide⟩ <;>
    (try simp only [ChannelPolicy.fits]) <;> decide +kernel

/-- Every state of the entry, with 15 and with 16 digits; and a standby period with no press yet. -/
theorem witness_DigitsAreCollected :
    ∀ st ∈ [EntryCtl.idle, .collecting, .enrollFirst, .enrollConfirm, .disabled, .verifying, .penalty, .replugWait],
      (gathering st 15).scanner.isDown (.digit 9) = false ∧ (gathering st 15).scanner.held = none ∧
        (gathering st 15).scanner.lockout = false ∧ (gathering st 15).entry.buffer.length < 16 ∧
        16 ≤ (gathering st 16).entry.buffer.length ∧ (gathering st 16).entry.state = st ∧
        (let s : State := { gathering st 0 with port := { live.port with standby := true, remoteWake := true } }
         s.port.standby = true ∧ s.port.pressSeen = false ∧ s.scanner.held = none) := by decide +kernel

/-- KEY becomes held with its timer and delivers nothing; three presses of one sample set lockout; and the first press of a
standby period signals resume, the second does not (R112 to R114, R128). -/
theorem test_key_held_and_three_presses :
    (after (.recognisedPress [.key]) live fun t =>
      decide (t.scanner.held = some .key ∧ t.scanner.holdTimer = some 3 ∧ t.entry = live.entry)) ∧
    (after (.recognisedPress [.digit 1, .key, .lock]) live fun t =>
      decide (t.scanner.held = none ∧ t.scanner.lockout = true ∧ t.units = live.units)) ∧
    ∀ seen, after (.recognisedPress [.digit 1])
      { live with port := { live.port with standby := true, remoteWake := true, pressSeen := seen } } fun t =>
        decide (t.port.pressSeen = true ∧ t.port.resumeSignalled = !seen) := by decide +kernel

/-- LOCK in COLLECTING and in both enrollment states; KEY; one, two and three presses, with none held, while a key is held and in
lockout; the hold timer
in and out of IDLE, in FACTORY, with ADMIN as the opener, with a USER slot, with DURESS and with nothing OPEN; and a switch change. -/
theorem witness_KeysActByState :
    let lock (st : EntryCtl) (g : Option EnrollTarget) : State :=
      { live with entry := { live.entry with state := st, target := g } }
    let held : State := { live with scanner := { live.scanner with held := some .lock } }
    let out : State := { live with scanner := { live.scanner with lockout := true } }
    let long (s : State) (k : SlotNo) : State := { s with
      scanner := { s.scanner with held := some .key, holdTimer := some 1 },
      units := s.units.set 0 { s.unitRun 0 with opener := some k } }
    let user : Records := { records with creds := records.creds.set 1 { records.creds[(0 : Fin 6)] with salt := some 2 } }
    let active (k : SlotNo) : State :=
      long { live with control := { live.control with session := false }, store := { live.store with image := user } } k
    live.unitsFit ∧
      ((lock .collecting none).scanner.isDown .lock = false ∧ (lock .collecting none).scanner.held = none ∧
        (lock .enrollFirst (some ⟨0, none, true⟩)).entry.commitPending = false ∧
        (lock .enrollConfirm (some ⟨0, none, true⟩)).scanner.lockout = false) ∧
      held.scanner.held ≠ none ∧ out.scanner.lockout = true ∧ live.scanner.isDown (.digit 0) = false ∧
      live.scanner.isDown .key = false ∧ live.scanner.lockout = false ∧
      (∀ ps ∈ [[PadKey.key], [.digit 0, .lock], [.digit 0, .key, .lock]],
        ps ≠ [] ∧ ps.Nodup ∧ (∀ p ∈ ps, live.scanner.isDown p = false) ∧ ∀ p ∈ ps, out.scanner.isDown p = false) ∧
      PadKey.digit 0 ≠ .lock ∧ (keyHeld pin).entry.state ≠ .idle ∧
      (long live 0).scanner.holdTimer.isSome = true ∧ (long live 0).entry.state = .idle ∧
      (long State.reset 0).factory = true ∧
      ((long live 0).factory = false ∧ (long live 0).control.session = true ∧
        ∃ u, (long live 0).unitState u = .opened ∧ ((long live 0).unitRun u).opener = some (0 : SlotNo)) ∧
      ((active 1).factory = false ∧ (active 1).control.session = false ∧ (active 1).control.openOrder = [] ++ [0] ∧
        ((active 1).unitRun 0).opener = some 1 ∧ (active 1).isActive 1 = true ∧ (active 4).isActive 4 = false) ∧
      (long locked 0).control.openOrder = [] ∧ live.scanner.switchSampled = true ∧ live.scanner.switchOn ≠ true :=
  ⟨witness_StepKeepsUnitsFit.1, by decide +kernel⟩

/-- The timers in each state they run in, and a display of each pattern at both ends of its phases. -/
theorem witness_EntryAndLightTimersExpire :
    let timed (st : EntryCtl) : State := { live with entry := { live.entry with
      state := st, target := some ⟨5, none, false⟩, interKeyTimer := some 10, window := some 60 } }
    let shows (r : LedRequest) (n : Nat) : State := { live with leds := { live.leds with redDisplay := ⟨some r, n⟩ } }
    (∀ st ∈ [EntryCtl.collecting, .enrollFirst, .enrollConfirm],
      (timed st).entry.interKeyTimer.isSome = true ∧ (timed st).entry.state = st) ∧
      (timed .enrollFirst).entry.window.isSome = true ∧ (timed .enrollFirst).entry.commitPending = false ∧
      live.port.standby = false ∧
      (∀ r ∈ [LedRequest.latch, .attemptWait], (r.pattern = .slow ∨ r.pattern = .fast) ∧
        ((shows r 1).leds.display .red).phase < 2 ∧ ((shows r 1).leds.display .red).shown = some r) ∧
      (LedRequest.failFeedback.pattern = .fail ∧ ((shows .failFeedback 4).leds.display .red).phase < 5) ∧
      ((shows .rest 0).leds.display .red).shown = some .rest := by decide +kernel

/-! ## Witnesses: samples, alarms, erases and power -/

/-- The targets 3 and 1, in list order, close in unit number order (R142, R174). -/
theorem test_targets_close_in_unit_number_order :
    let open3 : UnitRun := { UnitRun.fresh with state := .opened, mode := some .readOnly, opener := some 1 }
    let units := (records.units.set 1 (some (defined .secure 1000 8))).set 3 (some (defined .secure 2000 8))
    let s : State := { live with
      units := (live.units.set 1 open3).set 3 open3,
      store := { live.store with image := { records with units := units } } }
    let t := s.requestInternal .duress [3, 1]
    t.events.entries = [.unitLocked 1 (some 1) .internal, .unitLocked 3 (some 1) .internal] ∧
      (t.erase.internal.map fun i => i.targets.map Target.unit) = some [3, 1] := by decide +kernel

/-- Of the units 3 and 1 DURESS claims 1, which drains at once, and skips 3, which is unusable and keeps its state; ZEROIZE,
requested behind it or alone, claims 3 too; and a DURESS request that follows ZEROIZE leaves 3 claimed (R86, R174, R175, R177;
notes/assumptions/30.md). -/
theorem test_duress_skips_unusable_target :
    let s := worn
    let targets (t : State) : Option (List (UnitNo × TargetStage)) :=
      t.erase.internal.map fun i => i.targets.map fun x => (x.unit, x.stage)
    let d := s.requestInternal .duress [3, 1]
    let z := s.requestInternal .zeroize [1, 3]
    (targets d = some [(3, .done), (1, .marking)] ∧ d.unitState 3 = .locked ∧ d.unitState 1 = .erasing) ∧
      (s.requestInternal .duress [3]).erase.internal = none ∧
      targets (d.requestInternal .zeroize [1, 3]) = some [(1, .marking), (3, .marking)] ∧
      (targets z = some [(1, .marking), (3, .marking)] ∧ z.unitState 3 = .erasing) ∧
      targets (z.requestInternal .duress [3, 1]) = targets z := by decide +kernel

/-- An erase claims an OPEN unit with a WRITE outstanding: the unit is CLOSING, and a command that arrives is refused LOCKED, not
ERASING (R27, R30, R144; notes/assumptions/33.md). -/
theorem test_claimed_closing_unit_refuses_locked :
    let busy := withSlot (withEntries live [entry 15 .write 0 8 .active]) 0 (slot 15 .write 8 .outstanding)
    let s := busy.claimUnit .erase 0
    s.unitState 0 = .closing ∧ (s.unitRun 0).claimPending = true ∧ s.admission .read (head 1 0 0 8 0) = some .locked ∧
      s.syncAdmission (head 1 0 0 0 0) = some .locked := by decide +kernel

/-- Runs of 1 and 2 in either direction; a press, a release, both, two presses and a switch change recognised; and a sample of
the four channels whose runs are 2, at its thresholds and one beyond. -/
theorem witness_SamplesAreDebounced :
    let keys (n : Nat) (d : Bool) : State := { live with
      scanner := { live.scanner with down := live.scanner.down.set 0 d, run := Vector.replicate 12 n, switchRun := n } }
    let fresh : State := { live with scanner := { live.scanner with switchSampled := false } }
    let channel (k : Channel) : State := { live with tamper := { live.tamper with channels := Vector.replicate 4 k } }
    let trip : Policy := { Policy.default with channels := Policy.default.channels.set 3 ⟨100, 1024, true⟩ }
    let loop (k : Channel) : State :=
      { channel k with store := { live.store with image := { records with policy := trip } } }
    let turned (s : State) (sample : BitVec 12) (down : Bool) : List PadKey := allKeys.filter fun q =>
      decide (sample.getLsbD (padIndex q).val = down) && decide (s.scanner.isDown q ≠ down) &&
        decide (2 ≤ s.scanner.run[padIndex q])
    (keys 1 false).scanner.run[(0 : Fin 12)] < 2 ∧ 2 ≤ (keys 2 false).scanner.run[(0 : Fin 12)] ∧
      (turned (keys 2 false) 2 true = [.digit 1] ∧ turned (keys 2 false) 2 false = []) ∧
      (turned (keys 2 true) 0 true = [] ∧ turned (keys 2 true) 0 false = [.digit 0]) ∧
      (turned (keys 2 true) 0xC00 true = [.key, .lock] ∧ turned (keys 2 true) 0xC00 false = [.digit 0]) ∧
      (turned (keys 1 true) 0xC00 true = [] ∧ turned (keys 1 true) 0xC00 false = []) ∧
      (keys 2 true).scanner.lockout = false ∧ fresh.scanner.switchSampled = false ∧ (keys 1 true).scanner.switchRun < 2 ∧
      2 ≤ (keys 2 true).scanner.switchRun ∧ (keys 2 true).scanner.switchOn = false ∧
      (keys 2 true).scanner.switchSampled = true ∧ live.tamper.sampling = true ∧
      (Instr.channelSample [(0, 2150), (1, 2751), (2, 4095), (3, 99)]).wellFormed = true ∧
      (State.unpowered records).tamper.sampling = false ∧ (live.channelPolicy 0).enabled = true ∧
      (live.channelPolicy 3).enabled = false ∧ (live.channelPolicy 0).inRange 2150 = true ∧
      (live.channelPolicy 0).inRange 2750 = true ∧ (live.channelPolicy 0).inRange 2149 = false ∧
      (live.channelPolicy 0).inRange 2751 = false ∧ ((channel { Channel.fresh with outRun := 2 }).channel 0).outRun = 2 ∧
      ((channel { Channel.fresh with level := .outOfRange, inRun := 2 }).channel 2).inRun = 2 ∧
      ((loop Channel.fresh).channelPolicy 3).enabled = true ∧ ((loop Channel.fresh).channelPolicy 3).inRange 99 = false ∧
      ((loop Channel.fresh).channelPolicy 3).inRange 100 = true ∧
      ((loop { Channel.fresh with outRun := 2 }).channel 3).outRun = 2 := by decide +kernel

/-- A trip closes the session, so a TAMPER CLEAR taken after it is DENIED on a READY device, and INVALID on a FACTORY one, which
needs no session (R153, R187, R190, R192). -/
theorem test_tamper_clear_after_trip :
    let policy : Policy := { Policy.default with channels := Policy.default.channels.set 3 ⟨100, 1024, true⟩ }
    let guarded (s : State) : State :=
      { s with tamper := { s.tamper with sampling := true }, power := { vbus := true, startUp := .done },
               store := { s.store with image := { s.store.image with policy := policy } } }
    let answers (s : State) (st : Status) : Bool := after (.enclosureTrip 2048) (guarded s) fun t =>
      !t.control.session && after (.tamperClear (head 15 0 0 0 0) []) t fun x =>
        decide ((x.entryOf 15).map QueueEntry.verdict = some (some ⟨st, .none⟩))
    live.control.session = true ∧ answers live .denied ∧ State.reset.factory = true ∧ answers State.reset .invalid := by
  decide +kernel

/-- Each alarm raised and cleared, with an enrollment under way and without; and the enclosure channel under each action, at each
stage of start-up that matters, with a session-bound enrollment and without. -/
theorem witness_AlarmsAct :
    let alarmed : State := { live with tamper := { live.tamper with
      channels := Vector.replicate 4 { Channel.fresh with level := .outOfRange, alarm := true } } }
    let policy (a : EnclosureAction) : Policy :=
      { Policy.default with channels := Policy.default.channels.set 3 ⟨100, 1024, true⟩, action := a }
    let guarded (s : State) (a : EnclosureAction) : State :=
      { s with store := { s.store with image := { s.store.image with policy := policy a } } }
    live.unitsFit ∧
      (∀ c : Fin 3, (live.channelPolicy c.castSucc).enabled = true ∧ (live.channel c.castSucc).level = .inRange ∧
        (live.channelPolicy c.castSucc).inRange 4095 = false ∧ (alarmed.channel c.castSucc).level = .outOfRange ∧
        (alarmed.channel c.castSucc).alarm = true) ∧
      ((live.channelPolicy 0).inRange 2150 = true ∧ (live.channelPolicy 1).inRange 2600 = true ∧
        (live.channelPolicy 2).inRange 384 = true) ∧
      (∀ a ∈ [EnclosureAction.lockOnly, .zeroize], ((guarded live a).channelPolicy 3).enabled = true ∧
        ((guarded live a).channelPolicy 3).inRange 1025 = false ∧ ((guarded alarmed a).channelPolicy 3).inRange 1024 = true ∧
        ((guarded live a).channel 3).level = .inRange ∧ ((guarded alarmed a).channel 3).level = .outOfRange) ∧
      (guarded live .zeroize).isSecure 0 = true ∧ live.erase.internal = none ∧
      (guarded (starting .step2) .zeroize).power.startUp = .step2 ∧ (starting .step4Reruns).tamper.sampling = true ∧
      (guarded live .zeroize).heldUnit = none ∧ live.control.session = true ∧ live.entry.target = none ∧
      (let s : State :=
        { live with entry := { live.entry with state := .enrollFirst, target := some ⟨1, none, true⟩ } }
       s.entry.target.any (fun g => g.sessionBound) = true ∧ s.entry.commitPending = false) :=
  ⟨witness_StepKeepsUnitsFit.1, by decide +kernel⟩

/-- An erase descriptor of a method, unit and range. -/
def erases (m : EraseMethod) (u : UnitNo) (r : Option EraseRange) : Descriptor :=
  { descriptor m r with unit := u }

/-- Each outcome of the checks, at the last sector and one beyond it; a kept unit; a descriptor that passes; the progress
delay; the reruns of a marker of each method, of an UNUSABLE unit of each kind; and an owed erase. -/
theorem witness_EraseEngineEvents :
    let kept : State := { waiting none with
      erase := { (waiting none).erase with kept := some 0 },
      units := locked.units.set 0 { UnitRun.fresh with state := .erasing } }
    let delayed : State := { live with erase := { live.erase with progress := 1, delayTimer := some 1 } }
    let marked (u : UnitNo) (m : EraseMethod) (bad : Bool) : State := { starting .step4Reruns with
      units := locked.units.set u { UnitRun.fresh with state := .erasing, unusable := bad },
      store := { locked.store with
        image := { records with
          units := records.units.set u
            ((records.units[u]).map fun d => { d with marker := some (descriptor m none).work }) } } }
    let owed : State := { starting .step4Reruns with tamper := { locked.tamper with zeroizeOwed := true } }
    ((waiting none).startDue = true ∧ (waiting none).currentDescriptor = none ∧ (waiting none).erase.kept = none) ∧
      (kept.startDue = true ∧ kept.unitState 0 = .erasing ∧ kept.startCheck = some .stale) ∧
      (waiting (some { descriptor .trim none with done := true })).startDue = true ∧
      ((waiting (some (erases .trim 7 none))).unitDef 7 = none ∧
        (waiting (some (erases .keyReplace 1 none))).isClear 1 = true ∧
        (waiting (some (erases .overwrite 0 none))).startDue = true) ∧
      ((waiting (some (erases .trim 0 (some ⟨1000, 0⟩)))).startCheck = some .zeroLength ∧
        (waiting (some (erases .trim 0 (some ⟨999, 2⟩)))).startCheck = some .outOfRange ∧
        (waiting (some (erases .trim 0 (some ⟨999, 1⟩)))).startCheck = none ∧
        (waiting (some (erases .keyReplace 0 none))).startCheck = none) ∧
      delayed.erase.delayTimer.isSome = true ∧
      (∀ m ∈ [EraseMethod.keyReplace, .trim, .overwrite],
        (marked 0 m false).unitState 0 = .erasing ∧ ((marked 0 m false).marker 0).isSome = true ∧
          (marked 0 m false).erase.rerun = none) ∧
      ((marked 0 .trim true).isSecure 0 = true ∧ ((marked 0 .trim true).unitRun 0).unusable = true ∧
        (marked 1 .trim true).isClear 1 = true ∧ ((marked 1 .trim true).unitRun 1).unusable = true ∧
        (marked 1 .trim true).unitState 0 ≠ .erasing) ∧
      owed.power.startUp = .step4Reruns ∧ (∀ u, owed.unitState u ≠ .erasing) ∧ owed.isSecure 0 = true := by decide +kernel

/-- `live` with unit 0 ERASING under a descriptor in a stage, with a phase and the sectors done, a stop request or none, and the
segment outstanding in the highest slot. -/
def works (d : Descriptor) (st : EngineStage) (p : Option ErasePhase) (done : Nat) (stop : StopRequest) (op : MediaOp) : State :=
  withSlot { locked with
    units := locked.units.set 0 { UnitRun.fresh with state := .erasing },
    erase := { locked.erase with
      list := locked.erase.list.set 0 (some { d with phase := p, sectorsDone := done }), state := .running, stage := st,
      stop := stop, tail := 2 } } 3
    { slot 0 op 8 .outstanding with origin := .erase }

/-- A claim drained of an ERASING and of a CLOSING unit, by the descriptor and by a target; a marker written; and segments of each
kind of phase, one short of the range and at its end, with and without a stop request, of a descriptor and of a rerun. -/
theorem witness_EraseStages :
    let w : EraseWork := ⟨.overwrite, some ⟨992, 8⟩, [0x00, 0xFF], true⟩
    let d : Descriptor := { descriptor .overwrite none with work := w }
    let rerun (s : State) (st : RerunStage) : State := { s with
      erase := { s.erase with rerun := some ⟨0, w, .verify, 0, st⟩, stage := .none } }
    let closing (s : State) : State :=
      { s with units := s.units.set 0 { UnitRun.fresh with state := .closing, claimPending := true } }
    let targets (s : State) : State :=
      { s with erase := { s.erase with stage := .none, internal := some ⟨[⟨1, .done⟩, ⟨0, .claiming⟩], [.duress]⟩ } }
    (∀ stop ∈ [StopRequest.none, .aborted, .preempted], (works d .claiming (some (.pass 1)) 0 stop .trim).drainDue 0 = true ∧
      (closing (works d .claiming (some (.pass 1)) 0 stop .trim)).drainDue 0 = true ∧
      (works d .marking (some (.pass 1)) 0 stop .trim).currentDescriptor.isSome = true) ∧
      (targets (works d .claiming none 0 .none .trim)).drainDue 0 = true ∧
      (targets (works d .claiming none 0 .none .trim)).claimedUnit ≠ some 0 ∧
      (∀ p ∈ [ErasePhase.pass 1, .pass 2, .verify], ∀ op ∈ [MediaOp.trim, .patternWrite, .read],
        (works d .working (some p) 0 .none op).linkSlot 3 = some { slot 0 op 8 .outstanding with origin := .erase } ∧
          (works d .working (some p) 0 .none op).eraseJob = some ⟨0, w, p, 0⟩) ∧
      (0 + 8 ≥ w.count ∧ ¬ 0 + 7 ≥ w.count) ∧ w.passes.getLast? = some 0xFF ∧ (0 : Sector) ≠ patternSector 0xFF ∧
      (let s := works d .working (some .verify) 0 .none .read
       s.erase.current + 1 ≠ s.erase.tail ∧ s.erase.list[s.erase.current + 1] = none) ∧
      ((rerun (works d .working none 0 .none .read) .working).eraseJob = some ⟨0, w, .verify, 0⟩ ∧
        (rerun (works d .working none 0 .none .read) .replacing).erase.rerun.isSome = true ∧
        (rerun (works d .working none 0 .none .read) .clearing).unitState 0 = .erasing) := by
  decide +kernel

/-- Standby off and on, an OPEN unit with lock on suspend and one without; and, for a bus reset, an ACTIVE entry whose operation is
outstanding, one whose management command is in progress, an erase segment, and an ACTIVE entry with neither. -/
theorem witness_PowerAndBusAct :
    let standby : State := { live with port := { live.port with standby := true } }
    let units := records.units.set 0 (some { defined .secure 0 1000 with lockOnSuspend := false })
    let stays : State := { live with store := { live.store with image := { records with units := units } } }
    live.unitsFit ∧ live.power.vbus = true ∧ live.port.standby = false ∧ live.unitState 0 = .opened ∧
      (live.unitDef 0).any (fun d => d.lockOnSuspend) = true ∧ standby.port.standby = true ∧
      (stays.unitDef 0).any (fun d => !d.lockOnSuspend) = true ∧
      (let s : State := { withSlot (withSlot (withEntries live [entry 15 .write 0 512 .active, entry 2 .policySet 0 0 .active,
          entry 3 .read 0 512 .active]) 3 (slot 15 .write 256 .outstanding)) 0
          { slot 0 .trim 8 .outstanding with origin := .erase } with handler := some 2 }
       s.slots[3] = some (slot 15 .write 256 .outstanding) ∧ (s.entryOf 15).any (fun e => decide (e.state = .active)) = true ∧
         (s.entryOf 2).any (fun e => decide (e.state = .active)) = true ∧ s.handler = some 2 ∧
         s.slots[0] = some { slot 0 .trim 8 .outstanding with origin := .erase } ∧ s.hasOutstanding 3 = false) :=
  ⟨witness_StepKeepsUnitsFit.1, by decide +kernel⟩

/-- A bus reset keeps the entry whose operation is outstanding, to be dropped at its completion, and no other (R45, R46). -/
theorem test_bus_reset_keeps_outstanding_entry :
    let s := withSlot (withEntries live [entry 15 .write 0 512 .active, entry 3 .read 0 512 .queued]) 3
      (slot 15 .write 256 .outstanding)
    after .busReset s fun t =>
      decide (t.queue = [{ entry 15 .write 0 512 .active with orphan := true }] ∧ t.slots[3] = s.slots[3]) := by
  decide +kernel

end Sys2Proof.Tests
end

section
/-! What a step can do to the units, the key slots, Unit Control and the Configuration Store, as a chain of single moves
(`State.Moves`): one constructor for each move, one lemma for each operation of the model, and `step_moves` for a whole
step. An invariant of these four blocks is then proved move by move. -/

namespace Sys2Proof.Machine

/-! ## The moves -/

/-- The state that a start of a close gives an OPEN unit, with its claim pending as `claim` says (R141, R144). -/
def State.closing (s : State) (u : UnitNo) (c : CloseCause) (claim : Bool) : State :=
  (s.setUnit u { s.unitRun u with claimPending := claim }).startClose u c

/-- A LOCKED unit that an erase claims is ERASING (R144). -/
def State.erasing (s : State) (u : UnitNo) : State :=
  s.setUnit u { s.unitRun u with state := .erasing, mode := none, opener := none }

/-- A key replacement in the image: a new key, and the generation raised (R78). -/
def State.rekeyed (s : State) (u : UnitNo) (k : CipherKey) : State :=
  let s1 := s.setKey u (some k)
  s1.setUnitDef u ((s1.unitDef u).map fun d => { d with generation := raised d.generation })

/-- The admin session set open or closed, with its timer (R140, R151, R152). -/
def State.withSession (s : State) (session : Bool) (timer : Option Nat) : State :=
  s.withControl { s.control with session := session, sessionTimer := timer }

/-- A definition or a deletion in the image, with the unit's key (R16, R18). -/
def State.redefined (s : State) (u : UnitNo) (d : Option UnitDef) (k : Option CipherKey) : State :=
  (s.putUnit u d).setKey u k

/-- The array takes the content of the write that ran (R196, R199). -/
def State.stored (s : State) (w : WriteRequest) : State :=
  s.withStore { s.store with array := s.store.array.write w.content, running := none }

/-- `s` is `r` after some moves, among them openings of a unit or of the session only where `o` allows them. A move's
premises are what the model checks before it, in the state it acts on. -/
inductive State.Moves (r : State) (o : Prop) : State → Prop
  | refl : State.Moves r o r
  | other {s t : State} (h : State.Moves r o s) (units : t.units = s.units) (slots : t.cipher.slots = s.cipher.slots)
      (control : t.control = s.control) (store : t.store = s.store) : State.Moves r o t
  | closing {s : State} (h : State.Moves r o s) {u : UnitNo} (c : CloseCause) (claim : Bool)
      (opened : s.unitState u = .opened) : State.Moves r o (s.closing u c claim)
  | claimClosing {s : State} (h : State.Moves r o s) {u : UnitNo} (closing : s.unitState u = .closing) :
      State.Moves r o (s.setUnit u { s.unitRun u with claimPending := true })
  | erasing {s : State} (h : State.Moves r o s) {u : UnitNo} (defined : s.unitDef u ≠ none)
      (locked : s.unitState u = .locked) : State.Moves r o (s.erasing u)
  | endClose {s : State} (h : State.Moves r o s) (u : UnitNo) : State.Moves r o (s.endClose u)
  | unlockErasing {s : State} (h : State.Moves r o s) {u : UnitNo} (erasing : s.unitState u = .erasing) :
      State.Moves r o (s.unlockErasing u)
  | openUnit {s : State} (h : State.Moves r o s) (allowed : o) (k : SlotNo) {d : UnitDef} {u : UnitNo} (m : Mode)
      (defined : s.unitDef u = some d) (secure : d.kind = .secure) (locked : s.unitState u = .locked) :
      State.Moves r o (s.openUnit k d u m)
  | widenUnit {s : State} (h : State.Moves r o s) (k : SlotNo) (d : UnitDef) {u : UnitNo} (m : Mode)
      (opened : s.unitState u = .opened) : State.Moves r o (s.widenUnit k d u m)
  | idleTimer {s : State} (h : State.Moves r o s) {u : UnitNo} (n : Option Nat) (opened : s.unitState u = .opened) :
      State.Moves r o (s.setUnit u { s.unitRun u with idleTimer := n })
  | capacityCheck {s : State} (h : State.Moves r o s) (m : Option Nat) : State.Moves r o (s.capacityCheck m)
  | session {s : State} (h : State.Moves r o s) (b : Bool) {n : Option Nat} (timer : n.isSome = b)
      (allowed : b = true → s.control.session = true ∨ o) : State.Moves r o (s.withSession b n)
  | powered {s : State} (h : State.Moves r o s) : State.Moves r o s.powered
  | unpowered {s : State} (h : State.Moves r o s) : State.Moves r o s.unpoweredOf
  | marker {s : State} (h : State.Moves r o s) (u : UnitNo) (w : Option EraseWork) : State.Moves r o (s.setMarker u w)
  | rekeyed {s : State} (h : State.Moves r o s) {u : UnitNo} (k : CipherKey) (secure : s.isSecure u = true) :
      State.Moves r o (s.rekeyed u k)
  | defined {s : State} (h : State.Moves r o s) {u : UnitNo} {d : UnitDef} {k : Option CipherKey} (fits : d.fits)
      (free : s.unitHeld u = false) (key : d.kind = .clear → k = none) : State.Moves r o (s.redefined u (some d) k)
  | deleted {s : State} (h : State.Moves r o s) {u : UnitNo} (free : s.unitHeld u = false) :
      State.Moves r o (s.redefined u none none)
  | credential {s : State} (h : State.Moves r o s) (k : SlotNo) {c : CredRecord}
      (fits : c.fits ∨ c.grants = (s.cred k).grants) : State.Moves r o (s.setCred k c)
  | policy {s : State} (h : State.Moves r o s) {f : Nat} {b : List Byte} {p : Policy}
      (read : policyOf s.store.image.policy f b = some p) : State.Moves r o (s.setPolicy p)
  | attempt {s : State} (h : State.Moves r o s) (a : AttemptRecord) : State.Moves r o (s.setAttemptRecord a)
  | latch {s : State} (h : State.Moves r o s) (l : LatchRecord) : State.Moves r o (s.setLatchRecord l)
  | request {s : State} (h : State.Moves r o s) (id : RecordId) (ws : List Waiter) : State.Moves r o (s.requestWrite id ws)
  | startWrite {s : State} (h : State.Moves r o s) : State.Moves r o s.startWrite
  | stored {s : State} (h : State.Moves r o s) {w : WriteRequest} (running : s.store.running = some w) :
      State.Moves r o (s.stored w)

namespace State.Moves

variable {o : Prop} {r s : State}

/-! ## Branches and folds -/

/-- Both branches of a choice are moves. -/
theorem ite {c : Prop} [Decidable c] {x y : State} (a : r.Moves o x) (b : r.Moves o y) :
    r.Moves o (if c then x else y) := by
  split <;> assumption

/-- Both branches of a choice are moves, each by what it has been chosen for. -/
theorem iteOf {c : Prop} [Decidable c] {x y : State} (a : c → r.Moves o x) (b : ¬c → r.Moves o y) :
    r.Moves o (if c then x else y) := by
  split
  · exact a ‹_›
  · exact b ‹_›

theorem foldl {α : Type} {f : State → α → State} (step : ∀ {s : State} (x : α), r.Moves o s → r.Moves o (f s x))
    (l : List α) (h : r.Moves o s) : r.Moves o (l.foldl f s) := by
  induction l generalizing s with
  | nil => exact h
  | cons x xs ih => exact ih (step x h)

/-! ## Updates of the other blocks -/

theorem withPending (h : r.Moves o s) (x : List Instr) : r.Moves o (s.withPending x) := h.other rfl rfl rfl rfl
theorem withPower (h : r.Moves o s) (x : Power) : r.Moves o (s.withPower x) := h.other rfl rfl rfl rfl
theorem withPort (h : r.Moves o s) (x : Port) : r.Moves o (s.withPort x) := h.other rfl rfl rfl rfl
theorem withQueue (h : r.Moves o s) (x : List QueueEntry) : r.Moves o (s.withQueue x) := h.other rfl rfl rfl rfl
theorem withSlots (h : r.Moves o s) (x : Vector (Option MediaSlot) 4) : r.Moves o (s.withSlots x) := h.other rfl rfl rfl rfl
theorem withLink (h : r.Moves o s) (x : Link) : r.Moves o (s.withLink x) := h.other rfl rfl rfl rfl
theorem withRail (h : r.Moves o s) (x : Rail) : r.Moves o (s.withRail x) := h.other rfl rfl rfl rfl
theorem withEnrolling (h : r.Moves o s) (x : Option Enrolling) : r.Moves o (s.withEnrolling x) := h.other rfl rfl rfl rfl
theorem withAttempt (h : r.Moves o s) (x : AttemptControl) : r.Moves o (s.withAttempt x) := h.other rfl rfl rfl rfl
theorem withScanner (h : r.Moves o s) (x : Scanner) : r.Moves o (s.withScanner x) := h.other rfl rfl rfl rfl
theorem withEntry (h : r.Moves o s) (x : Entry) : r.Moves o (s.withEntry x) := h.other rfl rfl rfl rfl
theorem withLeds (h : r.Moves o s) (x : Indicators) : r.Moves o (s.withLeds x) := h.other rfl rfl rfl rfl
theorem withErase (h : r.Moves o s) (x : EraseEngine) : r.Moves o (s.withErase x) := h.other rfl rfl rfl rfl
theorem withTamper (h : r.Moves o s) (x : Tamper) : r.Moves o (s.withTamper x) := h.other rfl rfl rfl rfl
theorem withHandler (h : r.Moves o s) (x : Option Tag) : r.Moves o (s.withHandler x) := h.other rfl rfl rfl rfl
theorem withEvents (h : r.Moves o s) (x : EventQueue) : r.Moves o (s.withEvents x) := h.other rfl rfl rfl rfl
theorem withDraws (h : r.Moves o s) (x : Nat) : r.Moves o (s.withDraws x) := h.other rfl rfl rfl rfl
theorem withClock (h : r.Moves o s) (x : Nat) : r.Moves o (s.withClock x) := h.other rfl rfl rfl rfl

/-- The Cipher Unit's requests and replacements change no key slot. -/
theorem withRequests (h : r.Moves o s) (requests : List KeyRequest) (replacing : List UnitNo) :
    r.Moves o (s.withCipher { slots := s.cipher.slots, requests, replacing }) := h.other rfl rfl rfl rfl

theorem place (h : r.Moves o s) (e : Event) : r.Moves o (s.place e) := h.withEvents _
theorem drawn (h : r.Moves o s) : r.Moves o s.drawn := h.withDraws _
theorem aged (h : r.Moves o s) : r.Moves o s.aged := h.withClock _
theorem setSlot (h : r.Moves o s) (n : Fin 4) (m : Option MediaSlot) : r.Moves o (s.setSlot n m) := h.withSlots _
theorem setBuffer (h : r.Moves o s) (n : Fin 4) (b : Option ReadBuffer) : r.Moves o (s.setBuffer n b) := h.withPort _
theorem updateEntry (h : r.Moves o s) (t : Tag) (f : QueueEntry → QueueEntry) : r.Moves o (s.updateEntry t f) :=
  h.withQueue _
theorem dropEntry (h : r.Moves o s) (t : Tag) : r.Moves o (s.dropEntry t) := h.withQueue _
theorem setChannel (h : r.Moves o s) (c : Fin 4) (k : Channel) : r.Moves o (s.setChannel c k) := h.withTamper _
theorem refreshLeds (h : r.Moves o s) : r.Moves o s.refreshLeds := h.withLeds _
theorem showFail (h : r.Moves o s) : r.Moves o s.showFail := h.withLeds _
theorem showOk (h : r.Moves o s) : r.Moves o s.showOk := h.withLeds _
theorem showPulse (h : r.Moves o s) : r.Moves o s.showPulse := h.withLeds _
theorem followNeed (h : r.Moves o s) : r.Moves o s.followNeed := h.withRail _

theorem freeBufferOf (h : r.Moves o s) (m : MediaSlot) : r.Moves o (s.freeBufferOf m) := by
  unfold State.freeBufferOf
  split
  · exact h.setBuffer _ _
  · exact h

/-! ## The command path -/

theorem releaseStage (h : r.Moves o s) : r.Moves o s.releaseStage := by
  unfold State.releaseStage
  split
  · split
    · exact .ite (h.withPort _) h
    · exact h
  all_goals exact h

theorem endEntry (h : r.Moves o s) (t : Tag) (v : Verdict) : r.Moves o (s.endEntry t v) := (h.updateEntry _ _).releaseStage

theorem endCommands (h : r.Moves o s) (u : UnitNo) (st : Status) : r.Moves o (s.endCommands u st) :=
  ((h.withQueue _).withPort _).releaseStage

theorem fillBuffer (h : r.Moves o s) (m : MediaSlot) (t : Tag) (data : List Sector) :
    r.Moves o (s.fillBuffer m t data) := by
  unfold State.fillBuffer
  split
  · exact h.setBuffer _ _
  · exact h

theorem readResult (h : r.Moves o s) (m : MediaSlot) (e : QueueEntry) (x : MediaResult) :
    r.Moves o (s.readResult m e x) := by
  unfold State.readResult
  split
  · exact (h.freeBufferOf m).endEntry _ _
  · exact .ite ((h.fillBuffer _ _ _).endEntry _ _) (h.fillBuffer _ _ _)
  · exact (h.freeBufferOf m).endEntry _ _

theorem writeResult (h : r.Moves o s) (m : MediaSlot) (e : QueueEntry) (x : MediaResult) :
    r.Moves o (s.writeResult m e x) := by
  unfold State.writeResult
  split
  · dsimp only
    split
    · exact (h.updateEntry _ _).endEntry _ _
    · exact .ite ((h.updateEntry _ _).endEntry _ _) (h.updateEntry _ _)
  · exact h.endEntry _ _

theorem hostResult (h : r.Moves o s) (m : MediaSlot) (t : Tag) (x : MediaResult) : r.Moves o (s.hostResult m t x) := by
  unfold State.hostResult
  split
  · exact h
  · refine .ite (h.dropEntry t) ?_
    cases m.op with
    | read => exact h.readResult _ _ _
    | write | trim | patternWrite => exact h.writeResult _ _ _
    | flush => exact h.endEntry _ _

theorem issueHost (h : r.Moves o s) (n : Fin 4) (e : QueueEntry) : r.Moves o (s.issueHost n e) := by
  have issued := (h.setSlot n (some (e.issued s.freeBuffer))).updateEntry e.tag
    fun e => { e with state := .active, segmentsIssued := e.segmentsIssued + 1 }
  unfold State.issueHost
  split
  · exact issued.setBuffer _ _
  · exact issued

theorem restartIdle (h : r.Moves o s) (u : UnitNo) : r.Moves o (s.restartIdle u) := by
  unfold State.restartIdle
  split
  · exact .iteOf (fun opened => h.idleTimer _ opened) fun _ => h
  · exact h

theorem admittedRestart (h : r.Moves o s) (head : RecordHead) (verdict : Option Status) :
    r.Moves o (s.admittedRestart head verdict) := by
  unfold State.admittedRestart
  split
  · exact .ite (h.restartIdle _) h
  · exact h

theorem enqueue (h : r.Moves o s) (e : QueueEntry) : r.Moves o (s.enqueue e) := (h.withQueue _).aged

theorem refuse (h : r.Moves o s) (head : RecordHead) (st : Status) (residue : Nat) (stage : Bool) :
    r.Moves o (s.refuse head st residue stage) := h.withPort _

theorem takeRecord (h : r.Moves o s) (op : Op) (head : RecordHead) (residue : Nat) (stage : Bool) {accept : Tag → State}
    (taken : ∀ t, r.Moves o (accept t)) : r.Moves o (s.takeRecord op head residue stage accept) := by
  unfold State.takeRecord
  split
  · exact h.refuse _ _ _ _
  · exact .ite (h.refuse _ _ _ _) (.ite (h.refuse _ _ _ _) (taken _))

theorem admitData (h : r.Moves o s) (op : Op) (head : RecordHead) (t : Tag) : r.Moves o (s.admitData op head t) := by
  unfold State.admitData
  dsimp only
  split
  all_goals exact (h.enqueue _).admittedRestart _ _

theorem holdStage (h : r.Moves o s) (head : RecordHead) (t : Tag) : r.Moves o (s.holdStage head t) := by
  unfold State.holdStage
  refine .ite h ?_
  split
  · exact h.withPort _
  · exact h

theorem acceptSync (h : r.Moves o s) (head : RecordHead) : r.Moves o (s.acceptSync head) := by
  refine h.takeRecord _ _ _ _ fun t => ?_
  dsimp only
  split
  · exact (h.enqueue _).admittedRestart _ _
  · exact h.enqueue _

theorem acceptUnitInfo (h : r.Moves o s) (head : RecordHead) : r.Moves o (s.acceptUnitInfo head) := by
  refine h.takeRecord _ _ _ _ fun t => .ite (h.enqueue _) ?_
  split
  all_goals exact h.enqueue _

theorem acceptManagement (h : r.Moves o s) (op : Op) (head : RecordHead) (b : List Byte) :
    r.Moves o (s.acceptManagement op head b) := h.takeRecord _ _ _ _ fun _ => h.enqueue _

theorem takeTransfer (h : r.Moves o s) (i : Instr) : r.Moves o (s.takeTransfer i) := by
  unfold State.takeTransfer
  split
  case h_1 => exact h.takeRecord _ _ _ _ (h.admitData _ _)
  case h_2 => exact h.takeRecord _ _ _ _ fun _ => (h.admitData _ _ _).holdStage _ _
  case h_3 => exact h.takeRecord _ _ _ _ (h.admitData _ _)
  case h_4 => exact h.acceptSync _
  case h_5 => exact h.acceptUnitInfo _
  case h_20 => exact h.takeRecord _ _ _ _ fun _ => h.refuse _ _ _ _
  case h_21 => exact h
  all_goals exact h.acceptManagement _ _ _

/-! ## Erase work -/

theorem releaseUnit (h : r.Moves o s) (u : UnitNo) : r.Moves o (s.releaseUnit u) :=
  .iteOf (fun erasing =>
    have unlocked := h.unlockErasing erasing
    (State.Moves.ite ((unlocked.marker u none).request _ _) unlocked).refreshLeds) fun _ => h

theorem moveTarget (h : r.Moves o s) (u : UnitNo) (a b : TargetStage) : r.Moves o (s.moveTarget u a b) := by
  rw [State.moveTarget_frame]
  exact h.withErase _

theorem markTarget (h : r.Moves o s) (u : UnitNo) (a : TargetStage) : r.Moves o (s.markTarget u a) :=
  ((h.moveTarget _ _ _).marker _ _).request _ _

theorem giveUp (h : r.Moves o s) (u : UnitNo) : r.Moves o (s.giveUp u) :=
  .ite (h.markTarget _ _) (.ite (h.markTarget _ _) (h.releaseUnit u))

theorem setCurrent (h : r.Moves o s) (f : Descriptor → Descriptor) : r.Moves o (s.setCurrent f) := h.withErase _

theorem enterHalted (h : r.Moves o s) (held : Option UnitNo) (x : Outcome) : r.Moves o (s.enterHalted held x) := by
  unfold State.enterHalted
  cases held with
  | none => exact (h.withErase _).place _
  | some u => exact ((h.giveUp u).withErase _).place _

theorem haltDescriptor (h : r.Moves o s) (x : Outcome) : r.Moves o (s.haltDescriptor x) :=
  (State.Moves.ite h (h.setCurrent _)).enterHalted _ _

theorem countGood (h : r.Moves o s) : r.Moves o s.countGood := .ite ((h.withErase _).place _) (h.withErase _)

theorem enterIdle (h : r.Moves o s) : r.Moves o s.enterIdle := h.withErase _

theorem enterWaiting (h : r.Moves o s) : r.Moves o s.enterWaiting := (h.withErase _).followNeed

theorem advance (h : r.Moves o s) : r.Moves o s.advance := .ite (h.withErase _).enterIdle ((h.withErase _).withErase _)

theorem endGood (h : r.Moves o s) (u : UnitNo) : r.Moves o (s.endGood u) :=
  have counted := (h.setCurrent fun d => { d with done := true, outcome := some .good }).countGood
  .ite (.ite (counted.withErase _).advance (counted.releaseUnit u).advance) (counted.enterHalted _ _)

theorem stopNow (h : r.Moves o s) : r.Moves o s.stopNow := by
  unfold State.stopNow
  split
  · exact h
  · split
    · exact h.haltDescriptor _
    · exact .ite (h.haltDescriptor _) h
    all_goals exact h

theorem requestKey (h : r.Moves o s) (u : UnitNo) (p : KeyPath) : r.Moves o (s.requestKey u p) := h.withRequests _ _

theorem descriptorDrained (h : r.Moves o s) (d : Descriptor) : r.Moves o (s.descriptorDrained d) := by
  unfold State.descriptorDrained
  split
  · exact h.haltDescriptor _
  · exact ((h.withErase _).marker _ _).request _ _

theorem enterWorking (h : r.Moves o s) (d : Descriptor) : r.Moves o (s.enterWorking d) :=
  .ite ((h.withErase _).aged.requestKey _ _) ((h.withErase _).aged.withErase _)

theorem markerWritten (h : r.Moves o s) : r.Moves o s.markerWritten := by
  unfold State.markerWritten
  split
  · refine .ite ?_ h
    split
    · exact h.haltDescriptor _
    · exact h.enterWorking _
  · exact h

theorem issueErase (h : r.Moves o s) (n : Fin 4) (j : EraseJob) : r.Moves o (s.issueErase n j) :=
  (h.setSlot _ _).withErase _

theorem descriptorStep (h : r.Moves o s) (j : EraseJob) (sectors : Nat) (data : List Sector) :
    r.Moves o (s.descriptorStep j sectors data) := by
  unfold State.descriptorStep
  split
  · exact h.haltDescriptor _
  · dsimp only
    split
    · exact (h.setCurrent _).haltDescriptor _
    · exact (h.setCurrent _).withErase _
    · exact (h.setCurrent _).endGood _

theorem setRerun (h : r.Moves o s) (f : Rerun → Rerun) : r.Moves o (s.setRerun f) := h.withErase _

theorem rerunClear (h : r.Moves o s) (u : UnitNo) : r.Moves o (s.rerunClear u) :=
  ((h.setRerun _).marker _ _).request _ _

theorem rerunReplace (h : r.Moves o s) (u : UnitNo) : r.Moves o (s.rerunReplace u) := (h.setRerun _).requestKey _ _

theorem rerunFallback (h : r.Moves o s) (u : UnitNo) (x : Outcome) : r.Moves o (s.rerunFallback u x) :=
  (State.Moves.ite (h.rerunReplace u) (h.rerunClear u)).place _

theorem startRerun (h : r.Moves o s) (u : UnitNo) (w : EraseWork) : r.Moves o (s.startRerun u w) :=
  have begun := (h.withErase { s.erase with
    state := .running, workAge := s.clock,
    rerun := some { unit := u, work := w, phase := .pass 1, sectorsDone := 0, stage := .working } }).aged
  .ite (begun.rerunReplace u) (.ite (begun.rerunFallback u _) (begun.withErase _))

theorem rerunStep (h : r.Moves o s) (j : EraseJob) (sectors : Nat) (data : List Sector) :
    r.Moves o (s.rerunStep j sectors data) := by
  unfold State.rerunStep
  split
  · exact h.rerunFallback _ _
  · exact (h.setRerun _).withErase _
  · exact h.rerunClear _

theorem rerunCleared (h : r.Moves o s) (u : UnitNo) : r.Moves o (s.rerunCleared u) :=
  ((State.Moves.iteOf (fun erasing => h.unlockErasing erasing) fun _ => h).withErase _).refreshLeds

theorem eraseResult (h : r.Moves o s) (sectors : Nat) (x : MediaResult) : r.Moves o (s.eraseResult sectors x) := by
  unfold State.eraseResult
  split
  · exact h
  · have freed := h.withErase { s.erase with segment := .none }
    dsimp only
    split
    · exact freed.rerunStep _ _ _
    · exact freed.descriptorStep _ _ _
    · exact freed.rerunFallback _ _
    · exact freed.haltDescriptor _

theorem handResult (h : r.Moves o s) (m : MediaSlot) (x : MediaResult) : r.Moves o (s.handResult m x) := by
  unfold State.handResult
  split
  · exact h.hostResult _ _ _
  · exact h.eraseResult _ _

theorem endSlot (h : r.Moves o s) (n : Fin 4) (x : MediaResult) : r.Moves o (s.endSlot n x) := by
  unfold State.endSlot
  split
  · exact (h.setSlot _ _).handResult _ _
  · exact h

theorem endOutstanding (h : r.Moves o s) (x : MediaResult) : r.Moves o (s.endOutstanding x) :=
  foldl (fun n h => .ite (h.endSlot n x) h) _ h

/-! ## The Entry Controller -/

theorem entryGoes (h : r.Moves o s) (c : EntryCtl) : r.Moves o (s.entryGoes c) := .ite h (h.withEntry _)

theorem clearEntry (h : r.Moves o s) : r.Moves o s.clearEntry := h.withEntry _

theorem abandon (h : r.Moves o s) (k : SlotNo) (x : AbandonReason) : r.Moves o (s.abandon k x) :=
  ((h.withEnrolling _).withEntry _).showFail.place _

theorem abandonAny (h : r.Moves o s) (x : AbandonReason) : r.Moves o (s.abandonAny x) := by
  unfold State.abandonAny
  split
  · exact h.abandon _ _
  · exact h

theorem enterDisabled (h : r.Moves o s) : r.Moves o s.enterDisabled := by
  unfold State.enterDisabled
  split
  · exact h.clearEntry.withEntry _
  · exact (h.abandonAny _).withEntry _
  · exact (h.abandonAny _).withEntry _
  all_goals exact h.withEntry _

theorem reevaluate (h : r.Moves o s) : r.Moves o s.reevaluate :=
  .ite (.ite h h.enterDisabled) (.ite (h.withEntry _) h)

/-! ## Unit Control -/

theorem claimDrained (h : r.Moves o s) (u : UnitNo) : r.Moves o (s.claimDrained u) := by
  refine .ite ?_ h
  split
  · exact .ite (h.descriptorDrained _) (.ite (h.markTarget _ _) h)
  · exact .ite (h.markTarget _ _) h

theorem signalDrained (h : r.Moves o s) (u : UnitNo) : r.Moves o (s.signalDrained u) := (h.endClose u).claimDrained u

theorem drainNow (h : r.Moves o s) (u : UnitNo) : r.Moves o (s.drainNow u) := .ite (h.signalDrained u) h

/-- A unit set to the fields that it has. -/
theorem setUnit_unitRun (s : State) (u : UnitNo) : s.setUnit u (s.unitRun u) = s := by
  simp [State.setUnit, State.unitRun, State.withUnits]

theorem closeUnit (h : r.Moves o s) (c : CloseCause) (u : UnitNo) : r.Moves o (s.closeUnit c u) := by
  refine .iteOf (fun opened => ?_) fun _ => h
  have closed := h.closing c (s.unitRun u).claimPending opened
  rw [State.closing, setUnit_unitRun] at closed
  exact (closed.endCommands _ _).drainNow u

theorem closeUnits (h : r.Moves o s) (c : CloseCause) (us : List UnitNo) : r.Moves o (s.closeUnits c us) :=
  foldl (fun u h => h.closeUnit c u) us h

theorem closeAll (h : r.Moves o s) (c : CloseCause) : r.Moves o (s.closeAll c) := h.closeUnits c _

theorem claimUnit (h : r.Moves o s) (c : CloseCause) (u : UnitNo) : r.Moves o (s.claimUnit c u) := by
  unfold State.claimUnit
  split
  · exact h
  · rename_i d defined
    have isDefined : s.unitDef u ≠ none := by simp [defined]
    dsimp only
    split
    · rename_i opened
      have still : (s.setUnit u { s.unitRun u with claimPending := true }).unitState u = .opened := by
        simpa [State.unitState, State.unitRun, State.setUnit] using opened
      unfold State.closeUnit
      rw [if_pos still]
      exact ((h.closing c true opened).endCommands _ _).drainNow u
    · exact h.claimClosing ‹_›
    · exact (h.erasing isDefined ‹_›).drainNow u
    · exact ((h.erasing isDefined ‹_›).endCommands _ _).drainNow u
    · exact h.drainNow u

theorem openGrant (h : r.Moves o s) (allowed : o) (k : SlotNo) (g : Grant) : r.Moves o (s.openGrant k g) := by
  unfold State.openGrant
  split
  · exact h
  · rename_i d defined
    split
    · exact h
    · refine .ite h ?_
      split
      · exact .ite h (h.openUnit allowed k g.mode defined ‹_› ‹_›)
      · exact h.widenUnit k _ _ ‹_›
      all_goals exact h.place _

theorem openRequest (h : r.Moves o s) (allowed : o) (k : SlotNo) (gs : List Grant) : r.Moves o (s.openRequest k gs) :=
  .ite h (foldl (fun g h => h.openGrant allowed k g) gs h)

theorem openSession (h : r.Moves o s) (allowed : o) : r.Moves o s.openSession := h.session true rfl fun _ => .inr allowed

theorem restartSession (h : r.Moves o s) : r.Moves o s.restartSession := by
  refine .iteOf (fun session => ?_) fun _ => h
  have restarted := h.session true (n := some s.store.image.policy.adminIdle) rfl fun _ => .inl session
  rwa [State.withSession, ← session] at restarted

theorem closeSession (h : r.Moves o s) : r.Moves o s.closeSession :=
  have closed := h.session false (n := none) rfl nofun
  .ite (.ite (closed.abandonAny _) closed) h

end State.Moves

end Sys2Proof.Machine
end

section
/-! The moves of internal erases, Attempt Control, the Tamper Monitor, the keypad, start-up and the Management Handler,
and of the part's own events. -/

namespace Sys2Proof.Machine

/-! ## What blocks spell -/

/-- A definition that a block spells is within the limits of a unit record (R14, R16). -/
theorem fits_of_defineOf {b : List Byte} {u : UnitNo} {d : UnitDef} (h : defineOf b = some (u, d)) :
    d.fits := by
  simp only [defineOf, Option.bind_eq_bind, Option.bind_eq_some_iff] at h
  obtain ⟨_, -, _, -, _, -, _, -, _, -, h⟩ := h
  split at h
  · cases h
  · cases h
    exact ⟨Nat.le_of_not_lt ‹_›, by simp, fun _ => rfl, by simp⟩

/-- The grant list that a block spells names no unit twice (R106). -/
theorem nodup_of_grantsOf {b : List Byte} {k : SlotNo} {gs : List Grant}
    (h : grantsOf b = some (k, gs)) : (gs.map Grant.unit).Nodup := by
  simp only [grantsOf, Option.bind_eq_bind, Option.bind_eq_some_iff] at h
  obtain ⟨_, -, h⟩ := h
  split at h
  · cases h
  · simp only [Option.bind_eq_some_iff] at h
    obtain ⟨_, -, h⟩ := h
    split at h
    · cases h; assumption
    · cases h

theorem fits_blank : CredRecord.blank.fits := by simp [CredRecord.fits, CredRecord.blank]

namespace State.Moves

variable {o : Prop} {r s : State}

/-! ## Internal erases -/

theorem clearCredentials (h : r.Moves o s) : r.Moves o s.clearCredentials :=
  have cleared := foldl (fun k h => (h.credential k (.inl fits_blank)).request (.credential k) []) (List.finRange 6) h
  ((((cleared.attempt _).request _ _).withEnrolling _).withAttempt _).reevaluate

theorem zeroizeReported (h : r.Moves o s) : r.Moves o s.zeroizeReported := ((h.withTamper _).latch _).request _ _

theorem report (h : r.Moves o s) (x : Requester) : r.Moves o (s.report x) := by
  cases x with
  | duress => exact h
  | bruteForce => exact .ite h.clearCredentials h
  | zeroize => exact h.zeroizeReported

theorem completeInternal (h : r.Moves o s) : r.Moves o s.completeInternal := by
  unfold State.completeInternal
  split
  · exact h
  · exact .ite (foldl (fun x h => h.report x) _ (h.withErase _).refreshLeds) h

theorem claimTarget (h : r.Moves o s) (u : UnitNo) : r.Moves o (s.claimTarget u) :=
  .ite (.ite ((h.moveTarget _ _ _).claimUnit _ _) (h.moveTarget _ _ _)) h

theorem preempt (h : r.Moves o s) : r.Moves o s.preempt := .ite (h.withErase _) h

theorem addTargets (h : r.Moves o s) (x : Requester) (us : List UnitNo) : r.Moves o (s.addTargets x us) := by
  rw [(s.addTargets_spec x us).frame]
  exact h.withErase _

theorem requestInternal (h : r.Moves o s) (x : Requester) (us : List UnitNo) : r.Moves o (s.requestInternal x us) :=
  (foldl (fun u h => h.claimTarget u) _ (h.addTargets x _).refreshLeds.preempt.stopNow).completeInternal

theorem targetMarked (h : r.Moves o s) (u : UnitNo) : r.Moves o (s.targetMarked u) :=
  .ite ((h.moveTarget _ _ _).requestKey _ _) h

theorem targetReplaced (h : r.Moves o s) (u : UnitNo) : r.Moves o (s.targetReplaced u) :=
  have moved := h.moveTarget u .replacing .done
  .ite (.ite ((moved.moveTarget _ _ _).requestKey _ _) (moved.releaseUnit u).completeInternal) h

/-- A replacement is made of a SECURE unit. -/
theorem replaceKey (h : r.Moves o s) (q : KeyRequest) (secure : s.isSecure q.unit = true) : r.Moves o (s.replaceKey q) :=
  .ite (h.haltDescriptor _)
    ((((h.rekeyed s.freshKey secure).withDraws (s.draws + 1)).request _ _).request _ _ |>.withRequests _ _)

theorem takeRequest (h : r.Moves o s) (u : UnitNo) : r.Moves o (s.takeRequest u) := by
  unfold State.takeRequest
  split
  · exact h
  · rename_i q found
    have unit : q.unit = u := by simpa using List.find?_some found
    refine .iteOf (fun replaceable => (h.withRequests _ _).replaceKey q ?_) fun _ => h
    simp only [State.replaceable, Bool.and_eq_true] at replaceable
    rw [unit]
    exact replaceable.1.1.1

theorem replaced (h : r.Moves o s) (u : UnitNo) (p : KeyPath) : r.Moves o (s.replaced u p) := by
  unfold State.replaced
  split
  · exact h.endGood u
  · split
    · exact .ite (h.rerunClear u) (h.targetReplaced u)
    · exact h.targetReplaced u

theorem replacementWritten (h : r.Moves o s) (u : UnitNo) (p : KeyPath) : r.Moves o (s.replacementWritten u p) :=
  ((h.withRequests _ _).replaced u p).takeRequest u

theorem enterClaiming (h : r.Moves o s) (d : Descriptor) : r.Moves o (s.enterClaiming d) :=
  ((h.setCurrent _).withErase _).claimUnit _ _

theorem startDescriptor (h : r.Moves o s) : r.Moves o s.startDescriptor := by
  unfold State.startDescriptor
  split
  · exact h.haltDescriptor _
  · exact h.enterClaiming _
  · exact h

/-! ## Attempt Control and enrollment -/

theorem charge (h : r.Moves o s) : r.Moves o s.charge := ((h.attempt _).request _ _).withAttempt _

theorem startPenalty (h : r.Moves o s) : r.Moves o s.startPenalty :=
  ((((h.withAttempt _).attempt _).request _ _).place _).entryGoes _

theorem attemptIdle (h : r.Moves o s) : r.Moves o s.attemptIdle := (h.withAttempt _).entryGoes _

theorem penaltyExpired (h : r.Moves o s) : r.Moves o s.penaltyExpired :=
  have written := (h.attempt ⟨s.attempt.failed, 0⟩).request .attempt []
  .ite (((written.withAttempt _).entryGoes _).place _) written.attemptIdle

theorem startBrute (h : r.Moves o s) : r.Moves o s.startBrute :=
  (((h.withAttempt _).place _).closeSession.entryGoes _).requestInternal _ _

theorem failureByF (h : r.Moves o s) : r.Moves o s.failureByF := .ite h.startBrute (.ite h.attemptIdle h.startPenalty)

theorem failedAttempt (h : r.Moves o s) : r.Moves o s.failedAttempt := (h.showFail.place _).failureByF

theorem duressMatch (h : r.Moves o s) : r.Moves o s.duressMatch :=
  have requested := h.requestInternal .duress s.duressUnits
  .ite (requested.startBrute.place _).showFail requested.failedAttempt

theorem spendUse (h : r.Moves o s) (k : SlotNo) : r.Moves o (s.spendUse k) := by
  unfold State.spendUse
  split
  · exact h
  · refine (h.credential k ?_).request _ _
    exact .inr rfl

theorem goodMatch (h : r.Moves o s) (allowed : o) (k : SlotNo) : r.Moves o (s.goodMatch k) :=
  have spent : r.Moves o (if k = 0 then s else s.spendUse k) := .ite h (h.spendUse k)
  have opened := (((spent.withAttempt _).attempt ⟨0, 0⟩).request .attempt []).openRequest allowed k (s.cred k).grants
  (State.Moves.ite (opened.openSession allowed) opened).showOk.attemptIdle

theorem verdict (h : r.Moves o s) (allowed : o) : r.Moves o s.verdict := by
  refine .ite ?_ h
  dsimp only
  split
  · exact (h.withEntry _).failedAttempt
  · exact .ite (h.withEntry _).duressMatch ((h.withEntry _).goodMatch allowed _)

theorem startEnrolling (h : r.Moves o s) (t : EnrollTarget) : r.Moves o (s.startEnrolling t) :=
  (h.withEnrolling _).withEntry _

theorem longPress (h : r.Moves o s) : r.Moves o s.longPress := by
  refine .ite ?_ h
  split
  · exact h.startEnrolling _
  · exact h.showFail

theorem commit (h : r.Moves o s) (t : EnrollTarget) (pin : List Digit) : r.Moves o (s.commit t pin) :=
  ((h.credential t.slot (c := s.committedRecord t pin) (.inr rfl)).drawn.request _ _).withEntry _

theorem commitWritten (h : r.Moves o s) : r.Moves o s.commitWritten := by
  unfold State.commitWritten
  split
  · have ended : r.Moves o (if s.entry.commitRemoved then s else s.withEnrolling none) := .ite h (h.withEnrolling none)
    exact (State.Moves.ite (((ended.withEntry _).showFail.place _).entryGoes _)
      (((ended.withEntry _).showOk.place _).entryGoes _)).reevaluate
  · exact h

theorem clearingWritten (h : r.Moves o s) : r.Moves o s.clearingWritten :=
  .ite ((h.withAttempt _).attemptIdle.place _) h

/-! ## The Tamper Monitor -/

theorem alarmChanged (h : r.Moves o s) (c : Fin 4) : r.Moves o (s.alarmChanged c) := .ite h.reevaluate h

theorem raiseAlarm (h : r.Moves o s) (c : Fin 4) (v : Sample) : r.Moves o (s.raiseAlarm c v) :=
  have raised := (h.setChannel c { s.channel c with alarm := true }).place (.tamperAlarm c v)
  .ite (raised.closeAll _) (raised.alarmChanged c)

theorem clearAlarm (h : r.Moves o s) (c : Fin 4) (d : ClearDetail) : r.Moves o (s.clearAlarm c d) :=
  .ite (((h.setChannel _ _).place _).alarmChanged c) h

theorem trip (h : r.Moves o s) (v : Sample) : r.Moves o (s.trip v) :=
  have closed := (h.closeAll .enclosure).closeSession
  have latched := ((((closed.setChannel 3 _).withTamper _).latch _).request .latch []).place (.tamperAlarm 3 v)
  (State.Moves.ite (latched.requestInternal _ _) latched).reevaluate

theorem levelChanged (h : r.Moves o s) (c : Fin 4) (v : Sample) (l : Level) : r.Moves o (s.levelChanged c v l) := by
  cases l with
  | outOfRange => exact .ite (h.trip v) (h.raiseAlarm c v)
  | inRange => exact .ite h (h.clearAlarm c _)

theorem changeLevel (h : r.Moves o s) (c : Fin 4) (v : Sample) (l : Level) : r.Moves o (s.changeLevel c v l) :=
  (h.setChannel _ _).levelChanged c v l

theorem sampleChannel (h : r.Moves o s) (c : Fin 4) (v : Sample) : r.Moves o (s.sampleChannel c v) := by
  refine .ite ?_ h
  dsimp only
  split
  · exact h.setChannel _ _
  · exact (h.setChannel _ _).changeLevel c v _

theorem completeRun (h : r.Moves o s) (c : Fin 4) (v : Sample) (l : Level) : r.Moves o (s.completeRun c v l) :=
  .ite ((h.setChannel _ _).changeLevel c v l) h

theorem disableChannel (h : r.Moves o s) (c : Fin 4) : r.Moves o (s.disableChannel c) :=
  .ite (h.setChannel _ _) ((h.setChannel _ _).clearAlarm _ _)

theorem applyChannel (h : r.Moves o s) (old : Policy) (c : Fin 4) : r.Moves o (s.applyChannel old c) := by
  unfold State.applyChannel
  split
  · exact h.disableChannel c
  · exact h.setChannel _ _
  · exact h

theorem applyPolicy (h : r.Moves o s) {f : Nat} {b : List Byte} {p : Policy}
    (read : policyOf s.store.image.policy f b = some p) : r.Moves o (s.applyPolicy p) :=
  (foldl (fun c h => h.applyChannel _ c) _ (h.policy read)).reevaluate

/-! ## The keypad -/

theorem digitPress (h : r.Moves o s) (d : Digit) : r.Moves o (s.digitPress d) :=
  .ite (h.withEntry _).showPulse (.ite (.ite (h.withEntry _).showPulse (h.withEntry _)) h)

theorem confirmEnds (h : r.Moves o s) : r.Moves o s.confirmEnds := by
  unfold State.confirmEnds
  split
  · split
    · exact h.commit _ _
    · exact h.abandonAny _
  · exact h

theorem keyPress (h : r.Moves o s) : r.Moves o s.keyPress := by
  unfold State.keyPress
  split
  · exact .ite (h.clearEntry.withEntry _).showFail (h.withEntry _).charge
  · exact .ite h (h.withEntry _)
  · exact .ite h h.confirmEnds
  all_goals exact h

theorem lockEntry (h : r.Moves o s) : r.Moves o s.lockEntry := by
  unfold State.lockEntry
  split
  · exact h.clearEntry.withEntry _
  · exact h.abandonAny _
  · exact h.abandonAny _
  all_goals exact h

theorem lockPress (h : r.Moves o s) : r.Moves o s.lockPress := (h.lockEntry.closeAll _).closeSession

theorem interKeyExpired (h : r.Moves o s) : r.Moves o s.interKeyExpired := by
  unfold State.interKeyExpired
  split
  · exact h.clearEntry.withEntry _
  · exact h.clearEntry
  · exact h.clearEntry
  all_goals exact h

theorem keyActivity (h : r.Moves o s) : r.Moves o s.keyActivity := .ite ((h.withLeds _).withPort _) (h.withLeds _)

theorem holdKey (h : r.Moves o s) (p : PadKey) : r.Moves o (s.holdKey p) := by
  cases p with
  | digit d => exact (h.withScanner _).digitPress d
  | lock => exact (h.withScanner _).lockPress
  | key => exact h.withScanner _

theorem takePresses (h : r.Moves o s) (ps : List PadKey) : r.Moves o (s.takePresses ps) := by
  unfold State.takePresses
  split
  · exact h
  · exact .ite (h.keyActivity.holdKey _) h.keyActivity
  · exact .ite (h.keyActivity.withScanner _) h.keyActivity

theorem takeRelease (h : r.Moves o s) (p : PadKey) : r.Moves o (s.takeRelease p) :=
  .ite (.ite (h.withScanner _).keyPress (h.withScanner _)) h

theorem clearLockout (h : r.Moves o s) : r.Moves o s.clearLockout := .ite h (h.withScanner _)

theorem switchChanged (h : r.Moves o s) (on : Bool) : r.Moves o (s.switchChanged on) := (h.withScanner _).place _

theorem sampleSwitch (h : r.Moves o s) (on : Bool) : r.Moves o (s.sampleSwitch on) :=
  .ite (.ite (h.withScanner _) (h.switchChanged _)) (h.withScanner _)

theorem sampleKeys (h : r.Moves o s) (keys : BitVec 12) (on : Bool) : r.Moves o (s.sampleKeys keys on) :=
  ((foldl (fun p h => h.takeRelease p) _ (h.withScanner _)).takePresses _).clearLockout.sampleSwitch on

/-! ## Start-up -/

theorem stepThree (h : r.Moves o s) : r.Moves o s.stepThree := ((h.withAttempt _).setChannel _ _).withTamper _

theorem endCapacityRead (h : r.Moves o s) (m : Option Nat) : r.Moves o (s.endCapacityRead m) :=
  .ite (((h.withLink _).capacityCheck m).stepThree.withPower _) (h.withLink _)

theorem finishStartUp (h : r.Moves o s) : r.Moves o s.finishStartUp := (h.withPower _).reevaluate

theorem stepSix (h : r.Moves o s) : r.Moves o s.stepSix :=
  .ite (h.withPower _).startBrute (.ite ((h.withAttempt _).place _).finishStartUp h.finishStartUp)

theorem requestOwed (h : r.Moves o s) : r.Moves o s.requestOwed := (h.withPower _).requestInternal _ _

theorem endReruns (h : r.Moves o s) : r.Moves o s.endReruns := .ite (h.withErase _).requestOwed (h.withErase _).stepSix

/-! ## The Management Handler -/

theorem endOrDrop (h : r.Moves o s) (t : Tag) (v : Verdict) : r.Moves o (s.endOrDrop t v) := by
  unfold State.endOrDrop
  split
  · exact .ite (h.dropEntry t) (h.endEntry t v)
  · exact h

theorem endManagement (h : r.Moves o s) (st : Status) : r.Moves o (s.endManagement st) := by
  unfold State.endManagement
  split
  · exact (h.withHandler _).endOrDrop _ _
  · exact h

theorem returnData (h : r.Moves o s) (content : List Byte) : r.Moves o (s.returnData content) := by
  unfold State.returnData
  split
  · exact h.updateEntry _ _
  · exact h

theorem acceptDefine (h : r.Moves o s) {u : UnitNo} {d : UnitDef} (fits : d.fits) (free : s.unitHeld u = false) :
    r.Moves o (s.acceptDefine u d) := by
  unfold State.acceptDefine
  dsimp only
  split
  · rename_i kind
    exact ((h.defined fits free (k := some s.freshKey) (by simp [kind])).withDraws _ |>.request _ _).request _ _
  · exact ((h.defined fits free (k := none) (fun _ => rfl)).request _ _).request _ _

theorem runUnitDefine (h : r.Moves o s) (b : List Byte) : r.Moves o (s.runUnitDefine b) := by
  refine .ite (h.endManagement _) ?_
  split
  · exact h.endManagement _
  · rename_i u d read
    refine .iteOf (fun _ => h.endManagement _) fun free => ?_
    exact .ite (h.endManagement _) (.ite (h.endManagement _)
      (h.acceptDefine (fits_of_defineOf read) (by simpa using free)))

theorem runUnitDelete (h : r.Moves o s) (b : List Byte) : r.Moves o (s.runUnitDelete b) := by
  unfold State.runUnitDelete
  split
  · exact h.endManagement _
  · refine .ite (h.endManagement _) (.iteOf (fun _ => h.endManagement _) fun free => ?_)
    exact ((h.deleted (by simpa using free)).request _ _).request _ _

theorem runGrantSet (h : r.Moves o s) (b : List Byte) : r.Moves o (s.runGrantSet b) := by
  unfold State.runGrantSet
  split
  · exact h.endManagement _
  · exact (h.credential _ (.inl (nodup_of_grantsOf ‹_›))).request _ _

theorem removeEnrollment (h : r.Moves o s) (k : SlotNo) : r.Moves o (s.removeEnrollment k) := by
  unfold State.removeEnrollment
  split
  · exact .ite (.ite ((h.withEntry _).withEnrolling _) (h.abandon _ _)) h
  · exact h

theorem removedRole (h : r.Moves o s) (k : SlotNo) : r.Moves o (s.removedRole k) := .ite h.closeSession.reevaluate h

theorem runCredentialRemove (h : r.Moves o s) (b : List Byte) : r.Moves o (s.runCredentialRemove b) := by
  unfold State.runCredentialRemove
  split
  · exact h.endManagement _
  · rename_i k _
    have removed := h.credential k (.inl fits_blank)
    exact ((removed.request _ _).removeEnrollment k).removedRole k

theorem runEnroll (h : r.Moves o s) (b : List Byte) : r.Moves o (s.runEnroll b) := by
  unfold State.runEnroll
  split
  · exact h.endManagement _
  · exact .ite ((h.startEnrolling _).endManagement _) (h.endManagement _)

theorem runPolicySet (h : r.Moves o s) (b : List Byte) : r.Moves o (s.runPolicySet b) := by
  unfold State.runPolicySet
  split
  · exact h.endManagement _
  · exact (h.applyPolicy ‹_›).request _ _

theorem runLock (h : r.Moves o s) (b : List Byte) : r.Moves o (s.runLock b) :=
  have closed := h.closeUnits .lockCommand ((List.finRange 8).filter (maskNames b))
  (State.Moves.ite closed.closeSession closed).endManagement _

theorem runEraseListWrite (h : r.Moves o s) (b : List Byte) : r.Moves o (s.runEraseListWrite b) := by
  unfold State.runEraseListWrite
  split
  · exact h.endManagement _
  · exact .ite (h.endManagement _) ((h.withErase _).endManagement _)

theorem runEraseTail (h : r.Moves o s) (b : List Byte) : r.Moves o (s.runEraseTail b) := by
  unfold State.runEraseTail
  split
  · exact h.endManagement _
  · rename_i p _
    have moved := h.withErase { s.erase with tail := p }
    dsimp only
    split
    · exact (State.Moves.ite moved moved.enterWaiting).endManagement _
    all_goals exact .ite (h.endManagement _) (moved.endManagement _)

theorem runEraseAbort (h : r.Moves o s) : r.Moves o s.runEraseAbort :=
  (State.Moves.ite (h.withErase _).stopNow h).endManagement _

theorem runEraseClear (h : r.Moves o s) : r.Moves o s.runEraseClear :=
  (State.Moves.ite (State.Moves.ite (h.withErase _).enterIdle (h.withErase _).enterWaiting) h).endManagement _

theorem runTamperClear (h : r.Moves o s) : r.Moves o s.runTamperClear :=
  .ite (h.endManagement _) (.ite (h.endManagement _) (.ite (h.endManagement _)
    ((((h.setChannel _ _).latch _).request _ _).place _).reevaluate))

theorem runManagement (h : r.Moves o s) (op : Op) (b : List Byte) : r.Moves o (s.runManagement op b) := by
  cases op with
  | status => exact (h.returnData _).drawn.endManagement _
  | eventRead => exact ((h.returnData _).withEvents _).endManagement _
  | unitDefine => exact h.runUnitDefine b
  | unitDelete => exact h.runUnitDelete b
  | grantSet => exact h.runGrantSet b
  | credentialRemove => exact h.runCredentialRemove b
  | enroll => exact h.runEnroll b
  | policySet => exact h.runPolicySet b
  | lock => exact h.runLock b
  | eraseListWrite => exact h.runEraseListWrite b
  | eraseTail => exact h.runEraseTail b
  | eraseAbort => exact h.runEraseAbort
  | eraseClear => exact h.runEraseClear
  | tamperClear => exact h.runTamperClear
  | read | write | trim | sync | unitInfo => exact h

theorem execute (h : r.Moves o s) (e : QueueEntry) : r.Moves o (s.execute e) := by
  unfold State.execute
  split
  · exact h.endManagement _
  · exact (State.Moves.ite h.restartSession h).runManagement _ _

theorem takeManagement (h : r.Moves o s) (e : QueueEntry) : r.Moves o (s.takeManagement e) :=
  ((h.withHandler _).updateEntry _ _).execute e

theorem answer (h : r.Moves o s) (allowed : o) (w : Waiter) : r.Moves o (s.answer w) := by
  cases w with
  | management => exact h.endManagement _
  | charge => exact h.verdict allowed
  | clearing => exact h.clearingWritten
  | commit => exact h.commitWritten
  | descriptorMarker => exact h.markerWritten
  | internalMarker u => exact h.targetMarked u
  | replacement u p => exact h.replacementWritten u p
  | rerunClear u => exact h.rerunCleared u

theorem completeWrite (h : r.Moves o s) (allowed : o) : r.Moves o s.completeWrite := by
  unfold State.completeWrite
  split
  · exact h
  · exact foldl (fun w h => h.answer allowed w) _ (h.stored ‹_›)

/-! ## The part's own events -/

/-- A next event that some condition gives is a move where the event is. -/
theorem ofOrElse {a b : Option State} {t : State} (first : a = some t → r.Moves o t) (second : b = some t → r.Moves o t)
    (h : (a <|> b) = some t) : r.Moves o t := by
  cases a with
  | none => exact second (by simpa using h)
  | some x => exact first (by simpa using h)

theorem advanceStartUp (h : r.Moves o s) {t : State} (e : s.advanceStartUp = some t) : r.Moves o t := by
  unfold State.advanceStartUp at e
  split at e
  · split at e
    · cases e
    · split at e
      · cases e; exact h.startRerun _ _
      · cases e; exact h.endReruns
  · split at e
    · cases e
    · cases e; exact h.stepSix
  · split at e
    · cases e; exact h.finishStartUp
    · cases e
  all_goals cases e

theorem beginSlot (h : r.Moves o s) (n : Fin 4) (m : MediaSlot) : r.Moves o (s.beginSlot n m) := h.setSlot _ _

theorem nextUnserved (h : r.Moves o s) {t : State} (e : s.nextUnserved = some t) : r.Moves o t := by
  unfold State.nextUnserved at e
  split at e
  · cases e; exact h.eraseResult _ _
  · split at e
    · split at e
      · cases e; exact h.endSlot _ _
      · split at e
        · cases e; exact h.endEntry _ _
        · split at e
          · cases e; exact h.eraseResult _ _
          · cases e
    · cases e

theorem nextIssue (h : r.Moves o s) {t : State} (e : s.nextIssue = some t) : r.Moves o t := by
  unfold State.nextIssue at e
  split at e
  · split at e
    · cases e
    · split at e
      · cases e; exact .ite (h.issueErase _ _) (h.issueHost _ _)
      · cases e; exact h.issueHost _ _
      · cases e; exact h.issueErase _ _
      · cases e
  · cases e

theorem internal (h : r.Moves o s) {t : State} (e : s.internal = some t) : r.Moves o t := by
  refine ofOrElse (fun e => ?_) (ofOrElse h.advanceStartUp (ofOrElse (fun e => ?_) (ofOrElse h.nextUnserved
    (ofOrElse (fun e => ?_) (ofOrElse (fun e => ?_) (ofOrElse (fun e => ?_) fun e => ?_)))))) e
  · obtain ⟨u, -, rfl⟩ := Option.map_eq_some_iff.1 e
    exact h.signalDrained u
  · unfold State.nextBegin at e
    split at e
    · obtain ⟨p, -, rfl⟩ := Option.map_eq_some_iff.1 e
      exact h.beginSlot _ _
    · cases e
  · unfold State.nextFollow at e
    split at e
    · cases e
    · cases e; exact h.followNeed
  · unfold State.nextStart at e
    split at e
    · cases e; exact h.startDescriptor
    · cases e
  · unfold State.nextCommand at e
    split at e
    · obtain ⟨c, -, rfl⟩ := Option.map_eq_some_iff.1 e
      exact h.takeManagement c
    · cases e
  · unfold State.nextTransfer at e
    split at e
    · cases e
    · split at e
      · cases e; exact (h.withPort _).takeTransfer _
      · cases e

theorem finish (h : r.Moves o s) : r.Moves o s.finish :=
  (State.settle_induction (P := r.Moves o) (fun _ _ h e => h.internal e) _ s h).refreshLeds

theorem fillSlots (n : Nat) : ∀ {s : State}, r.Moves o s → r.Moves o (State.fillSlots n s) := by
  induction n with
  | zero => exact fun h => h
  | succ n ih =>
    intro s h
    unfold State.fillSlots
    split
    · exact ih (h.nextIssue ‹_›)
    · exact h

end State.Moves

end Sys2Proof.Machine
end

section
/-! The moves of each command, and of a step. -/

namespace Sys2Proof.Machine

namespace State.Moves

variable {o : Prop} {r s : State}

/-- A command that acts moves the state where its effect does. -/
theorem ofAct {f : State → State} {t : State} (start : r.Moves o s) (e : s.act f = .next t) (h : r.Moves o (f s)) :
    r.Moves o t := by
  unfold State.act at e
  cases e
  exact .ite h start

/-- A transfer that is taken or waits moves the state where its acceptance does. -/
theorem transfer (start : r.Moves o s) (i : Instr) {accept : State → State} (h : r.Moves o (accept s)) :
    r.Moves o (s.transfer i accept) := .ite h.finish (start.withPort _)

theorem failCapacityRead (h : r.Moves o s) : r.Moves o s.failCapacityRead := .ite h (h.endCapacityRead none)

theorem failRamp (h : r.Moves o s) : r.Moves o s.failRamp :=
  .ite ((h.withRail _).place _) ((h.withRail _).place _).failCapacityRead

/-- A transfer of the host, which is taken or waits, moves the state as its taking does. -/
theorem ofTransfer {i : Instr} {t : State} (start : r.Moves o s)
    (e : (s.act fun s => s.transfer i fun s => s.takeTransfer i) = .next t) : r.Moves o t :=
  start.ofAct e (start.transfer i (start.takeTransfer i))

end State.Moves

/-- Every command moves the state, and opens nothing but where it is the completion of a write. -/
theorem exec_moves {i : Instr} {o : Prop} {r s t : State} (start : r.Moves o s) (e : exec i s = .next t)
    (allowed : i = .writeCompletion → o) : r.Moves o t := by
  cases i <;> dsimp only [exec] at e
  case read h => exact start.ofTransfer (i := .read h) e
  case write h => exact start.ofTransfer (i := .write h) e
  case trim h => exact start.ofTransfer (i := .trim h) e
  case sync h => exact start.ofTransfer (i := .sync h) e
  case unitInfo h => exact start.ofTransfer (i := .unitInfo h) e
  case status h b => exact start.ofTransfer (i := .status h b) e
  case eventRead h b => exact start.ofTransfer (i := .eventRead h b) e
  case unitDefine h b => exact start.ofTransfer (i := .unitDefine h b) e
  case unitDelete h b => exact start.ofTransfer (i := .unitDelete h b) e
  case grantSet h b => exact start.ofTransfer (i := .grantSet h b) e
  case credentialRemove h b => exact start.ofTransfer (i := .credentialRemove h b) e
  case enroll h b => exact start.ofTransfer (i := .enroll h b) e
  case policySet h b => exact start.ofTransfer (i := .policySet h b) e
  case lock h b => exact start.ofTransfer (i := .lock h b) e
  case eraseListWrite h b => exact start.ofTransfer (i := .eraseListWrite h b) e
  case eraseTail h b => exact start.ofTransfer (i := .eraseTail h b) e
  case eraseAbort h b => exact start.ofTransfer (i := .eraseAbort h b) e
  case eraseClear h b => exact start.ofTransfer (i := .eraseClear h b) e
  case tamperClear h b => exact start.ofTransfer (i := .tamperClear h b) e
  case unknownOp op h => exact start.ofTransfer (i := .unknownOp op h) e
  case discardedTransfer n => exact start.ofTransfer (i := .discardedTransfer n) e
  case refusedStatusSent =>
    refine start.ofAct e ?_
    split
    · exact .ite (start.withPort _).finish start
    · exact start
  case returnedDataSent =>
    refine start.ofAct e ?_
    split
    · split
      · exact .ite ((start.withPort _).updateEntry _ _) start
      · exact start
    · exact start
  case statusRecordSent =>
    refine start.ofAct e ?_
    split
    · exact .ite ((start.withPort _).withQueue _).finish start
    · exact start
  case dataStageDiscarded => exact start.ofAct e (.ite (start.withPort _).finish start)
  case interruptPoll => exact start.ofAct e (.ite ((start.withPort _).withEvents _) start)
  case readDataSent n =>
    refine start.ofAct e ?_
    split
    · exact start
    · exact .ite (((start.withPort _).updateEntry _ _).setBuffer _ _).finish start
  case writeIntakeEnd data =>
    refine start.ofAct e ?_
    split
    · exact .ite ((start.setSlot _ _).withPort _).finish start
    · exact start
  case segmentIssue => exact start.ofAct e (start.followNeed.fillSlots 4).finish
  case operationBegin n =>
    refine start.ofAct e ?_
    split
    · exact .ite (start.beginSlot _ _).finish start
    · exact start
  case mediaCompletion n reply =>
    refine start.ofAct e ?_
    split
    · split
      · exact (start.endSlot _ _).finish
      · exact start
    · exact start
  case mediaTimeoutExpiry n =>
    refine start.ofAct e ?_
    split
    · exact (((start.endSlot _ _).endOutstanding _).withLink _ |>.place _).finish
    · exact start
  case resetDoneReport => exact start.ofAct e (.ite (start.withLink _).finish start)
  case resetTimerExpiry => exact start.ofAct e (.ite (start.withLink _).finish start)
  case capacityReport answer => exact start.ofAct e (.ite (start.endCapacityRead _).finish start)
  case capacityCountdownExpiry => exact start.ofAct e (.ite (start.endCapacityRead _).finish start)
  case powerGood =>
    exact start.ofAct e (.ite (State.Moves.ite ((start.withRail _).withLink _) (start.withRail _)).finish start)
  case rampTimerExpiry => exact start.ofAct e (.ite start.failRamp.finish start)
  case retryTimerExpiry => exact start.ofAct e (.ite (start.withRail _) start)
  case powerGoodLoss =>
    exact start.ofAct e (.ite (((start.withRail _).place _).endOutstanding _).failCapacityRead.finish start)
  case switchOffTimerExpiry => exact start.ofAct e (.ite (start.withRail _).finish start)
  case drained u => exact start.ofAct e (.ite (start.signalDrained u).finish start)
  case idleTimerExpiry u => exact start.ofAct e (.ite (start.closeUnit _ u).finish start)
  case sessionIdleTimerExpiry => exact start.ofAct e (.ite start.closeSession.refreshLeds start)
  case keyReplacement u => exact start.ofAct e (start.takeRequest u).finish
  case writeStart => exact start.ofAct e start.startWrite
  case writeCompletion => exact start.ofAct e (.ite (start.completeWrite (allowed rfl)).finish start)
  case penaltyTimerExpiry => exact start.ofAct e (.ite start.penaltyExpired.refreshLeds start)
  case recognisedPress keys => exact start.ofAct e ((start.withScanner _).takePresses _).finish
  case recognisedRelease p =>
    exact start.ofAct e (.ite ((start.withScanner _).takeRelease p).clearLockout.refreshLeds start)
  case holdTimerExpiry => exact start.ofAct e (.ite (start.withScanner _).longPress.refreshLeds start)
  case recognisedSwitchChange on => exact start.ofAct e (.ite (start.switchChanged on) start)
  case interKeyExpiry => exact start.ofAct e (.ite start.interKeyExpired start)
  case enrollmentWindowExpiry => exact start.ofAct e (.ite (start.abandonAny _).refreshLeds start)
  case transientEnd l =>
    cases l with
    | red | green => exact start.ofAct e (start.withLeds _).refreshLeds
    | blue => exact start.ofAct e start
  case patternPhaseEnd l => cases l <;> exact start.ofAct e (start.withLeds _)
  case restTimerExpiry => exact start.ofAct e (start.withLeds _)
  case alarmRaise c v => exact start.ofAct e (start.completeRun _ v _).finish
  case alarmClear c v => exact start.ofAct e (start.completeRun _ v _).finish
  case enclosureTrip v => exact start.ofAct e (start.completeRun _ v _).finish
  case enclosureLevelIn v => exact start.ofAct e (start.completeRun _ v _)
  case descriptorStart => exact start.ofAct e (.ite start.startDescriptor.finish start)
  case progressDelayExpiry => exact start.ofAct e (.ite ((start.withErase _).place _) start)
  case eraseResume =>
    refine start.ofAct e (.ite ?_ start)
    split
    · exact (start.startRerun _ _).finish
    · exact start
  case owedEnclosureErase => exact start.ofAct e (.ite start.endReruns.finish start)
  case remoteWakeEnable => exact start.ofAct e (start.withPort _)
  case remoteWakeDisable => exact start.ofAct e (start.withPort _)
  case powerOn => cases e; exact start.powered
  case powerLoss => exact start.ofAct e start.unpowered
  case busReset => exact start.ofAct e ((((start.withSlots _).withQueue _).withPort _).withEvents _).finish
  case standbyEntry => exact start.ofAct e (.ite start ((start.withPort _).closeUnits _ _).finish)
  case standbyExit => exact start.ofAct e (.ite ((start.withPort _).withLeds _).refreshLeds.finish start)
  case scanSample keys on => exact start.ofAct e (start.sampleKeys keys on).finish
  case channelSample samples =>
    exact start.ofAct e (State.Moves.foldl (fun p h => h.sampleChannel p.1 p.2) samples start).finish

/-- Every step moves the state. -/
theorem step_moves {s t : State} (e : step s = .next t) : s.Moves True t := by
  unfold step at e
  split at e
  · cases e; exact .refl
  · exact exec_moves (State.Moves.refl.withPending _) e fun _ => trivial

end Sys2Proof.Machine
end

section
/-! Units, key slots, open order and session fit together after every move (R1 to R3, R66, R67, R71, R135), and so after
every step. -/

namespace Sys2Proof.Machine

/-- The kind of a unit, absent for a unit that is not defined. -/
def State.kind (s : State) (u : UnitNo) : Option UnitKind := (s.unitDef u).map UnitDef.kind

theorem State.unitDef_eq_none_iff (s : State) (u : UnitNo) : s.unitDef u = none ↔ s.kind u = none := by
  simp [State.kind]

theorem State.isClear_iff (s : State) (u : UnitNo) : s.isClear u = true ↔ s.kind u = some .clear := by
  unfold State.isClear State.kind
  cases s.unitDef u <;> simp

theorem State.isSecure_iff (s : State) (u : UnitNo) : s.isSecure u = true ↔ s.kind u = some .secure := by
  unfold State.isSecure State.kind
  cases s.unitDef u <;> simp

/-! ## One unit -/

/-- Everything that the fit of a unit speaks of. -/
structure UnitView where
  kind : Option UnitKind
  run : UnitRun
  slot : KeySlot
  ordered : Prop

def State.view (s : State) (u : UnitNo) : UnitView :=
  { kind := s.kind u, run := s.unitRun u, slot := s.cipher.slots[u], ordered := u ∈ s.control.openOrder }

/-- The fit of a unit, read from its view. -/
structure UnitView.fits (v : UnitView) : Prop where
  undefined : v.kind = none → v.run.state = .locked
  clear : v.kind = some .clear → v.run.state = .locked ∨ v.run.state = .erasing
  slot : v.slot.state = v.run.state.keySlot
  key : v.slot.state = .empty → v.slot.key = none
  mode : v.run.mode.isSome = v.run.reported
  opener : v.run.opener.isSome = v.run.reported
  timer : v.run.idleTimer.isSome = true → v.run.state = .opened
  pending : v.run.claimPending = true → v.run.state = .closing
  order : v.ordered ↔ v.run.state = .opened

/-- Nothing is left of an open unit: no key, no mode or opener, no timer, no claim, no place in the open order. -/
structure UnitView.atRest (v : UnitView) : Prop where
  slot : v.slot.state = .empty
  key : v.slot.key = none
  mode : v.run.mode = none
  opener : v.run.opener = none
  timer : v.run.idleTimer = none
  pending : v.run.claimPending = false
  order : ¬ v.ordered

/-- A unit that is neither OPEN nor CLOSING fits when it is at rest, and LOCKED where it is undefined. -/
theorem UnitView.fits_iff_atRest {v : UnitView} (h : v.run.state = .locked ∨ v.run.state = .erasing) :
    v.fits ↔ (v.kind = none → v.run.state = .locked) ∧ v.atRest := by
  have unopened : v.run.state ≠ .opened := by rcases h with h | h <;> simp [h]
  have unclosing : v.run.state ≠ .closing := by rcases h with h | h <;> simp [h]
  have empty : v.run.state.keySlot = .empty := by rcases h with h | h <;> simp [h, UnitState.keySlot]
  have unreported : v.run.reported = false := by simp [UnitRun.reported, unopened, unclosing]
  constructor
  · intro ⟨undefined, _, slot, key, mode, opener, timer, pending, order⟩
    simp only [unreported, Option.isSome_eq_false_iff, Option.isNone_iff_eq_none, empty, unopened, unclosing, imp_false,
      Bool.not_eq_true] at slot mode opener timer pending
    exact ⟨undefined, slot, key slot, mode, opener, by simpa using timer, pending, mt order.1 unopened⟩
  · intro ⟨undefined, slot, key, mode, opener, timer, pending, order⟩
    exact ⟨undefined, fun _ => h, slot.trans empty.symm, fun _ => key, by simp [mode, unreported],
      by simp [opener, unreported], by simp [timer], by simp [pending], by simp [order, unopened]⟩

theorem UnitView.fits_locked {v : UnitView} (h : v.run.state = .locked) : v.fits ↔ v.atRest := by
  simp [UnitView.fits_iff_atRest (.inl h), h]

theorem UnitView.fits_erasing {v : UnitView} (h : v.run.state = .erasing) : v.fits ↔ v.kind ≠ none ∧ v.atRest := by
  simp [UnitView.fits_iff_atRest (.inr h), h]

theorem UnitView.fits_opened {v : UnitView} (h : v.run.state = .opened) :
    v.fits ↔ v.kind = some .secure ∧ v.slot.state = .loaded ∧ v.run.mode.isSome = true ∧ v.run.opener.isSome = true ∧
      v.run.claimPending = false ∧ v.ordered := by
  constructor
  · intro ⟨undefined, clear, slot, _, mode, opener, _, pending, order⟩
    simp [h, UnitRun.reported, UnitState.keySlot] at undefined clear slot mode opener pending order
    exact ⟨by cases k : v.kind with
      | none => exact absurd k undefined
      | some k' => cases k' <;> simp_all, slot, mode, opener, pending, order⟩
  · intro ⟨kind, slot, mode, opener, pending, order⟩
    exact ⟨by simp [kind], by simp [kind], by simp [slot, h, UnitState.keySlot], by simp [slot],
      by simp [mode, h, UnitRun.reported], by simp [opener, h, UnitRun.reported], fun _ => h, by simp [pending],
      by simp [order, h]⟩

theorem UnitView.fits_closing {v : UnitView} (h : v.run.state = .closing) :
    v.fits ↔ v.kind = some .secure ∧ v.slot.state = .draining ∧ v.run.mode.isSome = true ∧ v.run.opener.isSome = true ∧
      v.run.idleTimer = none ∧ ¬ v.ordered := by
  constructor
  · intro ⟨undefined, clear, slot, _, mode, opener, timer, _, order⟩
    simp [h, UnitRun.reported, UnitState.keySlot] at undefined clear slot mode opener timer order
    exact ⟨by cases k : v.kind with
      | none => exact absurd k undefined
      | some k' => cases k' <;> simp_all, slot, mode, opener, timer, order⟩
  · intro ⟨kind, slot, mode, opener, timer, order⟩
    exact ⟨by simp [kind], by simp [kind], by simp [slot, h, UnitState.keySlot], by simp [slot],
      by simp [mode, h, UnitRun.reported], by simp [opener, h, UnitRun.reported], by simp [timer], fun _ => h,
      by simp [order, h]⟩

theorem State.unitFits_iff (s : State) (u : UnitNo) : s.unitFits u ↔ (s.view u).fits := by
  constructor
  · intro ⟨h1, h2, h3, h4, h5, h6, h7, h8, h9⟩
    exact ⟨fun k => h1 ((s.unitDef_eq_none_iff u).2 k), fun k => h2 ((s.isClear_iff u).2 k), h3, h4, h5, h6, h7, h8,
      h9⟩
  · intro ⟨h1, h2, h3, h4, h5, h6, h7, h8, h9⟩
    exact ⟨fun k => h1 ((s.unitDef_eq_none_iff u).1 k), fun k => h2 ((s.isClear_iff u).1 k), h3, h4, h5, h6, h7, h8,
      h9⟩

theorem State.unitsFit_iff (s : State) :
    s.unitsFit ↔ (∀ u, (s.view u).fits) ∧ s.control.openOrder.Nodup ∧ s.control.sessionTimer.isSome = s.control.session :=
  ⟨fun ⟨units, order, session⟩ => ⟨fun u => (s.unitFits_iff u).1 (units u), order, session⟩,
    fun ⟨units, order, session⟩ => ⟨fun u => (s.unitFits_iff u).2 (units u), order, session⟩⟩

/-! ## The views after an update -/

section Views

variable (s : State) (u v : UnitNo)

theorem unit_ne {u v : UnitNo} (h : v ≠ u) : (u : Nat) ≠ v := fun e => h (Fin.ext e.symm)

theorem State.view_setUnit (x : UnitRun) :
    (s.setUnit u x).view v = if v = u then { s.view v with run := x } else s.view v := by
  by_cases h : v = u
  · simp [h, State.view, State.kind, State.unitDef, State.unitRun, State.setUnit]
  · simp [h, unit_ne h, State.view, State.kind, State.unitDef, State.unitRun, State.setUnit]

theorem State.view_setKeySlot (x : KeySlot) :
    (s.setKeySlot u x).view v = if v = u then { s.view v with slot := x } else s.view v := by
  by_cases h : v = u
  · simp [h, State.view, State.kind, State.unitDef, State.unitRun, State.setKeySlot]
  · simp [h, unit_ne h, State.view, State.kind, State.unitDef, State.unitRun, State.setKeySlot]

theorem State.view_setUnitDef (d : Option UnitDef) :
    (s.setUnitDef u d).view v = if v = u then { s.view v with kind := d.map UnitDef.kind } else s.view v := by
  by_cases h : v = u
  · simp [h, State.view, State.kind, State.unitDef, State.unitRun, State.setUnitDef, State.withImage]
  · simp [h, unit_ne h, State.view, State.kind, State.unitDef, State.unitRun, State.setUnitDef, State.withImage]

theorem State.view_withControl (c : UnitControl) :
    (s.withControl c).view v = { s.view v with ordered := v ∈ c.openOrder } := rfl

theorem State.view_setKey (k : Option CipherKey) : (s.setKey u k).view v = s.view v := rfl

theorem State.view_place (e : Event) : (s.place e).view v = s.view v := rfl

@[simp] theorem State.setUnit_control (x : UnitRun) : (s.setUnit u x).control = s.control := rfl
@[simp] theorem State.setUnit_cipher (x : UnitRun) : (s.setUnit u x).cipher = s.cipher := rfl
@[simp] theorem State.setKeySlot_control (x : KeySlot) : (s.setKeySlot u x).control = s.control := rfl

theorem State.unitRun_setUnit (x : UnitRun) : (s.setUnit u x).unitRun u = x := by simp [State.unitRun, State.setUnit]

/-- A change of a unit's record that keeps its kind changes no view. -/
theorem State.view_setUnitDef_map (f : UnitDef → UnitDef) (keeps : ∀ d, (f d).kind = d.kind) :
    (s.setUnitDef u ((s.unitDef u).map f)).view v = s.view v := by
  rw [State.view_setUnitDef]
  split
  · rename_i h
    subst h
    simp only [State.view, State.kind, Option.map_map]
    congr 2
    funext d
    exact keeps d
  · rfl

end Views

/-! ## Moves of one unit -/

namespace State.unitsFit

variable {s t : State} {u : UnitNo}

theorem views (fit : s.unitsFit) (u : UnitNo) : (s.view u).fits := (s.unitFits_iff u).1 (fit.units u)

/-- A move that changes one unit, and the open order only by that unit. -/
theorem change (fit : s.unitsFit) (u : UnitNo) (others : ∀ v, v ≠ u → t.view v = s.view v) (own : (t.view u).fits)
    (order : t.control.openOrder.Nodup) (session : t.control.session = s.control.session)
    (timer : t.control.sessionTimer = s.control.sessionTimer) : t.unitsFit := by
  refine (t.unitsFit_iff).2 ⟨fun v => ?_, order, by rw [timer, session]; exact fit.session⟩
  by_cases h : v = u
  · rw [h]; exact own
  · rw [others v h]; exact fit.views v

/-- A move that changes no view. -/
theorem keeps (fit : s.unitsFit) (views : ∀ v, t.view v = s.view v) (control : t.control = s.control) : t.unitsFit :=
  t.unitsFit_iff.2 ⟨fun v => by rw [views v]; exact fit.views v, by rw [control]; exact fit.order,
    by rw [control]; exact fit.session⟩

/-- A unit whose fields change alone, to ones that fit with the same state. -/
theorem setUnit (fit : s.unitsFit) (x : UnitRun) (own : UnitView.fits { s.view u with run := x }) :
    (s.setUnit u x).unitsFit :=
  fit.change u (fun v h => by rw [view_setUnit, if_neg h]) (by rw [view_setUnit, if_pos rfl]; exact own) fit.order rfl
    rfl

theorem closing (fit : s.unitsFit) (c : CloseCause) (claim : Bool) (opened : s.unitState u = .opened) :
    (s.closing u c claim).unitsFit := by
  have view : ∀ v, (s.closing u c claim).view v = if v = u then
      { kind := s.kind u, run := { s.unitRun u with state := .closing, idleTimer := none, claimPending := claim },
        slot := { s.cipher.slots[u] with state := .draining }, ordered := False } else s.view v := by
    intro v
    by_cases h : v = u <;>
      simp [State.closing, State.startClose, view_place, view_withControl, view_setKeySlot, view_setUnit, h,
        unitRun_setUnit]
    · simp [State.view]
    · simp [State.view]
  refine fit.change u (fun v h => by rw [view v, if_neg h]) ?_ (fit.order.filter _) rfl rfl
  obtain ⟨kind, -, mode, opener, -⟩ := (UnitView.fits_opened opened).1 (fit.views u)
  rw [view u, if_pos rfl, UnitView.fits_closing rfl]
  exact ⟨kind, rfl, mode, opener, rfl, id⟩

theorem claimClosing (fit : s.unitsFit) (closing : s.unitState u = .closing) :
    (s.setUnit u { s.unitRun u with claimPending := true }).unitsFit :=
  fit.setUnit _ ((UnitView.fits_closing closing).2 ((UnitView.fits_closing (v := s.view u) closing).1 (fit.views u)))

theorem erasing (fit : s.unitsFit) (defined : s.unitDef u ≠ none) (locked : s.unitState u = .locked) :
    (s.erasing u).unitsFit := by
  obtain ⟨slot, key, -, -, timer, pending, order⟩ := (UnitView.fits_locked locked).1 (fit.views u)
  refine fit.setUnit _ ((UnitView.fits_erasing rfl).2 ⟨?_, slot, key, rfl, rfl, timer, pending, order⟩)
  exact mt (s.unitDef_eq_none_iff u).2 defined

theorem unlockErasing (fit : s.unitsFit) (erasing : s.unitState u = .erasing) : (s.unlockErasing u).unitsFit := by
  obtain ⟨-, slot, key, -, -, timer, -, order⟩ := (UnitView.fits_erasing erasing).1 (fit.views u)
  exact fit.setUnit _ ((UnitView.fits_locked rfl).2 ⟨slot, key, rfl, rfl, timer, rfl, order⟩)

theorem idleTimer (fit : s.unitsFit) (n : Option Nat) (opened : s.unitState u = .opened) :
    (s.setUnit u { s.unitRun u with idleTimer := n }).unitsFit :=
  fit.setUnit _ ((UnitView.fits_opened opened).2 ((UnitView.fits_opened (v := s.view u) opened).1 (fit.views u)))

theorem endClose (fit : s.unitsFit) (u : UnitNo) : (s.endClose u).unitsFit := by
  unfold State.endClose
  split
  · rename_i closing
    obtain ⟨kind, -, -, -, timer, order⟩ := (UnitView.fits_closing closing).1 (fit.views u)
    refine fit.change u (fun v h => by rw [view_setKeySlot, if_neg h, view_setUnit, if_neg h]) ?_ fit.order rfl rfl
    rw [view_setKeySlot, if_pos rfl, view_setUnit, if_pos rfl]
    cases (s.unitRun u).claimPending
    · exact (UnitView.fits_locked rfl).2 ⟨rfl, rfl, rfl, rfl, timer, rfl, order⟩
    · exact (UnitView.fits_erasing rfl).2 ⟨by simp [kind], rfl, rfl, rfl, rfl, timer, rfl, order⟩
  · exact fit

/-- The open order with a unit moved to its end names no unit twice. -/
theorem order_last (fit : s.unitsFit) (u : UnitNo) :
    ((s.control.openOrder.filter fun v => decide (v ≠ u)) ++ [u]).Nodup := by
  rw [List.nodup_append]
  refine ⟨fit.order.filter _, List.nodup_singleton u, ?_⟩
  simp

/-- The views after a unit has been set and moved to the end of the open order. -/
theorem view_orderLast (s : State) (u v : UnitNo) (x : UnitRun) :
    ((s.setUnit u x).orderLast u).view v = if v = u then { s.view u with run := x, ordered := True } else s.view v := by
  by_cases h : v = u <;> simp [State.orderLast, view_withControl, view_setUnit, h]
  simp [State.view]

theorem widenUnit (fit : s.unitsFit) (k : SlotNo) (d : UnitDef) (m : Mode) (opened : s.unitState u = .opened) :
    (s.widenUnit k d u m).unitsFit := by
  obtain ⟨kind, slot, -, -, pending, -⟩ := (UnitView.fits_opened opened).1 (fit.views u)
  unfold State.widenUnit
  refine fit.change u (fun v h => ?_) ?_ (fit.order_last u) rfl rfl
  · rw [view_place, view_orderLast, if_neg h]
  · rw [view_place, view_orderLast, if_pos rfl]
    exact (UnitView.fits_opened opened).2 ⟨kind, slot, rfl, rfl, pending, trivial⟩

theorem openUnit (fit : s.unitsFit) (k : SlotNo) {d : UnitDef} (m : Mode) (defined : s.unitDef u = some d)
    (secure : d.kind = .secure) (locked : s.unitState u = .locked) : (s.openUnit k d u m).unitsFit := by
  have pending := ((UnitView.fits_locked locked).1 (fit.views u)).pending
  unfold State.openUnit
  refine fit.change u (fun v h => ?_) ?_ (fit.order_last u) rfl rfl
  · rw [view_place, State.orderLast, view_withControl, view_setKeySlot, if_neg h, view_setUnit, if_neg h]
    simp [State.view, h]
  · rw [view_place, State.orderLast, view_withControl, view_setKeySlot, if_pos rfl, view_setUnit, if_pos rfl,
      UnitView.fits_opened rfl]
    exact ⟨by simp [State.view, State.kind, defined, secure], rfl, rfl, rfl, pending, by simp⟩

/-! ## Other moves -/

theorem capacityCheck (fit : s.unitsFit) (m : Option Nat) : (s.capacityCheck m).unitsFit := by
  refine (s.capacityCheck m).unitsFit_iff.2 ⟨fun u => ?_, fit.order, fit.session⟩
  have run : ∃ b, (s.capacityCheck m).unitRun u = { s.unitRun u with unusable := b } := by
    simp only [State.capacityCheck, State.unitRun, State.withUnits, Fin.getElem_fin, Vector.getElem_ofFn, checkedUnit]
    split <;> exact ⟨_, rfl⟩
  obtain ⟨b, run⟩ := run
  obtain ⟨undefined, clear, slot, key, mode, opener, timer, pending, order⟩ := fit.views u
  have view : (s.capacityCheck m).view u = { s.view u with run := { s.unitRun u with unusable := b } } := by
    rw [← run]; rfl
  rw [view]
  exact ⟨undefined, clear, slot, key, mode, opener, timer, pending, order⟩

theorem withSession (fit : s.unitsFit) (b : Bool) {n : Option Nat} (timer : n.isSome = b) :
    (s.withSession b n).unitsFit :=
  (s.withSession b n).unitsFit_iff.2 ⟨fit.views, fit.order, timer⟩

theorem startWrite (fit : s.unitsFit) : s.startWrite.unitsFit := by
  unfold State.startWrite
  split
  · exact fit
  · split
    · exact fit.keeps (fun _ => rfl) rfl
    · exact fit

/-- A unit that is not held is LOCKED, by the fit of its fields where it is undefined. -/
theorem locked_of_not_held (fit : s.unitsFit) (free : s.unitHeld u = false) : s.unitState u = .locked := by
  unfold State.unitHeld at free
  split at free
  · exact (fit.units u).undefined ‹_›
  · simp only [Bool.or_eq_false_iff, decide_eq_false_iff_not, not_not] at free
    exact free.1.1.1

theorem redefined (fit : s.unitsFit) (d : Option UnitDef) (k : Option CipherKey) (free : s.unitHeld u = false) :
    (s.redefined u d k).unitsFit := by
  have rest := (UnitView.fits_locked (v := s.view u) (fit.locked_of_not_held free)).1 (fit.views u)
  unfold State.redefined State.putUnit
  refine fit.change u (fun v h => ?_) ?_ fit.order rfl rfl
  · rw [view_setKey, view_setUnit, if_neg h, view_setUnitDef, if_neg h]
  · rw [view_setKey, view_setUnit, if_pos rfl, view_setUnitDef, if_pos rfl]
    exact (UnitView.fits_locked rfl).2 ⟨rest.slot, rest.key, rfl, rfl, rfl, rfl, rest.order⟩

end State.unitsFit

/-- A part without VBUS fits. -/
theorem unitsFit_unpowered (r : Records) : (State.unpowered r).unitsFit := by
  refine (State.unpowered r).unitsFit_iff.2 ⟨fun u => ?_, List.nodup_nil, rfl⟩
  have run : ((State.unpowered r).view u).run = UnitRun.fresh := by
    simp [State.view, State.unitRun, State.unpowered]
  have slot : ((State.unpowered r).view u).slot = ⟨.empty, none⟩ := by simp [State.view, State.unpowered]
  rw [UnitView.fits_locked (by rw [run]; rfl)]
  exact ⟨by rw [slot], by rw [slot], by rw [run]; rfl, by rw [run]; rfl, by rw [run]; rfl, by rw [run]; rfl,
    List.not_mem_nil⟩

/-- After the application of VBUS every unit is as its record loads it, and at rest (R8, R67). -/
theorem unitsFit_powered (s : State) : s.powered.unitsFit := by
  refine s.powered.unitsFit_iff.2 ⟨fun u => ?_, List.nodup_nil, rfl⟩
  have run : (s.powered.view u).run = loadedUnit (s.powered.unitDef u) := by
    simp [State.view, State.powered, State.unitRun, State.unitDef, State.refreshLeds, State.followNeed]
  have slot : (s.powered.view u).slot = ⟨.empty, none⟩ := by
    simp [State.view, State.powered, State.unpowered, State.refreshLeds, State.followNeed]
  have order : ¬ (s.powered.view u).ordered := List.not_mem_nil
  have rest : (s.powered.view u).atRest := by
    refine ⟨by rw [slot], by rw [slot], ?_, ?_, ?_, ?_, order⟩ <;> rw [run] <;> unfold loadedUnit <;> split <;> rfl
  cases d : s.powered.unitDef u with
  | none => exact (UnitView.fits_locked (by rw [run, d]; rfl)).2 rest
  | some d' =>
    cases m : d'.marker with
    | none => exact (UnitView.fits_locked (by simp [run, d, m, loadedUnit])).2 rest
    | some w =>
      refine (UnitView.fits_erasing (by simp [run, d, m, loadedUnit])).2 ⟨?_, rest⟩
      exact mt (s.powered.unitDef_eq_none_iff u).2 (by simp [d])

/-- Units, key slots, open order and session fit together after every move. -/
theorem unitsFit_of_moves {s t : State} (fit : s.unitsFit) {o : Prop} (moves : s.Moves o t) : t.unitsFit := by
  induction moves with
  | refl => exact fit
  | @other x y _ units slots control store ih =>
    refine ih.keeps (fun v => ?_) control
    simp only [State.view, State.kind, State.unitDef, State.unitRun, units, slots, control, store]
  | closing _ c claim opened ih => exact ih.closing c claim opened
  | claimClosing _ closing ih => exact ih.claimClosing closing
  | erasing _ defined locked ih => exact ih.erasing defined locked
  | endClose _ u ih => exact ih.endClose u
  | unlockErasing _ erasing ih => exact ih.unlockErasing erasing
  | openUnit _ _ k m defined secure locked ih => exact ih.openUnit k m defined secure locked
  | widenUnit _ k d m opened ih => exact ih.widenUnit k d m opened
  | idleTimer _ n opened ih => exact ih.idleTimer n opened
  | capacityCheck _ m ih => exact ih.capacityCheck m
  | session _ b timer _ ih => exact ih.withSession b timer
  | powered _ _ => exact unitsFit_powered _
  | unpowered _ _ => exact (unitsFit_unpowered _).keeps (fun _ => rfl) rfl
  | marker _ u w ih => exact ih.keeps (fun v => State.view_setUnitDef_map _ u v _ fun _ => rfl) rfl
  | rekeyed _ k secure ih => exact ih.keeps (fun v => State.view_setUnitDef_map _ _ v _ fun _ => rfl) rfl
  | defined _ _ free _ ih => exact ih.redefined _ _ free
  | deleted _ free ih => exact ih.redefined _ _ free
  | startWrite _ ih => exact ih.startWrite
  | credential _ _ _ ih | policy _ _ ih | attempt _ _ ih | latch _ _ ih | request _ _ _ ih | stored _ _ ih =>
    exact ih.keeps (fun _ => rfl) rfl

/-- Settles O5: every step is a chain of moves, and each move keeps the fit. -/
theorem stepKeepsUnitsFit : Obligations.StepKeepsUnitsFit :=
  fun _ _ fit step => unitsFit_of_moves fit (step_moves step)

end Sys2Proof.Machine
end

section
/-! Policies, unit records, grant lists and keys keep their limits at every move (R1, R2, R4, R76, R83, R108, R180,
R216), and so at every step. -/

namespace Sys2Proof.Machine

/-! ## Records -/

/-- What stands in a record after a write. -/
theorem Records.content_write (r : Records) (c : RecordContent) (id : RecordId) :
    (r.write c).content id = if id = c.id then c else r.content id := by
  cases c <;> cases id <;> simp only [Records.write, Records.content, RecordContent.id, reduceCtorEq, if_false, if_true,
    RecordId.credential.injEq, RecordId.unit.injEq, RecordId.key.injEq]
  case credential.credential k c j =>
    by_cases h : j = k
    · simp [h]
    · have : (k : Nat) ≠ j := fun e => h (Fin.ext e.symm)
      simp [h, this]
  case unit.unit u d v =>
    by_cases h : v = u
    · simp [h]
    · simp [h, unit_ne h]
  case key.key u k v =>
    by_cases h : v = u
    · simp [h]
    · simp [h, unit_ne h]

/-- Every record holds a content within its limits. -/
def Records.fits (r : Records) : Prop := ∀ id, (r.content id).fits

theorem Records.fits_write {r : Records} {c : RecordContent} (fit : r.fits) (h : c.fits) : (r.write c).fits := by
  intro id
  rw [Records.content_write]
  split
  · exact h
  · exact fit id

theorem Policy.fits_default : Policy.default.fits := by
  constructor <;> simp only [Policy.default] <;> try decide
  intro c
  have : ∀ c : Fin 4, Policy.default.channels[c].low ≤ Policy.default.channels[c].high ∧
    Policy.default.channels[c].high ≤ 4095 := by decide
  exact this c

theorem Records.fits_blank : Records.blank.fits := by
  intro id
  cases id with
  | credential k => simpa [Records.content, Records.blank, RecordContent.fits] using Machine.fits_blank
  | policy => exact Policy.fits_default
  | unit u => simp [Records.content, Records.blank, RecordContent.fits]
  | key u => exact trivial
  | attempt => exact trivial
  | latch => exact trivial

/-- A load disregards a key beside a unit that is not SECURE (R76). -/
theorem Records.loaded_keys (r : Records) (u : UnitNo) :
    r.loaded.keys[u] = if r.units[u].map UnitDef.kind = some .secure then r.keys[u] else none := by
  show (Vector.ofFn _)[u] = _
  simp only [Fin.getElem_fin, Vector.getElem_ofFn]
  cases r.units[u.val] with
  | none => simp
  | some d => by_cases k : d.kind = .secure <;> simp [k]

/-- A load changes keys alone. -/
theorem Records.fits_loaded {r : Records} (fit : r.fits) : r.loaded.fits := by
  intro id
  cases id with
  | key u => exact trivial
  | credential k => exact fit (.credential k)
  | unit u => exact fit (.unit u)
  | policy => exact fit .policy
  | attempt => exact fit .attempt
  | latch => exact fit .latch

/-! ## The policy that a block spells -/

theorem fits_of_channelPolicyOf {b : List Byte} {n : Nat} {c : ChannelPolicy} (h : channelPolicyOf b n = some c) :
    c.fits := by
  simp only [channelPolicyOf, Option.bind_eq_bind, Option.bind_eq_some_iff] at h
  obtain ⟨_, -, h⟩ := h
  split at h
  · cases h
  · rename_i refused
    cases h
    simp only [Bool.or_eq_true, decide_eq_true_eq, not_or, not_lt] at refused
    exact ⟨refused.2, refused.1.2⟩

/-- POLICY SET leaves a policy within the limits, where the one that stands is (R108, R191, R216). -/
theorem fits_of_policyOf {stored p : Policy} {f : Nat} {b : List Byte} (fit : stored.fits)
    (h : policyOf stored f b = some p) : p.fits := by
  simp only [policyOf, Option.bind_eq_bind, Option.bind_eq_some_iff] at h
  obtain ⟨c0, h0, c1, h1, c2, h2, c3, h3, action, -, h⟩ := h
  split at h
  · rename_i attempts
    cases h
    simp only [attemptFieldsFit, Bool.and_eq_true, decide_eq_true_eq] at attempts
    obtain ⟨⟨⟨⟨⟨⟨⟨⟨hl, hl'⟩, hq⟩, hql⟩, hqp⟩, hpl⟩, -⟩, hm⟩, hm'⟩ := attempts
    have byte : ∀ i, byteAt b i < 256 := fun i => (b.getD i 0).isLt
    refine ⟨⟨hl, hl'⟩, ⟨hq, hql⟩, ⟨hqp, by dsimp only; omega⟩, ?_, ?_, ⟨hm, hm'⟩, ?_, ?_, ?_, ?_⟩
    · simp only [clampTo]; omega
    · simp only [clampTo]; omega
    · simp only [clampTo]; omega
    · dsimp only
      have := fit.threshold
      split <;> omega
    · have := byte 9
      dsimp only
      omega
    · intro c
      match c with
      | 0 => exact fits_of_channelPolicyOf h0
      | 1 => exact fits_of_channelPolicyOf h1
      | 2 => exact fits_of_channelPolicyOf h2
      | 3 => exact fits_of_channelPolicyOf h3
  · cases h

/-! ## Writes that are due -/

/-- What stands in the pending set after a request joins it. -/
theorem content_of_mem_joinPending {set : List WriteRequest} {x w : WriteRequest} (h : w ∈ joinPending set x) :
    w ∈ set ∨ w.content = x.content := by
  unfold joinPending at h
  split at h
  · obtain ⟨v, hv, rfl⟩ := List.mem_map.1 h
    split
    · exact .inr rfl
    · exact .inl hv
  · rcases List.mem_append.1 h with h | h
    · exact .inl h
    · rw [List.mem_singleton.1 h]
      exact .inr rfl

/-! ## Moves of the store -/

namespace State.recordsFit

variable {s t : State} {u : UnitNo}

theorem ofStore (fit : s.recordsFit) (store : t.store = s.store) : t.recordsFit := by
  obtain ⟨array, image, pending, running, keys⟩ := fit
  refine ⟨?_, ?_, ?_, ?_, ?_⟩ <;> simpa only [State.isSecure, State.unitDef, store]

/-- A record of the image is changed, to a content that fits. -/
theorem write (fit : s.recordsFit) (c : RecordContent) (h : c.fits)
    (keys : ∀ v, (s.withImage (s.store.image.write c)).isSecure v = false → (s.store.image.write c).keys[v] = none) :
    (s.withImage (s.store.image.write c)).recordsFit :=
  ⟨fit.array, Records.fits_write fit.image h, fit.pending, fit.running, keys⟩

/-- The record of a defined unit fits. -/
theorem unitDef (fit : s.recordsFit) {d : UnitDef} (defined : s.unitDef u = some d) : d.fits := by
  have := fit.image (.unit u)
  rwa [Records.content, show s.store.image.units[u] = some d from defined] at this

theorem isSecure_eq {t : State} (h : t.kind u = s.kind u) : t.isSecure u = s.isSecure u := by
  rw [Bool.eq_iff_iff, State.isSecure_iff, State.isSecure_iff, h]

/-- A change of a unit's record that keeps its kind. -/
theorem setUnitDef_map (fit : s.recordsFit) (u : UnitNo) (f : UnitDef → UnitDef) (kind : ∀ d, (f d).kind = d.kind)
    (fits : ∀ d, s.unitDef u = some d → (f d).fits) : (s.setUnitDef u ((s.unitDef u).map f)).recordsFit := by
  refine fit.write (.unit u ((s.unitDef u).map f)) ?_ fun v h => ?_
  · cases d : s.unitDef u with
    | none => exact trivial
    | some d' => exact fits d' d
  · have same : (s.setUnitDef u ((s.unitDef u).map f)).kind v = s.kind v :=
      congrArg UnitView.kind (State.view_setUnitDef_map s u v f kind)
    exact fit.keys v (by rw [← isSecure_eq same]; exact h)

theorem marker (fit : s.recordsFit) (u : UnitNo) (w : Option EraseWork) : (s.setMarker u w).recordsFit :=
  fit.setUnitDef_map u _ (fun _ => rfl) fun _ defined => by
    obtain ⟨length, generation, clear, idle⟩ := fit.unitDef defined
    exact ⟨length, generation, clear, idle⟩

/-- The image's key of a unit is changed, to none where the unit is not SECURE. -/
theorem setKey (fit : s.recordsFit) (u : UnitNo) (k : Option CipherKey) (key : s.isSecure u = false → k = none) :
    (s.setKey u k).recordsFit := by
  refine fit.write (.key u k) trivial fun v h => ?_
  simp only [Records.write]
  by_cases e : v = u
  · subst e
    simpa using key h
  · simpa [unit_ne e] using fit.keys v h

theorem rekeyed (fit : s.recordsFit) (k : CipherKey) (secure : s.isSecure u = true) : (s.rekeyed u k).recordsFit := by
  refine (fit.setKey u (some k) (by simp [secure])).setUnitDef_map u _ (fun _ => rfl) fun d defined => ?_
  obtain ⟨length, -, -, idle⟩ := fit.unitDef (d := d) defined
  have kind : d.kind = .secure := by
    simpa [State.isSecure, show s.unitDef u = some d from defined] using secure
  exact ⟨length, by simp [raised], by simp [kind], idle⟩

/-- A unit's record is replaced with its key. -/
theorem redefined (fit : s.recordsFit) {d : Option UnitDef} {k : Option CipherKey} (fits : ∀ x, d = some x → x.fits)
    (key : d.map UnitDef.kind ≠ some .secure → k = none) : (s.redefined u d k).recordsFit := by
  have content : (s.redefined u d k).store.image = (s.store.image.write (.unit u d)).write (.key u k) := rfl
  have unit : (RecordContent.unit u d).fits := by
    cases d with
    | none => exact trivial
    | some x => exact fits x rfl
  refine ⟨fit.array, ?_, fit.pending, fit.running, fun v h => ?_⟩
  · rw [content]; exact Records.fits_write (Records.fits_write fit.image unit) trivial
  · have kind : (s.redefined u d k).kind v = if v = u then d.map UnitDef.kind else s.kind v := by
      have := congrArg UnitView.kind (State.view_setUnitDef s u v d)
      rw [apply_ite UnitView.kind] at this
      exact this
    rw [content]
    simp only [Records.write]
    by_cases e : v = u
    · subst e
      have : ¬ (s.redefined v d k).isSecure v = true := by simp [h]
      simpa using key (by rwa [State.isSecure_iff, kind, if_pos rfl] at this)
    · have : s.isSecure v = false := by rw [← h]; exact (isSecure_eq (by rw [kind, if_neg e])).symm
      simpa [unit_ne e] using fit.keys v this

theorem credential (fit : s.recordsFit) (k : SlotNo) {c : CredRecord} (h : c.fits ∨ c.grants = (s.cred k).grants) :
    (s.setCred k c).recordsFit := by
  refine fit.write (.credential k c) ?_ fit.keys
  rcases h with h | h
  · exact h
  · have before : (s.cred k).fits := fit.image (.credential k)
    unfold CredRecord.fits at before
    rwa [← h] at before

theorem policy (fit : s.recordsFit) {f : Nat} {b : List Byte} {p : Policy}
    (read : policyOf s.store.image.policy f b = some p) : (s.setPolicy p).recordsFit :=
  fit.write (.policy p) (fits_of_policyOf (fit.image .policy) read) fit.keys

theorem request (fit : s.recordsFit) (id : RecordId) (ws : List Waiter) : (s.requestWrite id ws).recordsFit := by
  refine ⟨fit.array, fit.image, fun w h => ?_, fit.running, fit.keys⟩
  rcases content_of_mem_joinPending h with h | h
  · exact fit.pending w h
  · rw [h]; exact fit.image id

theorem startWrite (fit : s.recordsFit) : s.startWrite.recordsFit := by
  unfold State.startWrite
  split
  · exact fit
  · rename_i w ws set
    split
    · refine ⟨fit.array, fit.image, fun v h => fit.pending v ?_, fun v h => fit.pending v ?_, fit.keys⟩
      · rw [set]; exact List.mem_cons_of_mem _ h
      · rw [set, ← Option.some.inj h]; exact List.mem_cons_self
    · exact fit

theorem stored (fit : s.recordsFit) {w : WriteRequest} (running : s.store.running = some w) :
    (s.stored w).recordsFit :=
  ⟨Records.fits_write fit.array (fit.running w running), fit.image, fit.pending, nofun, fit.keys⟩

/-- The application of VBUS loads the array, with no key beside a unit that is not SECURE (R76, R203). -/
theorem powered (fit : s.recordsFit) : s.powered.recordsFit := by
  refine ⟨fit.array, Records.fits_loaded fit.array, fun w h => absurd h List.not_mem_nil, nofun,
    fun u h => ?_⟩
  have secure : ¬ s.powered.kind u = some .secure := by rw [← State.isSecure_iff, h]; simp
  exact (Records.loaded_keys s.store.array u).trans (if_neg secure)

theorem unpowered (fit : s.recordsFit) : s.unpoweredOf.recordsFit :=
  ⟨fit.array, Records.fits_blank, fun w h => absurd h List.not_mem_nil, nofun,
    fun u _ => by simp [State.unpoweredOf, State.unpowered, Records.blank]⟩

end State.recordsFit

/-- The limits of the records hold after every move. -/
theorem recordsFit_of_moves {s t : State} (fit : s.recordsFit) {o : Prop} (moves : s.Moves o t) : t.recordsFit := by
  induction moves with
  | refl => exact fit
  | other _ _ _ _ store ih => exact ih.ofStore store
  | endClose _ u ih =>
    unfold State.endClose
    split
    · exact ih.ofStore rfl
    · exact ih
  | powered _ ih => exact ih.powered
  | unpowered _ ih => exact ih.unpowered
  | marker _ u w ih => exact ih.marker u w
  | rekeyed _ k secure ih => exact ih.rekeyed k secure
  | @defined s _ u d k fits _ key ih =>
    refine ih.redefined (fun x e => ?_) fun kind => key ?_
    · cases e; exact fits
    · cases h : d.kind <;> simp_all
  | deleted _ _ ih => exact ih.redefined (fun x e => by cases e) fun _ => rfl
  | credential _ k fits ih => exact ih.credential k fits
  | policy _ read ih => exact ih.policy read
  | attempt _ a ih => exact ih.write (.attempt a) trivial ih.keys
  | latch _ l ih => exact ih.write (.latch l) trivial ih.keys
  | request _ id ws ih => exact ih.request id ws
  | startWrite _ ih => exact ih.startWrite
  | stored _ running ih => exact ih.stored running
  | closing _ _ _ _ ih | claimClosing _ _ ih | erasing _ _ _ ih | unlockErasing _ _ ih | openUnit _ _ _ _ _ _ _ ih
  | widenUnit _ _ _ _ _ ih | idleTimer _ _ _ ih | capacityCheck _ _ ih | session _ _ _ _ ih => exact ih.ofStore rfl

/-- Settles O9: every step is a chain of moves, and each move keeps the limits. -/
theorem stepKeepsRecordsFit : Obligations.StepKeepsRecordsFit :=
  fun _ _ fit step => recordsFit_of_moves fit (step_moves step)

end Sys2Proof.Machine
end

section
/-! The machine right after reset meets every condition that the steps keep (R8, R24, R53, R57, R66, R110, R116, R135,
R194, R202). -/

namespace Sys2Proof.Machine

theorem reset_unitsFit : State.reset.unitsFit := (unitsFit_unpowered Records.blank).keeps (fun _ => rfl) rfl

theorem reset_queuesFit : State.reset.queuesFit :=
  ⟨List.nodup_nil, fun _ h => absurd h List.not_mem_nil, Nat.zero_le 16, List.nodup_nil⟩

theorem reset_mediaFits : State.reset.mediaFits := by
  have free : ∀ n : Fin 4, State.reset.slots[n] = none := by decide
  have rail : State.reset.rail.fits := by simp [Rail.fits, State.reset]
  exact ⟨fun n m h => by simp [free] at h, fun n m h => by simp [free] at h, rail, fun _ => by simp_all [State.reset],
    fun _ => rfl, fun h => by simp [State.reset] at h, by simp [State.reset]⟩

theorem reset_countsFit : State.reset.countsFit :=
  ⟨Nat.zero_le 16, nofun, by decide, Nat.zero_le 2, by decide⟩

theorem reset_recordsFit : State.reset.recordsFit :=
  ⟨Records.fits_blank, Records.fits_blank, fun _ h => absurd h List.not_mem_nil, nofun,
    fun u _ => (by decide : ∀ u : UnitNo, State.reset.store.image.keys[u] = none) u⟩

/-- The image of a blank store is blank as the array is, and no write is due. -/
theorem reset_persists : State.reset.persists :=
  ⟨fun _ h => absurd h List.not_mem_nil, fun _ _ _ _ => rfl, nofun⟩

/-- Settles O11. -/
theorem resetMeetsConditions : Obligations.ResetMeetsConditions :=
  ⟨reset_unitsFit, reset_queuesFit, reset_mediaFits, reset_countsFit, reset_recordsFit, reset_persists⟩

end Sys2Proof.Machine
end

section
/-! What opens: only an opening move makes a unit OPEN or begins a session (R67, R68, R90, R135). -/

namespace Sys2Proof.Machine

theorem State.unitRun_setUnit_ne (s : State) (u v : UnitNo) {x : UnitRun} (h : v ≠ u) :
    (s.setUnit u x).unitRun v = s.unitRun v := by simp [State.unitRun, State.setUnit, unit_ne h]

namespace State.opensNothing

variable {r s t : State}

theorem refl (s : State) : s.opensNothing s := ⟨fun _ h => h, fun h => h⟩

theorem trans (a : r.opensNothing s) (b : s.opensNothing t) : r.opensNothing t :=
  ⟨fun u h => a.1 u (b.1 u h), fun h => a.2 (b.2 h)⟩

theorem ite {c : Prop} [Decidable c] (a : r.opensNothing s) (b : r.opensNothing t) :
    r.opensNothing (if c then s else t) := by
  split <;> assumption

/-- Units that each keep their state, and the session kept, open nothing. -/
theorem ofStates (states : ∀ u, t.unitState u = s.unitState u) (session : t.control.session = s.control.session) :
    s.opensNothing t :=
  ⟨fun u h => states u ▸ h, fun h => session ▸ h⟩

theorem ofUnits (units : t.units = s.units) (session : t.control.session = s.control.session) : s.opensNothing t :=
  ofStates (fun u => by rw [State.unitState, State.unitRun, units]; rfl) session

/-- A unit that is set OPEN only where it was OPEN opens nothing. -/
theorem setUnit (s : State) (u : UnitNo) {x : UnitRun} (run : x.state = .opened → s.unitState u = .opened) :
    s.opensNothing (s.setUnit u x) := by
  refine ⟨fun v h => ?_, id⟩
  by_cases e : v = u
  · subst e
    exact run (by rwa [State.unitState, State.unitRun_setUnit] at h)
  · rwa [State.unitState, State.unitRun_setUnit_ne _ _ _ e] at h

theorem startClose (s : State) (u : UnitNo) (c : CloseCause) : s.opensNothing (s.startClose u c) :=
  State.opensNothing.trans
    (.setUnit s u (x := { s.unitRun u with state := .closing, idleTimer := none }) nofun) (.ofUnits rfl rfl)

theorem closing (s : State) (u : UnitNo) (c : CloseCause) (claim : Bool) : s.opensNothing (s.closing u c claim) :=
  State.opensNothing.trans (.setUnit s u (x := { s.unitRun u with claimPending := claim }) id) (.startClose _ u c)

theorem erasing (s : State) (u : UnitNo) : s.opensNothing (s.erasing u) :=
  .setUnit s u (x := { s.unitRun u with state := .erasing, mode := none, opener := none }) nofun

theorem unlockErasing (s : State) (u : UnitNo) : s.opensNothing (s.unlockErasing u) :=
  .setUnit s u (x := { s.unitRun u with state := .locked, mode := none, opener := none, claimPending := false }) nofun

theorem endClose (s : State) (u : UnitNo) : s.opensNothing (s.endClose u) := by
  unfold State.endClose
  split
  · refine State.opensNothing.trans (.setUnit _ u fun h => ?_) (.ofUnits rfl rfl)
    dsimp only at h
    split at h <;> cases h
  · exact .refl _

theorem startWrite (s : State) : s.opensNothing s.startWrite := by
  unfold State.startWrite
  split
  · exact .refl _
  · exact .ite (.ofUnits rfl rfl) (.refl _)

theorem redefined (s : State) (u : UnitNo) (d : Option UnitDef) (k : Option CipherKey) :
    s.opensNothing (s.redefined u d k) :=
  State.opensNothing.trans (.setUnit s u (x := .fresh) nofun) (.ofUnits rfl rfl)

end State.opensNothing

theorem loadedUnit_not_opened (d : Option UnitDef) : (loadedUnit d).state ≠ .opened := by
  cases d with
  | none => exact nofun
  | some d => cases m : d.marker <;> simp [loadedUnit, m]

/-- Right after the application of VBUS no unit is OPEN (R8, R67). -/
theorem powered_not_opened (s : State) (u : UnitNo) : s.powered.unitState u ≠ .opened := by
  have run : s.powered.unitRun u = loadedUnit (s.powered.unitDef u) := by
    simp [State.powered, State.unitRun, State.unitDef, State.refreshLeds, State.followNeed]
  rw [State.unitState, run]
  exact loadedUnit_not_opened _

/-- A chain of moves in which no opening is allowed opens nothing. -/
theorem opensNothing_of_moves {s t : State} (moves : s.Moves False t) : s.opensNothing t := by
  induction moves with
  | refl => exact .refl s
  | other _ units _ control _ ih => exact ih.trans (.ofUnits units (congrArg _ control))
  | closing _ c claim _ ih => exact ih.trans (.closing _ _ c claim)
  | claimClosing _ _ ih => exact ih.trans (.setUnit _ _ id)
  | erasing _ _ _ ih => exact ih.trans (.erasing _ _)
  | unlockErasing _ _ ih => exact ih.trans (.unlockErasing _ _)
  | endClose _ u ih => exact ih.trans (.endClose _ u)
  | openUnit _ allowed => exact allowed.elim
  | widenUnit _ _ _ _ opened ih => exact (ih.trans (.setUnit _ _ fun _ => opened)).trans (.ofUnits rfl rfl)
  | idleTimer _ _ opened ih => exact ih.trans (.setUnit _ _ fun _ => opened)
  | capacityCheck _ m ih =>
    refine ih.trans (.ofStates (fun u => ?_) rfl)
    simp only [State.unitState, State.capacityCheck, State.unitRun, State.withUnits, Fin.getElem_fin,
      Vector.getElem_ofFn, checkedUnit]
    split <;> rfl
  | session _ _ _ allowed ih => exact ih.trans ⟨fun _ h => h, fun h => (allowed h).elim id False.elim⟩
  | powered _ _ => exact ⟨fun u h => absurd h (powered_not_opened _ u), nofun⟩
  | unpowered _ _ =>
    refine ⟨fun u h => ?_, nofun⟩
    simp [State.unitState, State.unitRun, State.unpoweredOf, State.unpowered, UnitRun.fresh] at h
  | startWrite _ ih => exact ih.trans (.startWrite _)
  | defined _ _ _ _ ih | deleted _ _ ih => exact ih.trans (.redefined _ _ _ _)
  | marker _ _ _ ih | rekeyed _ _ _ ih | credential _ _ _ ih | policy _ _ ih | attempt _ _ ih | latch _ _ ih
  | request _ _ _ ih | stored _ _ ih => exact ih.trans (.ofUnits rfl rfl)

end Sys2Proof.Machine
end

section
/-! Admission (R7, R9 to R12, R27 to R29): the steps of R27 on the unit that a record names, and what the arrival of a
READ, WRITE, TRIM or SYNC leaves. -/

namespace Sys2Proof.Machine

/-! ## The unit that a record names -/

theorem unitOf_eq_some_iff {n : Nat} {u : UnitNo} : unitOf n = some u ↔ n = u.val := by
  unfold unitOf
  split
  · simp [Fin.ext_iff]
  · simp only [reduceCtorEq, false_iff]
    omega

theorem unitOf_eq_none_iff {n : Nat} : unitOf n = none ↔ 8 ≤ n := by
  unfold unitOf
  split <;> simp <;> omega

theorem recordUnit_eq_some {h : RecordHead} {u : UnitNo} (e : h.unit.toNat = u.val) : recordUnit h = some u :=
  unitOf_eq_some_iff.2 e

theorem recordTag_eq_some {h : RecordHead} {t : Tag} (e : h.tag.toNat = t.val) : recordTag h = some t := by
  simp [recordTag, e]

/-! ## The steps of R27 -/

theorem rangeFits_iff (lba count length : Nat) : rangeFits lba count length = true ↔ lba + count ≤ length := by
  simp only [rangeFits, Bool.and_eq_true, decide_eq_true_eq]
  omega

/-- Steps 3 to 11 of R27, on the unit that the record names. -/
def State.unitSteps (s : State) (op : Op) (h : RecordHead) (u : UnitNo) (d : UnitDef) : Option Status :=
  if h.count = 0 then some .good
  else if d.length < h.lba.toNat + h.count.toNat then some .outOfRange
  else if (s.unitRun u).unusable = true then some .outOfRange
  else if s.unitState u = .erasing then some .erasing
  else if d.kind = .secure ∧ s.unitState u ≠ .opened then some .locked
  else if d.kind = .secure ∧ (s.unitRun u).mode ≠ some .readWrite ∧ op.alters = true then some .writeProtected
  else if d.kind = .clear ∧ op.alters = true ∧ s.control.session = false then some .locked
  else if op.alters = true ∧ d.honorWp = true ∧ s.scanner.switchOn = true then some .writeProtected
  else if s.temperatureAlarm = true then some .notReady
  else none

/-- Step 1 stops every command of a part that is CONFIGURING or without its media. -/
theorem State.stopped_iff (s : State) :
    (s.configuring || s.mediaAbsent) = true ↔ s.power.startUp ≠ .done ∨ s.link.state = .absent := by
  simp [State.configuring, State.mediaAbsent]

theorem State.admission_stopped {s : State} (op : Op) (h : RecordHead)
    (stopped : s.power.startUp ≠ .done ∨ s.link.state = .absent) : s.admission op h = some .notReady :=
  if_pos (s.stopped_iff.2 stopped)

/-- A part that step 1 lets pass. -/
theorem State.not_stopped {s : State} (done : s.power.startUp = .done) (present : s.link.state ≠ .absent) :
    ¬ (s.configuring || s.mediaAbsent) = true := by
  simp [s.stopped_iff, done, present]

theorem State.admission_noUnit {s : State} (op : Op) {h : RecordHead} (done : s.power.startUp = .done)
    (present : s.link.state ≠ .absent)
    (unit : 8 ≤ h.unit.toNat ∨ ∃ u : UnitNo, h.unit.toNat = u.val ∧ s.unitDef u = none) :
    s.admission op h = some .noUnit := by
  unfold State.admission
  rw [if_neg (State.not_stopped done present)]
  rcases unit with above | ⟨u, named, undefined⟩
  · rw [show recordUnit h = none from unitOf_eq_none_iff.2 above]
  · rw [recordUnit_eq_some named]
    simp [undefined]

theorem State.admission_unit {s : State} (op : Op) {h : RecordHead} {u : UnitNo} {d : UnitDef}
    (done : s.power.startUp = .done) (present : s.link.state ≠ .absent) (named : h.unit.toNat = u.val)
    (defined : s.unitDef u = some d) : s.admission op h = s.unitSteps op h u d := by
  unfold State.admission State.unitSteps
  rw [if_neg (State.not_stopped done present), recordUnit_eq_some named]
  have range : (!rangeFits h.lba.toNat h.count.toNat d.length) = true ↔ d.length < h.lba.toNat + h.count.toNat := by
    rw [Bool.not_eq_true', ← Bool.not_eq_true, rangeFits_iff]
    omega
  simp [defined, range, and_assoc]

/-- A step that stops a command does not let it pass, and one that does not leaves it to the steps after it. -/
theorem stop_eq_none_iff {c : Prop} [Decidable c] {st : Status} {rest : Option Status} :
    (if c then some st else rest) = none ↔ ¬ c ∧ rest = none := by
  split <;> simp_all

theorem State.unitSteps_eq_none_iff {s : State} {op : Op} {h : RecordHead} {u : UnitNo} {d : UnitDef} :
    s.unitSteps op h u d = none ↔
      h.count ≠ 0 ∧ h.lba.toNat + h.count.toNat ≤ d.length ∧ (s.unitRun u).unusable = false ∧
        s.unitState u ≠ .erasing ∧
        (d.kind = .secure → s.unitState u = .opened ∧ (op.alters = true → (s.unitRun u).mode = some .readWrite)) ∧
        (d.kind = .clear → op.alters = true → s.control.session = true) ∧
        (op.alters = true → d.honorWp = true → s.scanner.switchOn = false) ∧ s.temperatureAlarm = false := by
  simp only [State.unitSteps, stop_eq_none_iff]
  cases d.kind <;> cases op.alters <;> simp [and_assoc]

/-- Settles O16. -/
theorem admissionPassesExactly : Obligations.AdmissionPassesExactly := by
  intro s op h
  constructor
  · intro admitted
    have running : ¬ (s.power.startUp ≠ .done ∨ s.link.state = .absent) := fun stopped => by
      simp [State.admission_stopped op h stopped] at admitted
    obtain ⟨done, present⟩ : s.power.startUp = .done ∧ s.link.state ≠ .absent := by simpa using running
    have unit : ¬ (8 ≤ h.unit.toNat ∨ ∃ u : UnitNo, h.unit.toNat = u.val ∧ s.unitDef u = none) := fun unit => by
      simp [State.admission_noUnit op done present unit] at admitted
    obtain ⟨below, defined⟩ := not_or.1 unit
    let u : UnitNo := ⟨h.unit.toNat, by omega⟩
    obtain ⟨d, defined⟩ := Option.ne_none_iff_exists'.1 fun undefined => defined ⟨u, rfl, undefined⟩
    rw [State.admission_unit op done present (u := u) rfl defined, State.unitSteps_eq_none_iff] at admitted
    exact ⟨done, present, u, d, rfl, defined, admitted⟩
  · rintro ⟨done, present, u, d, named, defined, passes⟩
    rw [State.admission_unit op done present named defined]
    exact State.unitSteps_eq_none_iff.2 passes

/-! ## The arrival of a record -/

/-- A record with a free tag is accepted: no management record is longer than a command allows. -/
theorem State.takeRecord_accepted {s : State} {op : Op} {h : RecordHead} {t : Tag} {residue : Nat} {stage : Bool}
    {accept : Tag → State} (tag : h.tag.toNat = t.val) (free : s.entryOf t = none) (op' : op.isManagement = false) :
    s.takeRecord op h residue stage accept = accept t := by
  simp [State.takeRecord, recordTag_eq_some tag, free, op']

/-- The idle timer of an OPEN unit restarts, whatever the rest of the state. -/
theorem State.restartIdle_defined {s : State} {u : UnitNo} {d : UnitDef} (defined : s.unitDef u = some d) :
    s.restartIdle u = { s with
      units := if s.unitState u = .opened then
          s.units.set u { s.unitRun u with idleTimer := if d.idleTimeout = 0 then none else some d.idleTimeout }
        else s.units } := by
  unfold State.restartIdle
  rw [defined]
  dsimp only
  split <;> rfl

/-- The arrival of a READ, WRITE or TRIM with a free tag. -/
theorem exec_data {s : State} {op : Op} {h : RecordHead} {t : Tag} (b : List Byte) (powered : s.power.vbus = true)
    (pipe : s.takesNow = true) (moves : op.movesData = true) (tag : h.tag.toNat = t.val) (free : s.entryOf t = none) :
    exec (recordCommand op h b) s = .next (State.finish
      (if op = .write then (s.admitData op h t).holdStage h t else s.admitData op h t)) := by
  cases op with
  | read =>
    show (s.act fun s => s.transfer (.read h) fun s => s.acceptRead h) = _
    rw [State.act_powered _ powered, State.transfer_taken _ _ pipe, State.acceptRead,
      State.takeRecord_accepted tag free rfl]
    rfl
  | write =>
    show (s.act fun s => s.transfer (.write h) fun s => s.acceptWrite h) = _
    rw [State.act_powered _ powered, State.transfer_taken _ _ pipe, State.acceptWrite,
      State.takeRecord_accepted tag free rfl]
    rfl
  | trim =>
    show (s.act fun s => s.transfer (.trim h) fun s => s.acceptTrim h) = _
    rw [State.act_powered _ powered, State.transfer_taken _ _ pipe, State.acceptTrim,
      State.takeRecord_accepted tag free rfl]
    rfl
  | _ => cases moves

/-- The entry that joins last, with a free tag, is the one of its tag. -/
theorem find_last {q : List QueueEntry} {e : QueueEntry} {t : Tag} (free : ∀ x ∈ q, x.tag ≠ t) (tag : e.tag = t) :
    (q ++ [e]).find? (fun x => decide (x.tag = t)) = some e := by
  rw [List.find?_append, List.find?_eq_none.2 (by simpa using free)]
  simp [tag]

/-- The data stage of a WRITE whose entry has just joined. -/
theorem State.holdStage_joined {s m : State} {h : RecordHead} {t : Tag} {e : QueueEntry} (free : s.entryOf t = none)
    (queue : m.queue = s.queue ++ [e]) (tag : e.tag = t) (count : h.count ≠ 0) :
    m.holdStage h t = m.withPort { m.port with
      bulkOut := if e.state = .ending then .discarding else .writeStage t h.count.toNat } := by
  have found : m.entryOf t = some e := by
    unfold State.entryOf
    rw [queue]
    exact find_last (tag_ne_of_entryOf free) tag
  unfold State.holdStage
  rw [if_neg count, found]

/-- The idle timer of a unit restarted, where it is OPEN (R29, R145). -/
def State.idleRestarted (s : State) (u : UnitNo) (d : UnitDef) : Vector UnitRun 8 :=
  if s.unitState u = .opened then
    s.units.set u { s.unitRun u with idleTimer := if d.idleTimeout = 0 then none else some d.idleTimeout }
  else s.units

/-- A command that is admitted, or of count 0, restarts the idle timer of its unit. -/
theorem State.admittedRestart_passed {s : State} {e : QueueEntry} {h : RecordHead} {u : UnitNo} {d : UnitDef}
    {verdict : Option Status} (named : h.unit.toNat = u.val) (defined : s.unitDef u = some d)
    (passed : verdict = none ∨ verdict = some .good) :
    (s.enqueue e).admittedRestart h verdict =
      { s with queue := s.queue ++ [e], clock := s.clock + 1, units := s.idleRestarted u d } := by
  unfold State.admittedRestart
  rw [recordUnit_eq_some named]
  dsimp only
  rw [if_pos (by simpa using passed), State.restartIdle_defined (s := s.enqueue e) (d := d) defined]
  rfl

theorem State.admittedRestart_refused {s : State} (h : RecordHead) {st : Status} (refused : st ≠ .good) :
    s.admittedRestart h (some st) = s := by
  unfold State.admittedRestart
  split
  · exact if_neg (by simp [refused])
  · rfl

/-- Settles O17. -/
theorem admittedCommandIsQueued : Obligations.AdmittedCommandIsQueued := by
  intro s op h b t u d powered pipe moves tag free named defined admitted
  have queued : s.admitData op h t = { s with
      queue := s.queue ++ [{ s.newEntry t op h none with mediaStart := some (d.base + h.lba.toNat) }],
      clock := s.clock + 1, units := s.idleRestarted u d } := by
    have start : s.mediaStartOf h = some (d.base + h.lba.toNat) := by
      simp [State.mediaStartOf, recordUnit_eq_some named, defined]
    unfold State.admitData
    simp only [admitted, start]
    exact State.admittedRestart_passed named defined (.inl rfl)
  rw [exec_data b powered pipe moves tag free]
  congr 2
  by_cases write : op = .write
  · have count : h.count ≠ 0 := by
      obtain ⟨-, -, _, _, -, -, count, -⟩ := (admissionPassesExactly s op h).1 admitted
      exact count
    simp only [if_pos write]
    rw [queued, State.holdStage_joined (s := s) free rfl rfl count]
    rfl
  · simp only [if_neg write]
    exact queued

/-- What a READ, WRITE or TRIM that admission stops leaves of the queue. -/
theorem State.admitData_refused {s : State} {op : Op} {h : RecordHead} (t : Tag) {st : Status}
    (stopped : s.admission op h = some st) (refused : st ≠ .good) :
    s.admitData op h t = { s with
      queue := s.queue ++ [{ s.newEntry t op h none with state := .ending, verdict := some ⟨st, .none⟩ }],
      clock := s.clock + 1 } := by
  unfold State.admitData
  simp only [stopped]
  exact State.admittedRestart_refused h refused

/-- Only step 3 answers GOOD. -/
theorem State.count_of_good {s : State} {op : Op} {h : RecordHead} {u : UnitNo} {d : UnitDef}
    (good : s.unitSteps op h u d = some .good) : h.count = 0 := by
  by_contra count
  unfold State.unitSteps at good
  rw [if_neg count] at good
  repeat (split at good; · cases good)
  cases good

/-- The steps of R27 on a defined unit, each with the status it gives where no earlier one stops the command (R27;
LOCKED for a claimed unit that is still CLOSING: notes/assumptions/33.md). -/
theorem State.unitSteps_stop (s : State) (op : Op) (h : RecordHead) (u : UnitNo) (d : UnitDef) :
    let three := h.count = 0
    let four := d.length < h.lba.toNat + h.count.toNat
    let five := (s.unitRun u).unusable = true
    let six := s.unitState u = .erasing
    let seven := d.kind = .secure ∧ (s.unitState u = .locked ∨ s.unitState u = .closing)
    let eight := d.kind = .secure ∧ s.unitState u = .opened ∧ (s.unitRun u).mode ≠ some .readWrite ∧
      op.alters = true
    let nine := d.kind = .clear ∧ op.alters = true ∧ s.control.session = false
    let ten := op.alters = true ∧ d.honorWp = true ∧ s.scanner.switchOn = true
    (three → s.unitSteps op h u d = some .good) ∧
      (¬ three → four → s.unitSteps op h u d = some .outOfRange) ∧
      (¬ three → ¬ four → five → s.unitSteps op h u d = some .outOfRange) ∧
      (¬ three → ¬ four → ¬ five → six → s.unitSteps op h u d = some .erasing) ∧
      (¬ three → ¬ four → ¬ five → ¬ six → seven → s.unitSteps op h u d = some .locked) ∧
      (¬ three → ¬ four → ¬ five → eight → s.unitSteps op h u d = some .writeProtected) ∧
      (¬ three → ¬ four → ¬ five → ¬ six → nine → s.unitSteps op h u d = some .locked) ∧
      (¬ three → ¬ four → ¬ five → ¬ six → ¬ seven → ¬ eight → ¬ nine → ten →
        s.unitSteps op h u d = some .writeProtected) ∧
      (¬ three → ¬ four → ¬ five → ¬ six → ¬ seven → ¬ eight → ¬ nine → ¬ ten →
        s.temperatureAlarm = true → s.unitSteps op h u d = some .notReady) := by
  intro three four five six seven eight nine ten
  have toSix : ¬ three → ¬ four → ¬ five → ¬ six → s.unitSteps op h u d =
      if d.kind = .secure ∧ s.unitState u ≠ .opened then some .locked
      else if d.kind = .secure ∧ (s.unitRun u).mode ≠ some .readWrite ∧ op.alters = true then some .writeProtected
      else if nine then some .locked
      else if ten then some .writeProtected
      else if s.temperatureAlarm = true then some .notReady
      else none := fun n3 n4 n5 n6 => by
    unfold State.unitSteps
    rw [if_neg n3, if_neg n4, if_neg n5, if_neg n6]
  have seven_iff : ¬ six → (d.kind = .secure ∧ s.unitState u ≠ .opened ↔ seven) := fun n6 => by
    cases e : s.unitState u <;> simp_all [six, seven]
  refine ⟨fun p => if_pos p, fun n3 p => ?_, fun n3 n4 p => ?_, fun n3 n4 n5 p => ?_, fun n3 n4 n5 n6 p => ?_,
    fun n3 n4 n5 p => ?_, fun n3 n4 n5 n6 p => ?_, fun n3 n4 n5 n6 n7 n8 n9 p => ?_,
    fun n3 n4 n5 n6 n7 n8 n9 n10 p => ?_⟩
  · rw [State.unitSteps, if_neg n3, if_pos p]
  · rw [State.unitSteps, if_neg n3, if_neg n4, if_pos p]
  · rw [State.unitSteps, if_neg n3, if_neg n4, if_neg n5, if_pos p]
  · rw [toSix n3 n4 n5 n6, if_pos ((seven_iff n6).2 p)]
  · obtain ⟨secure, opened, mode, alters⟩ := p
    rw [toSix n3 n4 n5 (by simp [six, opened]), if_neg (by simp [opened]), if_pos ⟨secure, mode, alters⟩]
  · have clear : d.kind = .clear := p.1
    rw [toSix n3 n4 n5 n6, if_neg (by simp [clear]), if_neg (by simp [clear]), if_pos p]
  all_goals
    have n8' : ¬ (d.kind = .secure ∧ (s.unitRun u).mode ≠ some .readWrite ∧ op.alters = true) :=
      fun ⟨secure, mode, alters⟩ =>
        n8 ⟨secure, by_contra fun closed => n7 ((seven_iff n6).1 ⟨secure, closed⟩), mode, alters⟩
    rw [toSix n3 n4 n5 n6, if_neg (mt (seven_iff n6).1 n7), if_neg n8', if_neg n9]
  · rw [if_pos p]
  · rw [if_neg n10, if_pos p]

/-- The data stage of a refused WRITE is discarded, and one of count 0 has none (R22). -/
theorem State.holdStage_refused {s m : State} {h : RecordHead} {t : Tag} {e : QueueEntry} (free : s.entryOf t = none)
    (queue : m.queue = s.queue ++ [e]) (tag : e.tag = t) (ending : e.state = .ending) :
    m.holdStage h t = if h.count ≠ 0 then m.withPort { m.port with bulkOut := .discarding } else m := by
  by_cases count : h.count = 0
  · simp [State.holdStage, count]
  · rw [State.holdStage_joined free queue tag count, if_pos ending, if_pos count]

/-- Settles O18. -/
theorem refusedCommandEnds : Obligations.RefusedCommandEnds := by
  refine ⟨fun s op h => ⟨State.admission_stopped op h, fun done present =>
    ⟨State.admission_noUnit op done present, fun u d named defined => ?_⟩⟩, ?_⟩
  · rw [State.admission_unit op done present named defined]
    exact s.unitSteps_stop op h u d
  · intro s op h b t st powered pipe moves tag free stopped
    rw [exec_data b powered pipe moves tag free]
    refine ⟨fun refused => ?_, fun good u d named defined => ?_⟩
    · rw [State.admitData_refused t stopped refused]
      congr 2
      by_cases write : op = .write
      · rw [if_pos write, State.holdStage_refused (s := s) free rfl rfl rfl]
        by_cases count : h.count = 0
        · rw [if_neg (by simpa using count), if_neg (by simp [count])]
        · rw [if_pos count, if_pos ⟨write, count⟩]
          rfl
      · rw [if_neg write, if_neg (by simp [write])]
    · subst good
      have done : s.power.startUp = .done ∧ s.link.state ≠ .absent := by
        by_contra running
        have : s.power.startUp ≠ .done ∨ s.link.state = .absent := by tauto
        simp [State.admission_stopped op h this] at stopped
      have count : h.count = 0 := by
        rw [State.admission_unit op done.1 done.2 named defined] at stopped
        exact State.count_of_good stopped
      have ended : s.admitData op h t = { s with
          queue := s.queue ++ [{ s.newEntry t op h none with state := .ending, verdict := some ⟨.good, .none⟩ }],
          clock := s.clock + 1, units := s.idleRestarted u d } := by
        unfold State.admitData
        simp only [stopped]
        exact State.admittedRestart_passed named defined (.inr rfl)
      refine ⟨count, ?_⟩
      rw [ended]
      congr 2
      by_cases write : op = .write
      · rw [if_pos write, State.holdStage, if_pos count]
        rfl
      · rw [if_neg write]
        rfl

/-! ## SYNC -/

/-- A SYNC that a part with VBUS takes. -/
theorem exec_sync {s : State} (h : RecordHead) (powered : s.power.vbus = true) (pipe : s.takesNow = true) :
    exec (.sync h) s = .next (s.acceptSync h).finish := by
  show execSync h s = _
  rw [execSync, State.act_powered _ powered, State.transfer_taken _ _ pipe]

theorem State.acceptSync_admitted {s : State} {h : RecordHead} {t : Tag} (tag : h.tag.toNat = t.val)
    (free : s.entryOf t = none) (admitted : s.syncAdmission h = none) :
    s.acceptSync h = (s.enqueue (s.newEntry t .sync h none)).admittedRestart h none := by
  rw [State.acceptSync, State.takeRecord_accepted tag free rfl]
  dsimp only
  rw [admitted]

theorem State.acceptSync_refused {s : State} {h : RecordHead} {t : Tag} (tag : h.tag.toNat = t.val)
    (free : s.entryOf t = none) {st : Status} (stopped : s.syncAdmission h = some st) :
    s.acceptSync h =
      s.enqueue { s.newEntry t .sync h none with state := .ending, verdict := some (.plain st) } := by
  rw [State.acceptSync, State.takeRecord_accepted tag free rfl]
  dsimp only
  rw [stopped]

/-- The steps that a SYNC goes through on a defined unit (R28). -/
theorem State.syncAdmission_unit {s : State} {h : RecordHead} {u : UnitNo} {d : UnitDef}
    (done : s.power.startUp = .done) (present : s.link.state ≠ .absent) (named : h.unit.toNat = u.val)
    (defined : s.unitDef u = some d) :
    s.syncAdmission h =
      if (s.unitRun u).unusable = true then some .outOfRange
      else if s.unitState u = .erasing then some .erasing
      else if d.kind = .secure ∧ s.unitState u ≠ .opened then some .locked
      else if s.temperatureAlarm = true then some .notReady
      else none := by
  unfold State.syncAdmission
  rw [if_neg (State.not_stopped done present), recordUnit_eq_some named]
  simp [defined]

theorem State.syncAdmission_noUnit {s : State} {h : RecordHead} (done : s.power.startUp = .done)
    (present : s.link.state ≠ .absent)
    (unit : 8 ≤ h.unit.toNat ∨ ∃ u : UnitNo, h.unit.toNat = u.val ∧ s.unitDef u = none) :
    s.syncAdmission h = some .noUnit := by
  unfold State.syncAdmission
  rw [if_neg (State.not_stopped done present)]
  rcases unit with above | ⟨u, named, undefined⟩
  · rw [show recordUnit h = none from unitOf_eq_none_iff.2 above]
  · rw [recordUnit_eq_some named]
    simp [undefined]

/-- Settles O19. -/
theorem admittedSyncIsQueued : Obligations.AdmittedSyncIsQueued := by
  intro s h t powered pipe tag free refused
  have refuse : ∀ {st : Status}, s.syncAdmission h = some st → refused st := fun {st} stopped => by
    unfold refused
    rw [exec_sync h powered pipe, State.acceptSync_refused tag free stopped]
    rfl
  refine ⟨fun stopped => refuse (if_pos (s.stopped_iff.2 stopped)), fun done present =>
    ⟨fun unit => refuse (State.syncAdmission_noUnit done present unit), fun u d named defined => ?_⟩⟩
  have steps := State.syncAdmission_unit done present named defined
  refine ⟨fun unusable => refuse ?_, fun usable erasing => refuse ?_, fun usable secure state => refuse ?_,
    fun usable free' opened => ⟨fun hot => refuse ?_, fun cool => ?_⟩⟩
  · rw [steps, if_pos unusable]
  · rw [steps, if_neg (by simp [usable]), if_pos erasing]
  · have unopened : s.unitState u ≠ .opened ∧ s.unitState u ≠ .erasing := by rcases state with e | e <;> simp [e]
    rw [steps, if_neg (by simp [usable]), if_neg unopened.2, if_pos ⟨secure, unopened.1⟩]
  · rw [steps, if_neg (by simp [usable]), if_neg free', if_neg (by tauto), if_pos hot]
  · have admitted : s.syncAdmission h = none := by
      rw [steps, if_neg (by simp [usable]), if_neg free', if_neg (by tauto), if_neg (by simp [cool])]
    rw [exec_sync h powered pipe, State.acceptSync_admitted tag free admitted,
      State.admittedRestart_passed named defined (.inl rfl)]
    rfl

end Sys2Proof.Machine
end

section
/-! Unit definitions and deletions (R14 to R18, R224, R227): the definition's block, and what UNIT DEFINE and UNIT DELETE
leave. -/

namespace Sys2Proof.Machine

/-! ## Reading a definition's block -/

theorem isSome_unitOf (n : Nat) : (unitOf n).isSome = decide (n < 8) := by
  unfold unitOf
  split <;> simp [*]

theorem isSome_kindOf (n : Nat) : (kindOf n).isSome = decide (n < 2) := by
  match n with
  | 0 => rfl
  | 1 => rfl
  | n + 2 => simp [kindOf]

theorem isSome_yesNo (n : Nat) : (yesNo n).isSome = decide (n < 2) := by
  match n with
  | 0 => rfl
  | 1 => rfl
  | n + 2 => simp [yesNo]

theorem isSome_labelOf (b : List Byte) : (labelOf b).isSome = decide (byteAt b 13 ≤ 16 ∧
    ∀ c ∈ (b.drop 14).take (byteAt b 13), 32 ≤ c.toNat ∧ c.toNat ≤ 126) := by
  unfold labelOf
  by_cases absent : byteAt b 13 = 0
  · simp [absent]
  · by_cases fits : (decide (byteAt b 13 ≤ 16) &&
        ((b.drop 14).take (byteAt b 13)).all fun c => decide (32 ≤ c.toNat) && decide (c.toNat ≤ 126)) = true
    · rw [if_neg absent, if_pos fits]
      symm
      simpa using fits
    · rw [if_neg absent, if_neg fits]
      symm
      simpa using fits

/-- A field that is read before the rest, on whose value the rest's success does not depend. -/
theorem isSome_bind {α β : Type} {o : Option α} {f : α → Option β} {c : Bool} (rest : ∀ a, (f a).isSome = c) :
    (o.bind f).isSome = (o.isSome && c) := by
  cases o <;> simp [rest]

theorem isSome_defineOf (b : List Byte) : (defineOf b).isSome =
    ((unitOf (byteAt b 0)).isSome && ((kindOf (byteAt b 1)).isSome && ((yesNo (byteAt b 10)).isSome &&
      ((yesNo (byteAt b 12)).isSome && ((labelOf b).isSome && decide (8 ≤ fieldAt b 6 4)))))) := by
  unfold defineOf
  refine isSome_bind fun u => isSome_bind fun kind => isSome_bind fun wp => isSome_bind fun los => isSome_bind fun l => ?_
  split <;> simp <;> omega

theorem defineOf_eq_none_iff (b : List Byte) : defineOf b = none ↔
    8 ≤ byteAt b 0 ∨ 2 ≤ byteAt b 1 ∨ fieldAt b 6 4 < 8 ∨ 2 ≤ byteAt b 10 ∨ 2 ≤ byteAt b 12 ∨ 16 < byteAt b 13 ∨
      ∃ c ∈ (b.drop 14).take (byteAt b 13), c.toNat < 32 ∨ 126 < c.toNat := by
  have chars : (∃ c ∈ (b.drop 14).take (byteAt b 13), c.toNat < 32 ∨ 126 < c.toNat) ↔
      ¬ ∀ c ∈ (b.drop 14).take (byteAt b 13), 32 ≤ c.toNat ∧ c.toNat ≤ 126 := by
    simp only [not_forall, exists_prop, not_and_or, Nat.not_le]
  rw [← Option.not_isSome_iff_eq_none, isSome_defineOf, chars]
  simp only [isSome_unitOf, isSome_kindOf, isSome_yesNo, isSome_labelOf, Bool.and_eq_true, decide_eq_true_eq, not_and_or,
    Nat.not_lt, Nat.not_le]
  tauto

/-! ## Writing one -/

theorem toNat_byteOf {n : Nat} (h : n < 256) : (byteOf n).toNat = n := by
  simp [byteOf, Nat.mod_eq_of_lt h]

theorem yesNo_flagOf (b : Bool) : yesNo (flagOf b).toNat = some b := by cases b <;> rfl

theorem kindOf_code (k : UnitKind) : kindOf k.code.toNat = some k := by cases k <;> rfl

theorem take_padTo {n : Nat} {l : List Byte} (h : l.length ≤ n) : (padTo n l).take l.length = l := by
  simp [padTo, List.take_take, Nat.min_eq_left h]

/-- Bytes from some offset on are the bytes of a list after its first. -/
theorem byteAt_append {a b : List Byte} {n i : Nat} (h : a.length = n) : byteAt (a ++ b) (n + i) = byteAt b i := by
  subst h
  simp [byteAt, List.getElem?_append_right]

/-- A field of four bytes reads back (R224). -/
theorem fieldAt_fieldOf {v : Nat} (h : v < 2 ^ 32) (rest : List Byte) : fieldAt (fieldOf 4 v ++ rest) 0 4 = v := by
  simp [fieldAt, fieldOf, byteAt, byteOf]
  omega

theorem fieldAt_append {a b : List Byte} {n i : Nat} (h : a.length = n) (k : Nat) :
    fieldAt (a ++ b) (n + i) k = fieldAt b i k := by
  induction k generalizing i with
  | zero => rfl
  | succ k ih =>
    simp only [fieldAt, byteAt_append h]
    rw [Nat.add_assoc, ih]

/-- The label that stands from offset 13 on reads back. -/
theorem labelOf_append {a label : List Byte} (h : a.length = 13) (fits : label.length ≤ 16)
    (chars : ∀ c ∈ label, 32 ≤ c.toNat ∧ c.toNat ≤ 126) :
    labelOf (a ++ byteOf label.length :: padTo 16 label) = some (if label = [] then none else some label) := by
  have length : byteAt (a ++ byteOf label.length :: padTo 16 label) 13 = label.length := by
    have := byteAt_append (b := byteOf label.length :: padTo 16 label) (i := 0) h
    rw [this]
    exact toNat_byteOf (by omega)
  have text : ((a ++ byteOf label.length :: padTo 16 label).drop 14).take label.length = label := by
    rw [show (14 : Nat) = a.length + 1 by omega, ← List.drop_drop, List.drop_left]
    exact take_padTo fits
  unfold labelOf
  simp only [length, text]
  by_cases empty : label = []
  · simp [empty]
  · rw [if_neg (by simpa using empty), if_pos, if_neg empty]
    simpa [fits] using chars

/-- The bytes of a definition's block, field by field. -/
theorem defineOf_fields {b : List Byte} {u : UnitNo} {kind : UnitKind} {wp los : Bool} {label : Option (List Byte)}
    (hu : byteAt b 0 = u.val) (hk : kindOf (byteAt b 1) = some kind) (hwp : yesNo (byteAt b 10) = some wp)
    (hlos : yesNo (byteAt b 12) = some los) (hlabel : labelOf b = some label) (h8 : 8 ≤ fieldAt b 6 4) :
    defineOf b = some (u, {
      kind := kind, base := fieldAt b 2 4, length := fieldAt b 6 4, generation := 0, honorWp := wp,
      idleTimeout := min 240 (byteAt b 11), lockOnSuspend := los, label := label, marker := none }) := by
  simp [defineOf, unitOf_eq_some_iff.2 hu, hk, hwp, hlos, hlabel, Nat.not_lt.2 h8]

/-- Settles O24. -/
theorem definitionBlockIsRead : Obligations.DefinitionBlockIsRead := by
  refine ⟨defineOf_eq_none_iff, fun u kind base length idle wp los label hb hl h8 hi fits chars => ?_⟩
  have front : ([byteOf u.val, kind.code] ++ fieldOf 4 base ++ fieldOf 4 length ++
      [flagOf wp, byteOf idle, flagOf los]).length = 13 := rfl
  have block : [byteOf u.val, kind.code] ++ fieldOf 4 base ++ fieldOf 4 length ++
      [flagOf wp, byteOf idle, flagOf los, byteOf label.length] ++ padTo 16 label =
      [byteOf u.val, kind.code] ++ fieldOf 4 base ++ fieldOf 4 length ++
        [flagOf wp, byteOf idle, flagOf los] ++ byteOf label.length :: padTo 16 label := by simp
  generalize hbytes : [byteOf u.val, kind.code] ++ fieldOf 4 base ++ fieldOf 4 length ++
      [flagOf wp, byteOf idle, flagOf los, byteOf label.length] ++ padTo 16 label = b at block ⊢
  have base_eq : fieldAt b 2 4 = base := by
    rw [← hbytes]
    simp only [List.append_assoc]
    exact (fieldAt_append (n := 2) (i := 0) rfl 4).trans (fieldAt_fieldOf hb _)
  have length_eq : fieldAt b 6 4 = length := by
    rw [← hbytes, List.append_assoc, List.append_assoc]
    exact (fieldAt_append (n := 6) (i := 0) rfl 4).trans (fieldAt_fieldOf hl _)
  have idle_eq : byteAt b 11 = idle := by rw [← hbytes]; exact toNat_byteOf hi
  have label_eq := block ▸ labelOf_append front fits chars
  rw [defineOf_fields (u := u) (kind := kind) (wp := wp) (los := los) ?_ ?_ ?_ ?_ label_eq ?_, base_eq, length_eq,
    idle_eq]
  · rw [← hbytes]; exact toNat_byteOf (by omega)
  · rw [← hbytes]; exact kindOf_code kind
  · rw [← hbytes]; exact yesNo_flagOf wp
  · rw [← hbytes]; exact yesNo_flagOf los
  · rwa [length_eq]

/-! ## Commands that end at their taking -/

/-- A management record on a part with VBUS is taken or waits. -/
theorem exec_management {s : State} {op : Op} (management : op.isManagement = true) (h : RecordHead) (b : List Byte)
    (powered : s.power.vbus = true) :
    exec (recordCommand op h b) s =
      .next (s.transfer (recordCommand op h b) fun s => s.acceptManagement op h b) := by
  have sent : exec (recordCommand op h b) s =
      s.act fun s => s.transfer (recordCommand op h b) fun s => s.acceptManagement op h b := by
    cases op with
    | read | write | trim | sync | unitInfo => cases management
    | _ => rfl
  rw [sent, State.act_powered _ powered]

/-- A management command in progress that ends with a status leaves nothing else changed. -/
theorem State.inProgress_ended {s : State} {op : Op} {h : RecordHead} {t : Tag} (r : s.takesRecord op h t)
    (b : List Byte) (st : Status) : (s.inProgress t op h b).endManagement st = s.ended t op h b st := by
  rw [State.management_ended r b _ st rfl rfl (State.takesNow_iff.1 r.pipe).1]
  simp only [State.ended, State.inProgress, r.noCommand]

/-- What a command finds of a unit is what the state held before the command joined. -/
theorem State.unitHeld_inProgress (s : State) (t : Tag) {op : Op} (h : RecordHead) (b : List Byte)
    (media : op.usesMedia = false) (u : UnitNo) : (s.inProgress t op h b).unitHeld u = s.unitHeld u := by
  have queue : (s.inProgress t op h b).queue.any (fun e => e.names u && e.op.usesMedia) =
      s.queue.any fun e => e.names u && e.op.usesMedia := by
    simp [State.inProgress, State.activeEntry, State.newEntry, media]
  unfold State.unitHeld
  rw [queue]
  rfl

theorem State.unitHeld_eq_false_iff (s : State) (u : UnitNo) : s.unitHeld u = false ↔
    s.unitDef u = none ∨ (s.unitState u = .locked ∧ s.marker u = none ∧ s.writeOutstanding (.unit u) = false ∧
      ∀ e ∈ s.queue, e.head.unit.toNat = u.val → e.op.usesMedia = false) := by
  unfold State.unitHeld State.marker
  cases s.unitDef u <;> simp [QueueEntry.names, and_assoc]

theorem fitsCapacity_iff (m base length : Nat) : fitsCapacity m base length = true ↔ length ≤ m ∧ base ≤ m - length := by
  simp [fitsCapacity]

theorem State.overlapsOther_iff (s : State) (u : UnitNo) (d : UnitDef) : s.overlapsOther u d = true ↔
    ∃ v o, v ≠ u ∧ s.unitDef v = some o ∧ d.base < o.base + o.length ∧ o.base < d.base + d.length := by
  simp only [State.overlapsOther, List.any_eq_true, List.mem_finRange, true_and, Bool.and_eq_true, decide_eq_true_eq]
  constructor
  · rintro ⟨v, ne, overlap⟩
    split at overlap
    · exact ⟨v, _, ne, ‹_›, by simpa [rangesOverlap] using overlap⟩
    · cases overlap
  · rintro ⟨v, o, ne, defined, overlap⟩
    refine ⟨v, ne, ?_⟩
    rw [defined]
    simpa [rangesOverlap] using overlap

/-! ## UNIT DEFINE -/

theorem State.mediaAbsent_iff (s : State) : s.mediaAbsent = true ↔ s.link.state = .absent := by simp [State.mediaAbsent]

/-- UNIT DEFINE with a block that spells a definition, on a part with its media. -/
theorem State.runUnitDefine_read {s : State} {b : List Byte} {u : UnitNo} {d : UnitDef}
    (present : s.link.state ≠ .absent) (read : defineOf b = some (u, d)) :
    s.runUnitDefine b =
      if s.unitHeld u then s.endManagement .unitBusy
      else if !fitsCapacity (s.link.capacity.getD 0) d.base d.length then s.endManagement .outOfRange
      else if s.overlapsOther u d then s.endManagement .overlap
      else s.acceptDefine u d := by
  unfold State.runUnitDefine
  rw [if_neg (mt (State.mediaAbsent_iff _).1 present), read]

/-- An accepted definition of a SECURE unit: the key record is requested first (R16, R17). -/
theorem State.acceptDefine_secure (s : State) (u : UnitNo) {d : UnitDef} (secure : d.kind = .secure) :
    s.acceptDefine u d = { s with
      units := s.units.set u UnitRun.fresh, draws := s.draws + 1,
      store := { s.store with
        image := { s.store.image with
          units := s.store.image.units.set u (some d),
          keys := s.store.image.keys.set u (some (Config.freshKey s.draws)) },
        pendingSet := joinPending (joinPending s.store.pendingSet
          ⟨.key u (some (Config.freshKey s.draws)), []⟩) ⟨.unit u (some d), [.management]⟩ } } := by
  simp [State.acceptDefine, secure, State.putUnit, State.setUnitDef, State.setKey, State.setUnit, State.withImage,
    State.requestWrite, Records.content, State.drawn, State.freshKey, State.withStore, State.withUnits, State.withDraws]

/-- An accepted definition of a CLEAR unit: the unit record is requested first (R16, R17). -/
theorem State.acceptDefine_clear (s : State) (u : UnitNo) {d : UnitDef} (clear : d.kind = .clear) :
    s.acceptDefine u d = { s with
      units := s.units.set u UnitRun.fresh,
      store := { s.store with
        image := { s.store.image with
          units := s.store.image.units.set u (some d), keys := s.store.image.keys.set u none },
        pendingSet := joinPending (joinPending s.store.pendingSet
          ⟨.unit u (some d), []⟩) ⟨.key u none, [.management]⟩ } } := by
  simp [State.acceptDefine, clear, State.putUnit, State.setUnitDef, State.setKey, State.setUnit, State.withImage,
    State.requestWrite, Records.content, State.withStore, State.withUnits]

/-- Settles O25. -/
theorem unitDefineIsAccepted : Obligations.UnitDefineIsAccepted := by
  intro s h b t u d m r present capacity read free fits ends apart units run
  have free : run.unitHeld u = false := by
    rw [s.unitHeld_inProgress t h b rfl]
    exact (s.unitHeld_eq_false_iff u).2 free
  have inside : fitsCapacity (run.link.capacity.getD 0) d.base d.length = true := by
    rw [show run.link.capacity = some m from capacity]
    exact (fitsCapacity_iff _ _ _).2 ⟨fits, ends⟩
  have apart : ¬ run.overlapsOther u d = true := by
    rw [State.overlapsOther_iff]
    rintro ⟨v, o, ne, defined, below, above⟩
    rcases apart v o ne defined with before | after <;> omega
  have accepted : run.runManagement .unitDefine b = run.acceptDefine u d := by
    show run.runUnitDefine b = _
    rw [State.runUnitDefine_read (s := run) present read, if_neg (by simp [free]), if_neg (by simp [inside]), if_neg apart]
  have leads := State.management_leads r (.unitDefine h b) b
  rw [show s.inProgress t .unitDefine h b = run from rfl, accepted] at leads
  refine ⟨_, exec_management (op := .unitDefine) rfl h b r.powered, fun secure => ?_, fun clear => ?_⟩
  · rwa [State.acceptDefine_secure run u secure] at leads
  · rwa [State.acceptDefine_clear run u clear] at leads

/-- A management command whose effect is to end with a status. -/
theorem State.management_refused {s : State} {op : Op} {h : RecordHead} {t : Tag} (r : s.runsNow op h t) (i : Instr)
    {b : List Byte} {st : Status}
    (refused : (s.inProgress t op h b).runManagement op b = (s.inProgress t op h b).endManagement st) :
    (s.ended t op h b st).leads (s.transfer i fun s => s.acceptManagement op h b) := by
  have leads := State.management_leads r i b
  rwa [refused, State.inProgress_ended r.totakesRecord] at leads

/-- Settles O26. -/
theorem unitDefineIsRefused : Obligations.UnitDefineIsRefused := by
  intro s h b t st r refusal
  refine ⟨_, exec_management (op := .unitDefine) rfl h b r.powered, State.management_refused r _ ?_⟩
  show State.runUnitDefine _ b = _
  have held := s.unitHeld_inProgress t h b (op := .unitDefine) rfl
  rcases refusal with ⟨absent, rfl⟩ | ⟨present, bad, rfl⟩ | ⟨present, u, d, read, refusal⟩
  · exact if_pos ((State.mediaAbsent_iff _).2 absent)
  · unfold State.runUnitDefine
    rw [if_neg (mt (State.mediaAbsent_iff (s.inProgress t .unitDefine h b)).1 present), bad]
  · rw [State.runUnitDefine_read (s := s.inProgress t .unitDefine h b) present read, held]
    rcases refusal with ⟨busy, rfl⟩ | ⟨free, m, capacity, refusal⟩
    · exact if_pos busy
    · have range := fitsCapacity_iff m d.base d.length
      rw [if_neg (by simp [free]), show (s.inProgress t .unitDefine h b).link.capacity = some m from capacity]
      rcases refusal with ⟨outside, rfl⟩ | ⟨fits, ends, rfl, overlap⟩
      · exact if_pos (by simpa using mt range.1 outside)
      · rw [if_neg (by simpa using range.2 ⟨fits, ends⟩)]
        exact if_pos ((State.overlapsOther_iff _ u d).2 overlap)

/-! ## UNIT DELETE -/

/-- An accepted deletion: the unit record is requested first (R18). -/
theorem State.acceptDelete_eq (s : State) (u : UnitNo) :
    s.acceptDelete u = { s with
      units := s.units.set u UnitRun.fresh,
      store := { s.store with
        image := { s.store.image with
          units := s.store.image.units.set u none, keys := s.store.image.keys.set u none },
        pendingSet := joinPending (joinPending s.store.pendingSet ⟨.unit u none, []⟩) ⟨.key u none, [.management]⟩ } } := by
  simp [State.acceptDelete, State.putUnit, State.setUnitDef, State.setKey, State.setUnit, State.withImage,
    State.requestWrite, Records.content, State.withStore, State.withUnits]

/-- Settles O27. -/
theorem unitDeleteActs : Obligations.UnitDeleteActs := by
  intro s h b t r
  refine ⟨_, exec_management (op := .unitDelete) rfl h b r.powered, fun absent => State.management_refused r _ ?_,
    fun u named defined => ?_⟩
  · show State.runUnitDelete _ b = _
    unfold State.runUnitDelete
    rcases absent with above | ⟨u, named, undefined⟩
    · rw [unitOf_eq_none_iff.2 above]
    · rw [unitOf_eq_some_iff.2 named]
      exact if_pos (Option.isNone_iff_eq_none.2 undefined)
  · have run : (s.inProgress t .unitDelete h b).runManagement .unitDelete b =
        if s.unitHeld u then (s.inProgress t .unitDelete h b).endManagement .unitBusy
        else (s.inProgress t .unitDelete h b).acceptDelete u := by
      show State.runUnitDelete _ b = _
      unfold State.runUnitDelete
      rw [unitOf_eq_some_iff.2 named]
      dsimp only
      have present : ¬ ((s.inProgress t .unitDelete h b).unitDef u).isNone = true :=
        fun none => Option.isSome_iff_ne_none.1 defined (Option.isNone_iff_eq_none.1 none)
      rw [if_neg present, s.unitHeld_inProgress t h b rfl]
    refine ⟨fun held => State.management_refused r _ (by rw [run, if_pos held]), fun free => ?_⟩
    have leads := State.management_leads r (.unitDelete h b) b
    rwa [run, if_neg (by simp [free]), State.acceptDelete_eq] at leads

end Sys2Proof.Machine
end

section
/-! The sector transform (R13, R72, R73, R75): deciphering and enciphering, and the intake of a WRITE segment (R35, R37). -/

namespace Sys2Proof.Machine

/-! ## Lists of sectors -/

@[simp] theorem length_encipher (k : CipherKey) (g lba : Nat) (data : List Sector) :
    (encipher k g lba data).length = data.length := by simp [encipher]

@[simp] theorem length_decipher (k : CipherKey) (g lba : Nat) (data : List Sector) :
    (decipher k g lba data).length = data.length := by simp [decipher]

theorem getElem_encipher (k : CipherKey) (g lba : Nat) (data : List Sector) (j : Nat)
    (h : j < (encipher k g lba data).length) :
    (encipher k g lba data)[j] = Config.sectorTransform k ⟨g, lba + j⟩ (data[j]'(by simpa using h)) := by
  simp [encipher]

theorem getElem_decipher (k : CipherKey) (g lba : Nat) (data : List Sector) (j : Nat)
    (h : j < (decipher k g lba data).length) :
    (decipher k g lba data)[j] = (Config.sectorTransform k ⟨g, lba + j⟩).symm (data[j]'(by simpa using h)) := by
  simp [decipher]

/-- Deciphering undoes enciphering, sector by sector. -/
theorem decipher_encipher (k : CipherKey) (g lba : Nat) (data : List Sector) :
    decipher k g lba (encipher k g lba data) = data := by
  refine List.ext_getElem (by simp) fun j _ _ => ?_
  rw [getElem_decipher, getElem_encipher, Equiv.symm_apply_apply]

theorem encipher_injective (k : CipherKey) (g lba : Nat) : Function.Injective (encipher k g lba) :=
  Function.LeftInverse.injective (decipher_encipher k g lba)

/-- One sector has different ciphertexts under two different pairs of a key and a tweak. -/
theorem sectorTransform_ne {k l : CipherKey} {t u : Tweak} (ht : t.fits) (hu : u.fits) (differ : (k, t) ≠ (l, u))
    (x : Sector) : Config.sectorTransform k t x ≠ Config.sectorTransform l u x :=
  (@Config.sectorCipher ⟨SectorCipher.additive⟩).apart k l t u ht hu differ x

/-- Settles O41. -/
theorem decipherUndoesEncipher : Obligations.DecipherUndoesEncipher := by
  intro k g lba data
  refine ⟨decipher_encipher k g lba data, fun other same => encipher_injective k g lba same,
    fun l g' lba' x hg hg' hlba hlba' differ => ?_⟩
  have pairs : (k, (⟨g, lba⟩ : Tweak)) ≠ (l, ⟨g', lba'⟩) := by
    simpa only [ne_eq, Prod.mk.injEq, Tweak.mk.injEq, not_and_or] using differ
  have apart : Config.sectorTransform k ⟨g, lba⟩ x ≠ Config.sectorTransform l ⟨g', lba'⟩ x :=
    sectorTransform_ne ⟨hg, hlba⟩ ⟨hg', hlba'⟩ pairs x
  have one (k : CipherKey) (g lba : Nat) : encipher k g lba [x] = [Config.sectorTransform k ⟨g, lba⟩ x] := rfl
  constructor
  · rw [one, one]
    exact fun same => apart (List.singleton_inj.1 same)
  · rw [one]
    intro back
    have : (Config.sectorTransform l ⟨g', lba'⟩).symm (Config.sectorTransform k ⟨g, lba⟩ x) = x :=
      List.singleton_inj.1 back
    exact apart ((Equiv.symm_apply_eq _).1 this)

/-! ## Intake -/

/-- A search that only one member answers. -/
theorem findSome?_unique {α β : Type} {f : α → Option β} {l : List α} {a : α} {b : β} (mem : a ∈ l) (here : f a = some b)
    (others : ∀ x ∈ l, x ≠ a → f x = none) : l.findSome? f = some b := by
  induction l with
  | nil => cases mem
  | cons x xs ih =>
    by_cases e : x = a
    · rw [e, List.findSome?_cons, here]
    · rw [List.findSome?_cons, others x (by simp) e]
      exact ih (by simpa [Ne.symm e] using mem) fun y hy => others y (by simp [hy])

/-- The slot whose intake is under way, where one slot takes sectors of the WRITE that holds the pipe. -/
theorem State.intakeSlot_eq {s : State} {n : Fin 4} {m : MediaSlot} {e : QueueEntry} {left : Nat}
    (pipe : s.port.bulkOut = .writeStage e.tag left) (entry : s.entryOf e.tag = some e) (slot : s.slots[n] = some m)
    (origin : m.origin = .host e.tag) (stage : m.stage = .intake)
    (only : ∀ (k : Fin 4) (x : MediaSlot), s.slots[k] = some x → x.origin = .host e.tag → x.stage = .intake → k = n) :
    s.intakeSlot = some (n, m, e, left) := by
  unfold State.intakeSlot
  rw [pipe]
  dsimp only
  rw [entry]
  refine findSome?_unique (List.mem_finRange n) (by simp [slot, origin, stage]) fun k _ ne => ?_
  split
  · rename_i x other
    exact if_neg (by simpa using fun o st => ne (only k x other o st))
  · rfl

/-- What a unit's intake makes of the sectors sent: enciphered under its key slot and tweaks, or unchanged. -/
theorem State.intakeData_eq {s : State} {u : UnitNo} {d : UnitDef} {lba : Nat} {data stored : List Sector}
    (defined : s.unitDef u = some d) (length : stored.length = data.length)
    (secure : d.kind = .secure → ∃ key, s.cipher.slots[u].key = some key ∧
      ∀ j (hj : j < data.length) (hs : j < stored.length), stored[j] =
        Config.sectorTransform key { generation := d.generation, lba := lba + j } data[j])
    (clear : d.kind = .clear → stored = data) : s.intakeData u lba data = stored := by
  have isSecure : s.isSecure u = decide (d.kind = .secure) := by simp only [State.isSecure, defined]
  have generation : s.generation u = d.generation := by simp only [State.generation, defined]
  unfold State.intakeData
  cases kind : d.kind with
  | secure =>
    obtain ⟨key, slot, sectors⟩ := secure kind
    rw [slot]
    simp only [isSecure, kind, decide_true, if_true, generation]
    refine List.ext_getElem (by simp [length]) fun j h _ => ?_
    rw [getElem_encipher, sectors j (by simpa using h)]
  | clear =>
    simp only [isSecure, kind, reduceCtorEq, decide_false, Bool.false_eq_true, if_false, clear kind]
    split <;> rfl

/-- Settles O40. -/
theorem writeIntakeEnciphers : Obligations.WriteIntakeEnciphers := by
  intro s n m e d left data stored powered awake pipe entry slot origin stage only whole defined length secure clear
  have intake := State.intakeSlot_eq pipe entry slot origin stage only
  have sectors : s.intakeData m.unit (e.segmentLba m.segment) data = stored :=
    State.intakeData_eq defined length secure clear
  show execWriteIntakeEnd data s = _
  rw [execWriteIntakeEnd, State.act_powered _ powered]
  dsimp only
  rw [intake]
  dsimp only
  rw [if_pos (by simp [awake, whole]), State.endIntake, sectors]
  rfl

end Sys2Proof.Machine
end

section
/-! What the Erase Engine's bookkeeping leaves alone: an end of its work, a hand-over or a drained signal changes no more
than the units, the key slots, the indicators, the engine, the records and the Event Queue, in which nothing is lost. -/

namespace Sys2Proof.Machine

/-- The Event Queue keeps its entries, and new ones stand behind them (R218). -/
def EventQueue.keeps (q r : EventQueue) : Prop := q.entries <+: r.entries

namespace EventQueue.keeps

theorem refl (q : EventQueue) : q.keeps q := List.prefix_rfl

theorem trans {q r t : EventQueue} (a : q.keeps r) (b : r.keeps t) : q.keeps t := List.IsPrefix.trans a b

theorem place (q : EventQueue) (e : Event) : q.keeps (q.place e) := by
  unfold EventQueue.place
  split
  · exact refl q
  · exact List.prefix_append _ _

end EventQueue.keeps

/-- `t` is `s` but for the units, the Cipher Unit, the indicators, the Erase Engine, the store and later events. -/
def State.engineOnly (s t : State) : Prop :=
  ∃ units cipher leds erase store events, s.events.keeps events ∧
    t = { s with units := units, cipher := cipher, leds := leds, erase := erase, store := store, events := events }

namespace State.engineOnly

variable {r s t : State}

theorem refl (s : State) : s.engineOnly s := ⟨_, _, _, _, _, _, .refl _, rfl⟩

theorem trans (a : r.engineOnly s) (b : s.engineOnly t) : r.engineOnly t := by
  obtain ⟨_, _, _, _, _, _, keeps, rfl⟩ := a
  obtain ⟨_, _, _, _, _, _, later, rfl⟩ := b
  exact ⟨_, _, _, _, _, _, keeps.trans later, rfl⟩

theorem ite {c : Prop} [Decidable c] {x y : State} (a : r.engineOnly x) (b : r.engineOnly y) :
    r.engineOnly (if c then x else y) := by
  split <;> assumption

/-! ## The single updates -/

theorem withUnits (h : r.engineOnly s) (x : Vector UnitRun 8) : r.engineOnly (s.withUnits x) :=
  h.trans ⟨_, _, _, _, _, _, .refl _, rfl⟩
theorem withCipher (h : r.engineOnly s) (x : Cipher) : r.engineOnly (s.withCipher x) :=
  h.trans ⟨_, _, _, _, _, _, .refl _, rfl⟩
theorem withLeds (h : r.engineOnly s) (x : Indicators) : r.engineOnly (s.withLeds x) :=
  h.trans ⟨_, _, _, _, _, _, .refl _, rfl⟩
theorem withErase (h : r.engineOnly s) (x : EraseEngine) : r.engineOnly (s.withErase x) :=
  h.trans ⟨_, _, _, _, _, _, .refl _, rfl⟩
theorem withStore (h : r.engineOnly s) (x : Store) : r.engineOnly (s.withStore x) :=
  h.trans ⟨_, _, _, _, _, _, .refl _, rfl⟩
theorem place (h : r.engineOnly s) (e : Event) : r.engineOnly (s.place e) :=
  h.trans ⟨_, _, _, _, _, _, .place _ _, rfl⟩

/-! ## The operations of Unit Control and the Erase Engine -/

theorem setUnit (h : r.engineOnly s) (u : UnitNo) (x : UnitRun) : r.engineOnly (s.setUnit u x) := h.withUnits _
theorem refreshLeds (h : r.engineOnly s) : r.engineOnly s.refreshLeds := h.withLeds _
theorem setMarker (h : r.engineOnly s) (u : UnitNo) (w : Option EraseWork) : r.engineOnly (s.setMarker u w) :=
  h.withStore _
theorem requestWrite (h : r.engineOnly s) (id : RecordId) (ws : List Waiter) : r.engineOnly (s.requestWrite id ws) :=
  h.withStore _
theorem requestKey (h : r.engineOnly s) (u : UnitNo) (p : KeyPath) : r.engineOnly (s.requestKey u p) := h.withCipher _
theorem setRerun (h : r.engineOnly s) (f : Rerun → Rerun) : r.engineOnly (s.setRerun f) := h.withErase _
theorem setCurrent (h : r.engineOnly s) (f : Descriptor → Descriptor) : r.engineOnly (s.setCurrent f) := h.withErase _

theorem releaseUnit (h : r.engineOnly s) (u : UnitNo) : r.engineOnly (s.releaseUnit u) :=
  have locked : r.engineOnly (s.unlockErasing u) := h.setUnit _ _
  ite (ite ((locked.setMarker _ _).requestWrite _ _) locked).refreshLeds h

theorem markTarget (h : r.engineOnly s) (u : UnitNo) (g : TargetStage) : r.engineOnly (s.markTarget u g) := by
  have moved : r.engineOnly (s.moveTarget u g .marking) := by
    unfold State.moveTarget
    split
    · exact h.withErase _
    · exact h
  exact (moved.setMarker _ _).requestWrite _ _

theorem giveUp (h : r.engineOnly s) (u : UnitNo) : r.engineOnly (s.giveUp u) :=
  ite (h.markTarget _ _) (ite (h.markTarget _ _) (h.releaseUnit u))

theorem enterHalted (h : r.engineOnly s) (held : Option UnitNo) (o : Outcome) : r.engineOnly (s.enterHalted held o) := by
  cases held with
  | none => exact (h.withErase _).place _
  | some u => exact ((h.giveUp u).withErase _).place _

theorem haltDescriptor (h : r.engineOnly s) (o : Outcome) : r.engineOnly (s.haltDescriptor o) :=
  (ite h (h.setCurrent _)).enterHalted _ _

theorem rerunFallback (h : r.engineOnly s) (u : UnitNo) (o : Outcome) : r.engineOnly (s.rerunFallback u o) :=
  (ite ((h.setRerun _).requestKey _ _) (((h.setRerun _).setMarker _ _).requestWrite _ _)).place _

/-! ## The drained signal -/

theorem endClose (h : r.engineOnly s) (u : UnitNo) : r.engineOnly (s.endClose u) := ite ((h.setUnit _ _).withCipher _) h

theorem descriptorDrained (h : r.engineOnly s) (d : Descriptor) : r.engineOnly (s.descriptorDrained d) := by
  unfold State.descriptorDrained
  split
  · exact h.haltDescriptor _
  · exact ((h.withErase _).setMarker _ _).requestWrite _ _

theorem claimDrained (h : r.engineOnly s) (u : UnitNo) : r.engineOnly (s.claimDrained u) := by
  refine ite ?_ h
  split
  · exact ite (h.descriptorDrained _) (ite (h.markTarget _ _) h)
  · exact ite (h.markTarget _ _) h

theorem drainNow (h : r.engineOnly s) (u : UnitNo) : r.engineOnly (s.drainNow u) := 
  ite ((h.endClose u).claimDrained u) h

end State.engineOnly

end Sys2Proof.Machine
end

section
/-! Power-on, loss of power, bus reset and standby: what each leaves in each block (R8, R45 to R47, R53, R57, R76, R128,
R134, R149, R196, R222). -/

namespace Sys2Proof.Machine

/-! ## Power-on -/

/-- The state of power-on before the rail follows need and the indicators are arbitrated. -/
def State.loadedBlocks (s : State) : State :=
  let image := s.store.array.loaded
  let off := State.unpowered s.store.array
  { off with
    pending := s.pending, draws := s.draws, power := { vbus := true, startUp := .step2 },
    store := { off.store with image := image }, units := image.units.map loadedUnit,
    link := { off.link with capacityRead := .awaitingRail }, leds := { off.leds with restTimer := some restTime } }

theorem State.powered_eq (s : State) : s.powered = s.loadedBlocks.followNeed.refreshLeds := rfl

/-- A unit loads ERASING where its record holds a marker and LOCKED elsewhere, and at rest (R8, R67). -/
theorem loadedUnit_eq (d : Option UnitDef) : loadedUnit d = { UnitRun.fresh with
    state := if (d.bind UnitDef.marker).isSome then .erasing else .locked } := by
  cases d <;> rfl

theorem State.powered_unitRun (s : State) (u : UnitNo) : s.powered.unitRun u = { UnitRun.fresh with
    state := if (s.powered.marker u).isSome then .erasing else .locked } := by
  have run : s.powered.unitRun u = loadedUnit (s.powered.unitDef u) := by
    simp [State.powered, State.unitRun, State.unitDef, State.refreshLeds, State.followNeed]
  rw [run, loadedUnit_eq]
  rfl

theorem State.powered_anyErasing (s : State) :
    s.powered.anyErasing = decide (∃ u, (s.powered.marker u).isSome = true) := by
  rw [Bool.eq_iff_iff]
  simp only [State.anyErasing, State.unitState, s.powered_unitRun, List.any_eq_true, List.mem_finRange, true_and,
    decide_eq_true_eq, ite_eq_left_iff, reduceCtorEq, imp_false, not_not]

theorem State.powered_anyOpen (s : State) : s.powered.anyOpen = false := by
  simp [State.anyOpen, powered_not_opened]

theorem State.powered_keys (s : State) (u : UnitNo) : s.powered.store.image.keys[u] =
    if s.powered.isSecure u then s.store.array.keys[u] else none := by
  simp only [s.powered.isSecure_iff]
  exact s.store.array.loaded_keys u

/-- The capacity read awaits the rail, and so there is need (R58, R59). -/
theorem State.powered_rail (s : State) : s.powered.rail = {
    state := .ramping, retryCount := 0, rampTimer := some 5, retryTimer := none, switchOffTimer := none } := by
  have need : s.loadedBlocks.need = true := by simp [State.need, State.loadedBlocks]
  show (s.loadedBlocks.rail.follow s.loadedBlocks.need) = _
  rw [need]
  rfl

/-- Each indicator shows its highest standing request: erasure where a unit is ERASING, and rest elsewhere (R130, R131). -/
theorem State.powered_leds (s : State) : s.powered.leds = {
    fail := false, green := none, restTimer := some 30, greenDisplay := ⟨none, 0⟩,
    redDisplay := ⟨if ∃ u, (s.powered.marker u).isSome then none else some .rest, 0⟩,
    blueDisplay := ⟨if ∃ u, (s.powered.marker u).isSome then some .erasure else none, 0⟩ } := by
  have anyOpen : s.loadedBlocks.followNeed.anyOpen = false := s.powered_anyOpen
  have anyErasing : s.loadedBlocks.followNeed.anyErasing = decide (∃ u, (s.powered.marker u).isSome = true) :=
    s.powered_anyErasing
  have standby : s.loadedBlocks.followNeed.port.standby = false := rfl
  have latch : s.loadedBlocks.followNeed.latch = false := rfl
  have internal : s.loadedBlocks.followNeed.erase.internal = none := rfl
  have entry : s.loadedBlocks.followNeed.entry.state = .disabled := rfl
  have session : s.loadedBlocks.followNeed.control.session = false := rfl
  have leds : s.loadedBlocks.followNeed.leds = {
    fail := false, green := none, restTimer := some 30, redDisplay := ⟨none, 0⟩, greenDisplay := ⟨none, 0⟩,
    blueDisplay := ⟨none, 0⟩ } := rfl
  show s.loadedBlocks.followNeed.refreshLeds.leds = _
  generalize s.loadedBlocks.followNeed = t at *
  by_cases marked : ∃ u, (s.powered.marker u).isSome = true <;> simp only [marked, if_true, if_false] at anyErasing ⊢ <;>
    simp [State.refreshLeds, State.winner, ledRequests, State.stands, Display.take, anyOpen, anyErasing, standby, latch,
      internal, entry, session, leds]

/-! ## Bus reset -/

theorem State.mem_occupied (s : State) (k : MediaSlot) : k ∈ s.occupied ↔ ∃ n : Fin 4, s.slots[n] = some k := by
  simp [State.occupied, Vector.mem_iff_getElem, Fin.exists_iff]

theorem State.hasOutstanding_iff (s : State) (t : Tag) :
    s.hasOutstanding t = true ↔ ∃ (n : Fin 4) (k : MediaSlot), s.slots[n] = some k ∧ k.origin = .host t := by
  simp only [State.hasOutstanding, List.any_eq_true, s.mem_occupied, MediaSlot.isOf, decide_eq_true_eq]
  exact ⟨fun ⟨k, ⟨n, slot⟩, origin⟩ => ⟨n, k, slot, origin⟩, fun ⟨n, k, slot, origin⟩ => ⟨k, ⟨n, slot⟩, origin⟩⟩

theorem State.resetPath_slots (s : State) (n : Fin 4) : s.resetPath.slots[n] = resetSlot s.slots[n] := by
  simp [State.resetPath]

/-- A host operation keeps its slot over a bus reset exactly where it is outstanding (R45). -/
theorem resetSlot_eq_some_host (x : Option MediaSlot) (t : Tag) :
    (∃ k, resetSlot x = some k ∧ k.origin = .host t) ↔
      ∃ k, x = some k ∧ k.origin = .host t ∧ k.stage = .outstanding := by
  cases x with
  | none => simp [resetSlot]
  | some m =>
    unfold resetSlot
    cases o : m.origin with
    | erase => simp [o]
    | host t' => by_cases h : m.stage = .outstanding <;> simp [o, h]

/-- The entries that stay after a bus reset (R45, R46). -/
theorem State.mem_resetPath_queue (s : State) (e : QueueEntry) :
    e ∈ s.resetPath.queue ↔ ∃ y ∈ s.queue, y.state = .active ∧
      ((∃ (n : Fin 4) (k : MediaSlot), s.slots[n] = some k ∧ k.origin = .host y.tag ∧ k.stage = .outstanding) ∨
        s.handler = some y.tag) ∧ e = { y with orphan := true, returned := none } := by
  have stays (y : QueueEntry) : (s.withSlots (s.slots.map resetSlot)).staysAfterReset y = true ↔ y.state = .active ∧
      ((∃ (n : Fin 4) (k : MediaSlot), s.slots[n] = some k ∧ k.origin = .host y.tag ∧ k.stage = .outstanding) ∨
        s.handler = some y.tag) := by
    have slots (n : Fin 4) : (s.withSlots (s.slots.map resetSlot)).slots[n] = resetSlot s.slots[n] := by simp
    rw [State.staysAfterReset, Bool.and_eq_true, Bool.or_eq_true, State.hasOutstanding_iff, decide_eq_true_iff,
      decide_eq_true_iff]
    simp only [slots, resetSlot_eq_some_host, State.withSlots_handler]
  simp only [State.resetPath, State.withPort_queue, State.withQueue_queue, State.withSlots_queue, List.mem_map,
    List.mem_filter, stays, and_assoc, eq_comm (a := e)]

/-! ## Standby -/

/-- What a close keeps of the controls that a suspend leaves alone (R128, R149). -/
structure State.keepsControls (s t : State) : Prop where
  session : t.control.session = s.control.session
  entry : t.entry = s.entry
  attempt : t.attempt = s.attempt
  standby : t.port.standby = s.port.standby
  pressSeen : t.port.pressSeen = s.port.pressSeen
  resumeSignalled : t.port.resumeSignalled = s.port.resumeSignalled

namespace State.keepsControls

variable {r s t : State}

theorem refl (s : State) : s.keepsControls s := ⟨rfl, rfl, rfl, rfl, rfl, rfl⟩

theorem trans (a : r.keepsControls s) (b : s.keepsControls t) : r.keepsControls t :=
  ⟨b.session.trans a.session, b.entry.trans a.entry, b.attempt.trans a.attempt, b.standby.trans a.standby,
    b.pressSeen.trans a.pressSeen, b.resumeSignalled.trans a.resumeSignalled⟩

theorem ofEngine (h : s.engineOnly t) : s.keepsControls t := by
  obtain ⟨_, _, _, _, _, _, _, rfl⟩ := h
  exact ⟨rfl, rfl, rfl, rfl, rfl, rfl⟩

theorem releaseStage (s : State) : s.keepsControls s.releaseStage := by
  unfold State.releaseStage
  split
  · split
    · split
      · exact ⟨rfl, rfl, rfl, rfl, rfl, rfl⟩
      · exact refl s
    · exact refl s
  · exact refl s
  · exact refl s

theorem endCommands (s : State) (u : UnitNo) (st : Status) : s.keepsControls (s.endCommands u st) :=
  have ended : s.keepsControls ((s.withQueue (s.queue.map fun e =>
      if e.names u && e.op.usesMedia then s.closedEntry st e else e)).discardBuffered u) := ⟨rfl, rfl, rfl, rfl, rfl, rfl⟩
  ended.trans (releaseStage _)

theorem closeUnit (s : State) (c : CloseCause) (u : UnitNo) : s.keepsControls (s.closeUnit c u) := by
  unfold State.closeUnit
  split
  · have started : s.keepsControls (s.startClose u c) := ⟨rfl, rfl, rfl, rfl, rfl, rfl⟩
    exact (started.trans (endCommands _ _ _)).trans (ofEngine (State.engineOnly.refl _ |>.drainNow u))
  · exact refl s

theorem closeUnits (c : CloseCause) (us : List UnitNo) (s : State) : s.keepsControls (s.closeUnits c us) := by
  induction us generalizing s with
  | nil => exact refl s
  | cons u us ih => exact (closeUnit s c u).trans (ih _)

end State.keepsControls

theorem State.suspendUnits_eq (s : State) :
    s.suspendUnits = (List.finRange 8).filter fun u => (s.unitDef u).any fun d => d.lockOnSuspend :=
  List.filter_congr fun u _ => by cases s.unitDef u <;> rfl

theorem State.mem_suspendUnits (s : State) (u : UnitNo) :
    u ∈ s.suspendUnits ↔ ∃ d, s.unitDef u = some d ∧ d.lockOnSuspend = true := by
  rw [s.suspendUnits_eq, List.mem_filter, Option.any_eq_true]
  simp [List.mem_finRange]

/-- A close cause leaves a unit that is not OPEN as it is. -/
theorem State.closeUnits_unitRun (c : CloseCause) (us : List UnitNo) {v : UnitNo} : ∀ s : State,
    (∀ u, s.unitState u = .opened → (s.unitRun u).claimPending = false) → s.unitState v ≠ .opened →
    (s.closeUnits c us).unitRun v = s.unitRun v := by
  induction us with
  | nil => exact fun s _ _ => rfl
  | cons u us ih =>
    intro s pending closed
    show ((s.closeUnit c u).closeUnits c us).unitRun v = s.unitRun v
    by_cases opened : s.unitState u = .opened
    · have one := s.closeUnit_spec c u opened (pending u opened)
      have run (w : UnitNo) (h : w ≠ u) : (s.closeUnit c u).unitRun w = s.unitRun w := (one.others w h).1
      have own : (s.closeUnit c u).unitState u ≠ .opened := by
        rcases one.unit.either with e | e <;> simp [State.unitState, e.1]
      have other : v ≠ u := by rintro rfl; exact closed opened
      rw [ih _ (fun w hw => ?_) (by rwa [State.unitState, run v other]), run v other]
      have ne : w ≠ u := by rintro rfl; exact own hw
      rw [run w ne]
      exact pending w (by rwa [State.unitState, run w ne] at hw)
    · rw [show s.closeUnit c u = s from if_neg opened]
      exact ih s pending closed

/-- The part in standby, before the units with lock on suspend close (R47, R149). -/
def State.asleep (s : State) : State :=
  s.withPort { s.port with standby := true, pressSeen := false, resumeSignalled := false }

theorem State.unitsFit.not_claimed {s : State} (fit : s.unitsFit) {u : UnitNo} (opened : s.unitState u = .opened) :
    (s.unitRun u).claimPending = false := by
  by_contra claimed
  cases opened.symm.trans ((fit.units u).pending (Bool.eq_true_of_not_eq_false claimed))

/-! ## The commands of power and the bus -/

section Commands

variable {s : State} (powered : s.power.vbus = true)
include powered

theorem exec_powerLoss : exec .powerLoss s = .next s.unpoweredOf := by
  show execPowerLoss s = _
  rw [execPowerLoss, State.act_powered _ powered]

theorem exec_busReset : exec .busReset s = .next (s.resetPath.withEvents ⟨[], false, false⟩).finish := by
  show execBusReset s = _
  rw [execBusReset, State.act_powered _ powered]

theorem exec_standbyEntry (awake : s.port.standby = false) :
    exec .standbyEntry s = .next (s.asleep.closeUnits .suspend s.suspendUnits).finish := by
  show execStandbyEntry s = _
  rw [execStandbyEntry, State.act_powered _ powered, if_neg (by simp [awake]), State.asleep]

theorem exec_standbyExit (asleep : s.port.standby = true) :
    exec .standbyExit s = .next ((s.withPort { s.port with standby := false }).restartLeds).finish := by
  show execStandbyExit s = _
  rw [execStandbyExit, State.act_powered _ powered, if_pos asleep]

end Commands

/-- Settles O60: the loaded blocks, the reset path and the closes of standby entry, each read off its own lemmas. -/
theorem powerAndBusAct : Obligations.PowerAndBusAct := by
  intro s
  refine ⟨⟨s.powered, rfl, rfl, rfl, rfl, rfl, rfl, rfl, rfl, rfl, rfl, s.powered_keys, s.powered_unitRun, rfl, rfl, rfl,
    rfl, rfl, s.powered_leds, rfl, rfl, rfl, rfl, s.powered_rail, rfl, rfl, rfl, rfl, rfl, rfl⟩, exec_powerLoss,
    fun powered => ?_, fun powered awake fit => ?_, fun powered asleep => ?_⟩
  case refine_1 =>
    refine ⟨_, s.resetPath.withEvents ⟨[], false, false⟩, exec_busReset powered, State.leads_finish _, rfl, rfl,
      s.mem_resetPath_queue, ?_, ?_, rfl, rfl, rfl, rfl, rfl, rfl, rfl, rfl, rfl, rfl, rfl, rfl, rfl, rfl, rfl, rfl,
      rfl, rfl⟩
    · intro n k slot origin
      rw [State.withEvents_slots, s.resetPath_slots, slot, resetSlot, origin]
    · intro n k t slot origin
      rw [State.withEvents_slots, s.resetPath_slots, slot, resetSlot, origin]
  case refine_2 =>
    obtain ⟨closes, events, others, -, -⟩ := s.asleep.closeUnits_spec .suspend s.suspendUnits
      ((List.nodup_finRange 8).filter _) fun _ opened => fit.not_claimed opened
    have keeps := State.keepsControls.closeUnits .suspend s.suspendUnits s.asleep
    refine ⟨_, s.asleep.closeUnits .suspend s.suspendUnits, exec_standbyEntry powered awake, State.leads_finish _,
      keeps.standby, keeps.pressSeen, keeps.resumeSignalled, keeps.session, keeps.entry, keeps.attempt, ?_,
      fun u => ⟨?_, ?_⟩⟩
    · rw [events, s.suspendUnits_eq]
      rfl
    · rintro ⟨opened, locks⟩
      obtain ⟨either, outstanding, drained⟩ := closes u ((s.mem_suspendUnits u).2 locks) opened
      refine ⟨fun h => ?_, either, outstanding, drained⟩
      have before := (opensNothing_of_moves State.Moves.refl.finish).1 u h
      rcases either with e | e <;> simp [State.unitState, e.1] at before
    · rintro (closed | stays)
      · exact s.asleep.closeUnits_unitRun .suspend s.suspendUnits (fun _ opened => fit.not_claimed opened) closed
      · refine (others u fun mem => ?_).1
        obtain ⟨d, defined, locks⟩ := (s.mem_suspendUnits u).1 mem
        simp [stays d defined] at locks
  case refine_3 =>
    exact ⟨_, _, exec_standbyExit powered asleep, State.leads_finish _, rfl, rfl, rfl, rfl, rfl, rfl⟩

end Sys2Proof.Machine
end

section
/-! What the results of media operations do: a host's result reaches its own command's entry alone (R38 to R40, R45), an
erase segment's the engine alone (R56, R169), and the end of every outstanding operation frees exactly the outstanding slots
(R51, R61). -/

namespace Sys2Proof.Machine

/-! ## Results of host operations -/

/-- The entries of a tag. -/
def State.entriesOf (s : State) (t : Tag) : List QueueEntry := s.queue.filter fun e => decide (e.tag = t)

theorem State.entryOf_eq_head (s : State) (t : Tag) : s.entryOf t = (s.entriesOf t).head? :=
  (List.head?_filter ..).symm

/-- `q` is `s` but for the port and the entries of one tag. -/
def State.commandOnly (s : State) (t : Tag) (q : State) : Prop :=
  ∃ queue port, q = { s with queue := queue, port := port } ∧ ∀ x, x ≠ t → q.entriesOf x = s.entriesOf x

namespace State.commandOnly

variable {r s q : State} {t : Tag}

theorem refl (s : State) (t : Tag) : s.commandOnly t s := ⟨_, _, rfl, fun _ _ => rfl⟩

theorem trans (a : r.commandOnly t s) (b : s.commandOnly t q) : r.commandOnly t q := by
  obtain ⟨_, _, rfl, others⟩ := a
  obtain ⟨_, _, rfl, others'⟩ := b
  exact ⟨_, _, rfl, fun x h => (others' x h).trans (others x h)⟩

theorem withPort (s : State) (t : Tag) (p : Port) : s.commandOnly t (s.withPort p) := ⟨_, _, rfl, fun _ _ => rfl⟩

theorem updateEntry (s : State) (t : Tag) (f : QueueEntry → QueueEntry) (tag : ∀ e, (f e).tag = e.tag) :
    s.commandOnly t (s.updateEntry t f) := by
  refine ⟨_, _, rfl, fun x h => ?_⟩
  have same (e : QueueEntry) (h : e.tag = x) : (if e.tag = t then f e else e) = e := if_neg (by rwa [h])
  have tags (e : QueueEntry) : (if e.tag = t then f e else e).tag = e.tag := by split <;> simp [tag]
  show (s.queue.map _).filter _ = s.queue.filter _
  rw [List.filter_map]
  simp only [Function.comp_def, tags]
  exact (List.map_congr_left fun e mem => same e (by simpa using (List.mem_filter.1 mem).2)).trans (List.map_id' _)

theorem dropEntry (s : State) (t : Tag) : s.commandOnly t (s.dropEntry t) := by
  refine ⟨_, _, rfl, fun x h => ?_⟩
  show (s.queue.filter _).filter _ = s.queue.filter _
  rw [List.filter_filter]
  exact List.filter_congr fun e _ => by by_cases tag : e.tag = x <;> simp [tag, h]

theorem releaseStage (s : State) (t : Tag) : s.commandOnly t s.releaseStage := by
  unfold State.releaseStage
  split
  · split
    · split
      · exact withPort s t _
      · exact refl s t
    · exact refl s t
  · exact refl s t
  · exact refl s t

theorem endEntry (s : State) (t : Tag) (v : Verdict) : s.commandOnly t (s.endEntry t v) :=
  (updateEntry s t (fun e => { e with state := .ending, verdict := some v }) fun _ => rfl).trans (releaseStage _ t)

theorem freeBufferOf (s : State) (m : MediaSlot) (t : Tag) : s.commandOnly t (s.freeBufferOf m) := by
  unfold State.freeBufferOf
  split
  · exact withPort s t _
  · exact refl s t

theorem fillBuffer (s : State) (m : MediaSlot) (t x : Tag) (data : List Sector) :
    s.commandOnly t (s.fillBuffer m x data) := by
  unfold State.fillBuffer
  split
  · exact withPort s t _
  · exact refl s t

theorem readResult (s : State) (m : MediaSlot) (e : QueueEntry) (r : MediaResult) :
    s.commandOnly e.tag (s.readResult m e r) := by
  unfold State.readResult
  split
  · exact (freeBufferOf s m _).trans (endEntry _ _ _)
  · dsimp only
    split
    · exact (fillBuffer s m _ _ _).trans (endEntry _ _ _)
    · exact fillBuffer s m _ _ _
  · exact (freeBufferOf s m _).trans (endEntry _ _ _)

theorem writeResult (s : State) (m : MediaSlot) (e : QueueEntry) (r : MediaResult) :
    s.commandOnly e.tag (s.writeResult m e r) := by
  unfold State.writeResult
  split
  · have counted := updateEntry s e.tag (fun e => { e with sectorsDone := e.sectorsDone + m.sectors }) fun _ => rfl
    dsimp only
    split
    · exact counted.trans (endEntry _ _ _)
    · split
      · exact counted.trans (endEntry _ _ _)
      · exact counted
  · exact endEntry _ _ _

theorem hostResult (s : State) (m : MediaSlot) (t : Tag) (r : MediaResult) : s.commandOnly t (s.hostResult m t r) := by
  unfold State.hostResult
  split
  · exact refl s t
  · next e found =>
    obtain rfl : e.tag = t := by simpa using List.find?_some found
    split
    · exact dropEntry s _
    · split
      · exact readResult s m e r
      · exact writeResult s m e r
      · exact writeResult s m e r
      · exact writeResult s m e r
      · exact endEntry s _ _

end State.commandOnly

/-- A command of the tag has ended with the verdict. -/
def State.endedWith (s : State) (t : Tag) (v : Verdict) : Prop :=
  ∃ y ∈ s.queue, y.tag = t ∧ y.state = .ending ∧ y.verdict = some v

theorem State.endedWith_iff (s : State) (t : Tag) (v : Verdict) :
    s.endedWith t v ↔ ∃ y ∈ s.entriesOf t, y.state = .ending ∧ y.verdict = some v := by
  simp [State.endedWith, State.entriesOf, and_assoc]

theorem State.endEntry_endedWith {s : State} {t : Tag} {e : QueueEntry} (found : s.entryOf t = some e) (v : Verdict) :
    (s.endEntry t v).endedWith t v := by
  have mem : e ∈ s.queue := List.mem_of_find?_eq_some found
  have tag : e.tag = t := by simpa using List.find?_some found
  refine ⟨{ e with state := .ending, verdict := some v }, ?_, tag, rfl, rfl⟩
  rw [State.endEntry, (State.releaseStage_frame _).2.2.2.2]
  exact List.mem_map.2 ⟨e, mem, if_pos tag⟩

theorem State.writeResult_failed (s : State) (m : MediaSlot) (e : QueueEntry) {r : MediaResult}
    (failed : ∀ data, r ≠ .ok data) : s.writeResult m e r = s.endEntry e.tag r.verdict := by
  cases r with
  | ok data => exact absurd rfl (failed data)
  | failed | timeout | reset | power => rfl

theorem State.readResult_failed {s : State} {m : MediaSlot} (serves : s.closingStatus m.unit = none) (e : QueueEntry)
    {r : MediaResult} (failed : ∀ data, r ≠ .ok data) :
    s.readResult m e r = (s.freeBufferOf m).endEntry e.tag r.verdict := by
  unfold State.readResult
  rw [serves]
  cases r with
  | ok data => exact absurd rfl (failed data)
  | failed | timeout | reset | power => rfl

theorem State.freeBufferOf_entryOf (s : State) (m : MediaSlot) (t : Tag) : (s.freeBufferOf m).entryOf t = s.entryOf t := by
  unfold State.freeBufferOf
  split <;> rfl

/-- A result that is not OK ends a command that a bus reset has not left, with the result's verdict: a READ where its unit
still serves it (R39, R40, R56). -/
theorem State.hostResult_endedWith {s : State} {m : MediaSlot} {t : Tag} {e : QueueEntry} {r : MediaResult}
    (found : s.entryOf t = some e) (live : e.orphan = false) (failed : ∀ data, r ≠ .ok data)
    (op : m.op = .write ∨ m.op = .trim ∨ m.op = .flush ∨ m.op = .read ∧ s.closingStatus m.unit = none) :
    (s.hostResult m t r).endedWith t r.verdict := by
  obtain rfl : e.tag = t := by simpa using List.find?_some found
  rw [State.hostResult, found]
  dsimp only
  rw [if_neg (by simp [live])]
  rcases op with op | op | op | ⟨op, serves⟩ <;> rw [op] <;> dsimp only
  · rw [s.writeResult_failed m e failed]
    exact State.endEntry_endedWith found _
  · rw [s.writeResult_failed m e failed]
    exact State.endEntry_endedWith found _
  · exact State.endEntry_endedWith found _
  · rw [State.readResult_failed serves e failed]
    exact State.endEntry_endedWith ((s.freeBufferOf_entryOf m e.tag).trans found) _

/-! ## Results of erase segments -/

/-- The engine is HALTED with this list, and with no work under way. -/
structure State.haltedWith (s : State) (list : Vector (Option Descriptor) 32) : Prop where
  list : s.erase.list = list
  state : s.erase.state = .halted
  stage : s.erase.stage = .none
  rerun : s.erase.rerun = none

theorem State.giveUp_erase (s : State) (u : UnitNo) : ∃ i, (s.giveUp u).erase = { s.erase with internal := i } := by
  have marked (g : TargetStage) : ∃ i, (s.markTarget u g).erase = { s.erase with internal := i } := by
    unfold State.markTarget State.moveTarget
    split <;> exact ⟨_, rfl⟩
  unfold State.giveUp
  split
  · exact marked _
  · split
    · exact marked _
    · unfold State.releaseUnit
      split
      · split <;> exact ⟨_, rfl⟩
      · exact ⟨_, rfl⟩

theorem State.haltDescriptor_halts {s : State} {d : Descriptor} (current : s.currentDescriptor = some d)
    (rerun : s.erase.rerun = none) :
    (s.haltDescriptor .mediaError).haltedWith
      (s.erase.list.set s.erase.current (some { d with done := true, outcome := some .mediaError })) := by
  have entered (t : State) (held : Option UnitNo) : ∃ i p, (t.enterHalted held .mediaError).erase = { t.erase with
      internal := i, state := .halted, stage := .none, kept := none, segment := .none, progress := p } := by
    cases held with
    | none => exact ⟨_, _, rfl⟩
    | some u =>
      obtain ⟨i, given⟩ := t.giveUp_erase u
      exact ⟨i, 0, by simp only [State.enterHalted, State.place, State.withEvents_erase, State.withErase_erase, given]⟩
  obtain ⟨i, p, erase⟩ := entered (s.setCurrent fun d => { d with done := true, outcome := some .mediaError }) s.heldUnit
  rw [State.haltDescriptor, if_neg nofun]
  refine ⟨?_, ?_, ?_, ?_⟩ <;> rw [erase]
  · simp [State.setCurrent, current]
  · exact rerun

/-- A failed segment of the descriptor in progress halts it MEDIA_ERROR (R56, R171). -/
theorem State.eraseResult_halts {s : State} {d : Descriptor} (rerun : s.erase.rerun = none)
    (working : s.erase.stage = .working) (current : s.currentDescriptor = some d) (phase : d.phase ≠ none) (sectors : Nat) {r : MediaResult}
    (failed : ∀ data, r ≠ .ok data) :
    (s.eraseResult sectors r).haltedWith
      (s.erase.list.set s.erase.current (some { d with done := true, outcome := some .mediaError })) := by
  obtain ⟨p, phase⟩ := Option.ne_none_iff_exists'.1 phase
  have job : s.eraseJob = some ⟨d.unit, d.work, p, d.sectorsDone⟩ := by
    simp [State.eraseJob, rerun, working, current, phase]
  have halts := State.haltDescriptor_halts (s := s.withErase { s.erase with segment := .none }) current rerun
  unfold State.eraseResult
  rw [job, rerun]
  cases r with
  | ok data => exact absurd rfl (failed data)
  | failed | timeout | reset | power => exact halts

/-- A result reaches nothing where the engine presents no segments. -/
theorem State.eraseResult_idle {s : State} {list} (halted : s.haltedWith list) (sectors : Nat) (r : MediaResult) :
    s.eraseResult sectors r = s := by
  have job : s.eraseJob = none := by simp [State.eraseJob, halted.rerun, halted.stage]
  unfold State.eraseResult
  rw [job]

theorem State.eraseResult_engineOnly (s : State) (sectors : Nat) {r : MediaResult} (failed : ∀ data, r ≠ .ok data) :
    s.engineOnly (s.eraseResult sectors r) := by
  unfold State.eraseResult
  split
  · exact .refl s
  · next j _ =>
    have freed : s.engineOnly (s.withErase { s.erase with segment := .none }) := (State.engineOnly.refl s).withErase _
    dsimp only
    split
    · exact absurd rfl (failed _)
    · exact absurd rfl (failed _)
    · exact freed.rerunFallback _ _
    · exact freed.haltDescriptor _

/-! ## Slots that end -/

/-- `t` is `s` but for the results of operations: the link and the rail are as they were, and events only join. -/
structure State.resultsOnly (s t : State) : Prop where
  link : t.link = s.link
  rail : t.rail = s.rail
  slots : t.slots = s.slots
  events : s.events.keeps t.events

theorem State.commandOnly.resultsOnly {s q : State} {t : Tag} (h : s.commandOnly t q) : s.resultsOnly q := by
  obtain ⟨_, _, rfl, _⟩ := h
  exact ⟨rfl, rfl, rfl, .refl _⟩

theorem State.engineOnly.resultsOnly {s t : State} (h : s.engineOnly t) : s.resultsOnly t := by
  obtain ⟨_, _, _, _, _, _, keeps, rfl⟩ := h
  exact ⟨rfl, rfl, rfl, keeps⟩

section Ends

variable {s : State} {r : MediaResult} (failed : ∀ data, r ≠ .ok data)
include failed

theorem State.handResult_resultsOnly (m : MediaSlot) : s.resultsOnly (s.handResult m r) := by
  unfold State.handResult
  split
  · exact (State.commandOnly.hostResult s m _ r).resultsOnly
  · exact (s.eraseResult_engineOnly m.sectors failed).resultsOnly

theorem State.handResult_entriesOf (m : MediaSlot) {t : Tag} (other : m.origin ≠ .host t) :
    (s.handResult m r).entriesOf t = s.entriesOf t := by
  unfold State.handResult
  split
  · next x origin =>
    obtain ⟨_, _, _, others⟩ := State.commandOnly.hostResult s m x r
    exact others t fun same => other (same ▸ origin)
  · obtain ⟨_, _, _, _, _, _, _, same⟩ := s.eraseResult_engineOnly m.sectors failed
    rw [same]
    rfl

end Ends

end Sys2Proof.Machine
end

section
/-! The end of outstanding operations (R51, R61): which slots free, and what reaches the commands and the engine. -/

namespace Sys2Proof.Machine

/-- The operation of a slot ends with a result, where one is outstanding. -/
def State.endLink (s : State) (r : MediaResult) (n : Fin 4) : State :=
  if (s.linkSlot n).isSome then s.endSlot n r else s

theorem State.endOutstanding_eq (s : State) (r : MediaResult) :
    s.endOutstanding r = (List.finRange 4).foldl (fun s n => s.endLink r n) s := rfl

theorem State.linkSlot_eq_some_iff (s : State) (n : Fin 4) (m : MediaSlot) :
    s.linkSlot n = some m ↔ s.slots[n] = some m ∧ m.stage = .outstanding := by
  unfold State.linkSlot
  split
  · next x slot =>
    by_cases h : x.stage = .outstanding
    · simp only [h, if_true, slot, Option.some.injEq]
      exact ⟨fun e => ⟨e, e ▸ h⟩, And.left⟩
    · simp only [h, if_false, slot, Option.some.injEq, reduceCtorEq, false_iff]
      rintro ⟨rfl, out⟩
      exact h out
  · next slot => simp [slot]

theorem State.endLink_idle {s : State} {n : Fin 4} (h : s.linkSlot n = none) (r : MediaResult) : s.endLink r n = s := by
  simp [State.endLink, h]

theorem State.endLink_of_slot {s : State} {n : Fin 4} {m : MediaSlot} (slot : s.slots[n] = some m)
    (out : m.stage = .outstanding) (r : MediaResult) : s.endLink r n = (s.setSlot n none).handResult m r := by
  rw [State.endLink, if_pos (by rw [(s.linkSlot_eq_some_iff n m).2 ⟨slot, out⟩]; rfl), State.endSlot, slot]

/-- A slot holds no outstanding operation, or one that `endLink` hands over. -/
theorem State.endLink_cases (s : State) (r : MediaResult) (n : Fin 4) :
    (s.linkSlot n = none ∧ s.endLink r n = s) ∨ ∃ m, s.slots[n] = some m ∧ m.stage = .outstanding ∧
      s.endLink r n = (s.setSlot n none).handResult m r := by
  cases h : s.linkSlot n with
  | none => exact .inl ⟨rfl, s.endLink_idle h r⟩
  | some m =>
    obtain ⟨slot, out⟩ := (s.linkSlot_eq_some_iff n m).1 h
    exact .inr ⟨m, slot, out, State.endLink_of_slot slot out r⟩

/-! ## What is left alone -/

/-- `t` is `s` after the ends of some outstanding operations: the link and the rail are as they were, events only join, and
no slot but one of an outstanding operation has freed. -/
structure State.endsOnly (s t : State) : Prop where
  link : t.link = s.link
  rail : t.rail = s.rail
  events : s.events.keeps t.events
  slots : ∀ k : Fin 4, t.slots[k] = s.slots[k] ∨ (t.slots[k] = none ∧ (s.linkSlot k).isSome = true)

namespace State.endsOnly

variable {r s t : State}

theorem refl (s : State) : s.endsOnly s := ⟨rfl, rfl, .refl _, fun _ => .inl rfl⟩

/-- A slot with nothing outstanding is as it was. -/
theorem slot_eq (h : s.endsOnly t) {k : Fin 4} (idle : s.linkSlot k = none) : t.slots[k] = s.slots[k] := by
  rcases h.slots k with same | ⟨_, out⟩
  · exact same
  · simp [idle] at out

theorem slot_of_some (h : s.endsOnly t) {k : Fin 4} {x : MediaSlot} (slot : t.slots[k] = some x) : s.slots[k] = some x := by
  rcases h.slots k with same | ⟨freed, _⟩
  · exact same.symm.trans slot
  · cases freed.symm.trans slot

theorem linkSlot_none (h : s.endsOnly t) {k : Fin 4} (idle : s.linkSlot k = none) : t.linkSlot k = none := by
  rw [← idle, State.linkSlot, State.linkSlot, h.slot_eq idle]

theorem trans (a : r.endsOnly s) (b : s.endsOnly t) : r.endsOnly t := by
  refine ⟨b.link.trans a.link, b.rail.trans a.rail, a.events.trans b.events, fun k => ?_⟩
  rcases b.slots k with same | ⟨freed, out⟩
  · rw [same]
    exact a.slots k
  · refine .inr ⟨freed, ?_⟩
    obtain ⟨m, held⟩ := Option.isSome_iff_exists.1 out
    obtain ⟨slot, stage⟩ := (s.linkSlot_eq_some_iff k m).1 held
    rw [(r.linkSlot_eq_some_iff k m).2 ⟨a.slot_of_some slot, stage⟩]
    rfl

end State.endsOnly

/-- The one operation of a host command that a bus reset has not left is outstanding, and where it is a READ's, its unit
serves it and no erase segment can change that. -/
structure State.awaitsEnd (s : State) (n : Fin 4) (m : MediaSlot) (e : QueueEntry) : Prop where
  slot : s.slots[n] = some m
  outstanding : m.stage = .outstanding
  origin : m.origin = .host e.tag
  found : s.entryOf e.tag = some e
  live : e.orphan = false
  alone : ∀ k x, s.slots[(k : Fin 4)] = some x → x.origin = .host e.tag → k = n
  serves : m.op = .write ∨ m.op = .trim ∨ m.op = .flush ∨ m.op = .read ∧
    (∀ k x, s.slots[(k : Fin 4)] = some x → x.origin ≠ .erase) ∧ s.closingStatus m.unit = none

theorem State.endLink_host (s : State) (r : MediaResult) (n : Fin 4)
    (host : ∀ m, s.slots[n] = some m → m.origin ≠ .erase) :
    ∃ slots queue port, s.endLink r n = { s with slots := slots, queue := queue, port := port } := by
  rcases s.endLink_cases r n with ⟨_, same⟩ | ⟨m, slot, _, ends⟩
  · exact ⟨_, _, _, same⟩
  · rw [ends, State.handResult]
    split
    · obtain ⟨_, _, same, _⟩ := State.commandOnly.hostResult (s.setSlot n none) m ‹_› r
      exact ⟨_, _, _, same⟩
    · next erase => exact absurd erase (host m slot)

section Ends

variable {r : MediaResult} (failed : ∀ data, r ≠ .ok data)
include failed

theorem State.endLink_slots_ne (s : State) {n k : Fin 4} (h : k ≠ n) : (s.endLink r n).slots[k] = s.slots[k] := by
  rcases s.endLink_cases r n with ⟨_, same⟩ | ⟨m, _, _, ends⟩
  · rw [same]
  · rw [ends, (State.handResult_resultsOnly (s := s.setSlot n none) failed m).slots]
    simp [State.setSlot, Fin.val_ne_of_ne (Ne.symm h)]

/-- The end of one operation frees its slot and no other. -/
theorem State.endLink_endsOnly (s : State) (n : Fin 4) :
    s.endsOnly (s.endLink r n) ∧ (s.endLink r n).linkSlot n = none := by
  rcases s.endLink_cases r n with ⟨idle, same⟩ | ⟨m, slot, out, ends⟩
  · rw [same]
    exact ⟨.refl s, idle⟩
  · obtain ⟨link, rail, slots, events⟩ := State.handResult_resultsOnly (s := s.setSlot n none) failed m
    have freed : (s.endLink r n).slots[n] = none := by
      rw [ends, slots]
      simp [State.setSlot]
    have held : (s.linkSlot n).isSome = true := by rw [(s.linkSlot_eq_some_iff n m).2 ⟨slot, out⟩]; rfl
    refine ⟨⟨by rw [ends, link]; rfl, by rw [ends, rail]; rfl, by rw [ends]; exact events, fun k => ?_⟩, ?_⟩
    · by_cases same : k = n
      · subst same
        exact .inr ⟨freed, held⟩
      · exact .inl (s.endLink_slots_ne failed same)
    · rw [State.linkSlot, freed]

theorem State.endLinks_endsOnly (l : List (Fin 4)) (s : State) :
    s.endsOnly (l.foldl (fun s n => s.endLink r n) s) ∧
      ∀ k ∈ l, (l.foldl (fun s n => s.endLink r n) s).linkSlot k = none := by
  induction l generalizing s with
  | nil => exact ⟨.refl s, nofun⟩
  | cons n l ih =>
    obtain ⟨one, own⟩ := s.endLink_endsOnly failed n
    obtain ⟨rest, all⟩ := ih (s.endLink r n)
    refine ⟨one.trans rest, fun k mem => ?_⟩
    rcases List.mem_cons.1 mem with rfl | mem
    · exact rest.linkSlot_none own
    · exact all k mem

/-- Every outstanding operation ends, and nothing else leaves its slot (R51, R61). -/
theorem State.endOutstanding_endsOnly (s : State) :
    s.endsOnly (s.endOutstanding r) ∧ ∀ k, (s.endOutstanding r).linkSlot k = none :=
  ⟨(endLinks_endsOnly failed _ s).1, fun k => (endLinks_endsOnly failed _ s).2 k (List.mem_finRange k)⟩

/-! ## What reaches a command -/

/-- The results of other origins leave the entries of a tag. -/
theorem State.endLinks_entriesOf (l : List (Fin 4)) (s : State) {t : Tag}
    (others : ∀ k ∈ l, ∀ x, s.slots[k] = some x → x.origin ≠ .host t) :
    (l.foldl (fun s n => s.endLink r n) s).entriesOf t = s.entriesOf t := by
  induction l generalizing s with
  | nil => rfl
  | cons n l ih =>
    have one : (s.endLink r n).entriesOf t = s.entriesOf t := by
      rcases s.endLink_cases r n with ⟨_, same⟩ | ⟨m, slot, _, ends⟩
      · rw [same]
      · rw [ends]
        exact State.handResult_entriesOf failed m (others n (.head _) m slot)
    refine (ih _ fun k mem x slot => ?_).trans one
    exact others k (.tail _ mem) x ((s.endLink_endsOnly failed n).1.slot_of_some slot)

/-- The verdict of an ended command stays, when no other operation is the command's. -/
theorem State.endLinks_endedWith (l : List (Fin 4)) (s : State) {t : Tag} {v : Verdict} (ended : s.endedWith t v)
    (others : ∀ k x, s.slots[(k : Fin 4)] = some x → x.origin ≠ .host t) :
    (l.foldl (fun s n => s.endLink r n) s).endedWith t v := by
  rw [State.endedWith_iff, State.endLinks_entriesOf failed l s fun k _ => others k, ← State.endedWith_iff]
  exact ended

theorem State.awaitsEnd.endLink_other {s : State} {n k : Fin 4} {m : MediaSlot} {e : QueueEntry} (h : s.awaitsEnd n m e)
    (other : k ≠ n) : (s.endLink r k).awaitsEnd n m e := by
  have ends := (s.endLink_endsOnly failed k).1
  refine ⟨(s.endLink_slots_ne failed other.symm).trans h.slot, h.outstanding, h.origin, ?_, h.live,
    fun j x slot => h.alone j x (ends.slot_of_some slot), ?_⟩
  · have entries := State.endLinks_entriesOf failed [k] s (t := e.tag) fun j mem x slot host => by
      obtain rfl := List.mem_singleton.1 mem
      exact other (h.alone j x slot host)
    rw [← h.found, State.entryOf_eq_head, State.entryOf_eq_head]
    exact congrArg List.head? entries
  · rcases h.serves with op | op | op | ⟨op, host, serves⟩
    · exact .inl op
    · exact .inr (.inl op)
    · exact .inr (.inr (.inl op))
    · have closingStatus : (s.endLink r k).closingStatus m.unit = s.closingStatus m.unit := by
        obtain ⟨_, _, _, same⟩ := s.endLink_host r k (host k)
        rw [same]
        rfl
      exact .inr (.inr (.inr ⟨op, fun j x slot => host j x (ends.slot_of_some slot),
        closingStatus.trans serves⟩))

theorem State.awaitsEnd.endLink_self {s : State} {n : Fin 4} {m : MediaSlot} {e : QueueEntry} (h : s.awaitsEnd n m e) :
    (s.endLink r n).endedWith e.tag r.verdict := by
  rw [State.endLink_of_slot h.slot h.outstanding, State.handResult, h.origin]
  refine State.hostResult_endedWith (s := s.setSlot n none) h.found h.live failed ?_
  rcases h.serves with op | op | op | ⟨op, _, serves⟩
  · exact .inl op
  · exact .inr (.inl op)
  · exact .inr (.inr (.inl op))
  · exact .inr (.inr (.inr ⟨op, serves⟩))

/-- Once its one operation has ended, no slot holds work of the command. -/
theorem State.awaitsEnd.none_left {s : State} {n : Fin 4} {m : MediaSlot} {e : QueueEntry} (h : s.awaitsEnd n m e) :
    ∀ k x, (s.endLink r n).slots[(k : Fin 4)] = some x → x.origin ≠ .host e.tag := by
  intro k x slot host
  obtain ⟨ends, idle⟩ := s.endLink_endsOnly failed n
  have before := ends.slot_of_some slot
  obtain rfl := h.alone k x before host
  obtain rfl := Option.some.inj (before.symm.trans h.slot)
  cases idle.symm.trans ((State.linkSlot_eq_some_iff _ k x).2 ⟨slot, h.outstanding⟩)

/-- Among the ends of operations, the end of a command's one operation ends the command with the result's verdict. -/
theorem State.awaitsEnd.endLinks (l : List (Fin 4)) {s : State} {n : Fin 4} {m : MediaSlot} {e : QueueEntry}
    (h : s.awaitsEnd n m e) (mem : n ∈ l) : (l.foldl (fun s n => s.endLink r n) s).endedWith e.tag r.verdict := by
  induction l generalizing s with
  | nil => cases mem
  | cons k l ih =>
    by_cases same : k = n
    · subst same
      exact State.endLinks_endedWith failed l _ (h.endLink_self failed) (h.none_left failed)
    · exact ih (h.endLink_other failed same) ((List.mem_cons.1 mem).resolve_left (Ne.symm same))

/-! ## What reaches the engine -/

omit failed in
theorem State.haltedWith.endLink {s : State} {x} (halted : s.haltedWith x) (n : Fin 4) :
    (s.endLink r n).haltedWith x := by
  obtain ⟨list, state, stage, rerun⟩ := halted
  by_cases host : ∀ m, s.slots[n] = some m → m.origin ≠ .erase
  · obtain ⟨_, _, _, same⟩ := s.endLink_host r n host
    rw [same]
    exact ⟨list, state, stage, rerun⟩
  · rcases s.endLink_cases r n with ⟨_, same⟩ | ⟨m, slot, _, ends⟩
    · rw [same]
      exact ⟨list, state, stage, rerun⟩
    · have erase : m.origin = .erase := by
        by_contra other
        exact host fun x held => Option.some.inj (slot.symm.trans held) ▸ other
      have freed : (s.setSlot n none).haltedWith x := ⟨list, state, stage, rerun⟩
      rw [ends, State.handResult, erase]
      dsimp only
      rw [State.eraseResult_idle freed]
      exact freed

omit failed in
theorem State.haltedWith.endLinks (l : List (Fin 4)) {s : State} {list} (halted : s.haltedWith list) :
    (l.foldl (fun s n => s.endLink r n) s).haltedWith list := by
  induction l generalizing s with
  | nil => exact halted
  | cons n l ih => exact ih (halted.endLink n)

/-- Where a segment of the descriptor in progress is among the operations that end, the descriptor halts MEDIA_ERROR, and
later results leave the engine (R56, R171). -/
theorem State.endLinks_halts (l : List (Fin 4)) {s : State} {n : Fin 4} {m : MediaSlot} {d : Descriptor} (mem : n ∈ l)
    (slot : s.slots[n] = some m) (out : m.stage = .outstanding) (origin : m.origin = .erase)
    (rerun : s.erase.rerun = none) (working : s.erase.stage = .working) (current : s.currentDescriptor = some d)
    (phase : d.phase ≠ none) :
    (l.foldl (fun s n => s.endLink r n) s).haltedWith
      (s.erase.list.set s.erase.current (some { d with done := true, outcome := some .mediaError })) := by
  induction l generalizing s with
  | nil => cases mem
  | cons k l ih =>
    by_cases host : ∀ m, s.slots[k] = some m → m.origin ≠ .erase
    · have other : k ≠ n := by rintro rfl; exact host m slot origin
      have slots := s.endLink_slots_ne failed other.symm
      obtain ⟨_, _, _, same⟩ := s.endLink_host r k host
      rw [same] at slots
      rw [List.foldl_cons, same]
      exact ih ((List.mem_cons.1 mem).resolve_left other.symm) (slots.trans slot) rerun working current
    · rcases s.endLink_cases r k with ⟨idle, same⟩ | ⟨x, held, _, ends⟩
      · have other : k ≠ n := by
          rintro rfl
          cases idle.symm.trans ((s.linkSlot_eq_some_iff k m).2 ⟨slot, out⟩)
        rw [List.foldl_cons, same]
        exact ih ((List.mem_cons.1 mem).resolve_left other.symm) slot rerun working current
      · have erase : x.origin = .erase := by
          by_contra other
          exact host fun y h => Option.some.inj (held.symm.trans h) ▸ other
        refine State.haltedWith.endLinks l ?_
        show (s.endLink r k).haltedWith _
        rw [ends, State.handResult, erase]
        exact State.eraseResult_halts (s := s.setSlot k none) rerun working current phase x.sectors failed

end Ends

end Sys2Proof.Machine
end

section
/-! The Media Link's events and the Rail Controller's: timeouts, resets, the capacity read, and the loss of power-good
(R20, R51 to R54, R59 to R62, R204). -/

namespace Sys2Proof.Machine

/-! ## The end of the capacity read -/

/-- The end of the capacity read in step 2 of start-up, with the units that the capacity check leaves unusable (R20, R54,
R204). -/
theorem State.endCapacityRead_step2 {s : State} (step2 : s.power.startUp = .step2) (m : Option Nat)
    (unusable : UnitNo → Bool)
    (check : ∀ u, checkedUnit m (s.unitDef u) (s.unitRun u) = { s.unitRun u with unusable := unusable u }) :
    s.endCapacityRead m = { s with
      link := { s.link with
        state := if m.isSome then .ready else .absent, capacity := m, capacityRead := .idle },
      units := Vector.ofFn fun u => { s.unitRun u with unusable := unusable u },
      attempt := { s.attempt with failed := s.store.image.attempt.failed },
      tamper := {
        channels := s.tamper.channels.set 3 { s.channel 3 with
          alarm := s.store.image.latch.latched,
          level := if s.store.image.latch.latched then .outOfRange else .inRange },
        zeroizeOwed := s.store.image.latch.zeroizeOwed, sampling := true },
      power := { s.power with startUp := .step4Reruns } } := by
  rw [State.endCapacityRead, if_pos step2, State.capacityCheck]
  simp only [← check]
  rfl

/-- Without M no unit is unusable (R20). -/
theorem checkedUnit_none (d : Option UnitDef) (r : UnitRun) : checkedUnit none d r = { r with unusable := false } := by
  cases d <;> rfl

theorem State.endCapacityRead_frame (s : State) (m : Option Nat) :
    (s.endCapacityRead m).link = { s.link with
        state := if m.isSome then .ready else .absent, capacity := m, capacityRead := .idle } ∧
      (s.endCapacityRead m).rail = s.rail ∧ (s.endCapacityRead m).events = s.events ∧
      (s.endCapacityRead m).slots = s.slots ∧ (s.endCapacityRead m).queue = s.queue ∧
      (s.endCapacityRead m).erase = s.erase := by
  have only : ∃ units attempt tamper power, s.endCapacityRead m = { s with
      link := { s.link with
        state := if m.isSome then .ready else .absent, capacity := m, capacityRead := .idle },
      units := units, attempt := attempt, tamper := tamper, power := power } := by
    by_cases step2 : s.power.startUp = .step2
    · rw [State.endCapacityRead, if_pos step2]
      exact ⟨_, _, _, _, rfl⟩
    · rw [State.endCapacityRead, if_neg step2]
      exact ⟨_, _, _, _, rfl⟩
  obtain ⟨_, _, _, _, only⟩ := only
  rw [only]
  exact ⟨rfl, rfl, rfl, rfl, rfl, rfl⟩

/-! ## The events of the link -/

section Link

variable {s : State} (powered : s.power.vbus = true)
include powered

theorem exec_mediaTimeoutExpiry {n : Fin 4} {m : MediaSlot} (held : s.linkSlot n = some m) :
    exec (.mediaTimeoutExpiry n) s = .next
      ((((s.endSlot n .timeout).endOutstanding .reset).startReset).place (.linkReset m.unit m.op)).finish := by
  show execMediaTimeoutExpiry n s = _
  rw [execMediaTimeoutExpiry, State.act_powered _ powered, held]

theorem exec_resetDoneReport : exec .resetDoneReport s =
    .next (if s.link.state = .resetting then s.endReset.finish else s) := by
  show execResetDoneReport s = _
  rw [execResetDoneReport, State.act_powered _ powered]

theorem exec_resetTimerExpiry : exec .resetTimerExpiry s =
    .next (if s.link.state = .resetting && s.link.resetTimer.isSome then s.endReset.finish else s) := by
  show execResetTimerExpiry s = _
  rw [execResetTimerExpiry, State.act_powered _ powered]

theorem exec_capacityReport (answer : CapacityAnswer) (due : s.link.capacityRead = .outstanding) :
    exec (.capacityReport answer) s = .next (s.endCapacityRead (capacityOf answer)).finish := by
  show execCapacityReport answer s = _
  rw [execCapacityReport, State.act_powered _ powered, if_pos due]

theorem exec_capacityCountdownExpiry (due : s.link.capacityRead = .outstanding) :
    exec .capacityCountdownExpiry s = .next (s.endCapacityRead none).finish := by
  show execCapacityCountdownExpiry s = _
  rw [execCapacityCountdownExpiry, State.act_powered _ powered, if_pos due]

end Link

/-- Settles O45: the timed-out operation ends first, and what ends RESET after it reaches other commands. -/
theorem linkEvents : Obligations.LinkEvents := by
  intro s powered
  refine ⟨?_, ?_, ?_, ?_⟩
  case refine_1 =>
    intro n m e slot out origin op found live alone
    have waits : s.awaitsEnd n m e := ⟨slot, out, origin, found, live, alone, by tauto⟩
    have held : s.linkSlot n = some m := (s.linkSlot_eq_some_iff n m).2 ⟨slot, out⟩
    have first : s.endSlot n .timeout = s.endLink .timeout n := by rw [State.endLink, if_pos (by rw [held]; rfl)]
    have ended : ((s.endLink .timeout n).endOutstanding .reset).endedWith e.tag ⟨.mediaError, .timeout⟩ :=
      State.endLinks_endedWith (r := .reset) nofun (List.finRange 4) _
        (waits.endLink_self (r := .timeout) nofun) (waits.none_left (r := .timeout) nofun)
    obtain ⟨one, -⟩ := s.endLink_endsOnly (r := .timeout) nofun n
    obtain ⟨rest, all⟩ := (s.endLink .timeout n).endOutstanding_endsOnly (r := .reset) nofun
    have ends := one.trans rest
    have run := exec_mediaTimeoutExpiry powered held
    rw [first] at run
    generalize (s.endLink .timeout n).endOutstanding .reset = t at run ends all ended
    refine ⟨_, _, run, State.leads_finish _, ?_, ends.rail, all, fun k idle => ends.slot_eq idle, ⟨t.events, rfl⟩, ended⟩
    rw [← ends.link]
    rfl
  case refine_2 =>
    intro resetting
    rw [exec_resetDoneReport powered, exec_resetTimerExpiry powered, if_pos resetting]
    refine ⟨rfl, fun timer => ?_⟩
    rw [if_pos (by simp [resetting, timer])]
    rfl
  case refine_3 =>
    intro ready
    rw [exec_resetDoneReport powered, exec_resetTimerExpiry powered, if_neg ready, if_neg (by simp [ready])]
    exact ⟨rfl, rfl⟩
  case refine_4 =>
    intro c answer event due step2
    have ends : exec c s = .next (s.endCapacityRead answer).finish := by
      rcases event with ⟨v, positive, rfl, rfl⟩ | ⟨rfl | rfl | rfl, rfl⟩
      · rw [exec_capacityReport powered _ due, capacityOf, if_neg positive]
      · exact exec_capacityReport powered _ due
      · exact exec_capacityReport powered _ due
      · exact exec_capacityCountdownExpiry powered due
    rw [ends]
    refine congrArg (fun t : State => Host.Outcome.next t.finish) (State.endCapacityRead_step2 step2 answer _ fun u => ?_)
    cases answer <;> cases s.unitDef u <;> simp [checkedUnit, fitsCapacity]

/-! ## The events of the rail -/

section Rail

variable {s : State} (powered : s.power.vbus = true)
include powered

theorem exec_powerGood : exec .powerGood s = .next (if s.rail.state = .ramping then
    ((s.withRail { s.rail with state := .on, retryCount := 0, rampTimer := none }).sendCapacityRequest).finish else s) := by
  show execPowerGood s = _
  rw [execPowerGood, State.act_powered _ powered]

theorem exec_rampTimerExpiry (ramping : s.rail.state = .ramping) (timer : s.rail.rampTimer.isSome = true) :
    exec .rampTimerExpiry s = .next s.failRamp.finish := by
  show execRampTimerExpiry s = _
  rw [execRampTimerExpiry, State.act_powered _ powered, if_pos (by simp [ramping, timer])]

theorem exec_retryTimerExpiry (fault : s.rail.state = .fault) (timer : s.rail.retryTimer.isSome = true) :
    exec .retryTimerExpiry s = .next (s.withRail
      (if s.need then { s.rail with state := .ramping, retryTimer := none, rampTimer := some rampTime }
        else { s.rail with state := .off, retryTimer := none })) := by
  show execRetryTimerExpiry s = _
  rw [execRetryTimerExpiry, State.act_powered _ powered, if_pos (by simp [fault, timer])]

theorem exec_switchOffTimerExpiry (on : s.rail.state = .on) (timer : s.rail.switchOffTimer.isSome = true) :
    exec .switchOffTimerExpiry s =
      .next (s.withRail { s.rail with state := .off, retryCount := 0, switchOffTimer := none }).finish := by
  show execSwitchOffTimerExpiry s = _
  rw [execSwitchOffTimerExpiry, State.act_powered _ powered, if_pos (by simp [on, timer])]

end Rail

/-- The rail in FAULT with RAIL_FAULT placed, before the outstanding operations end (R61). -/
def State.faulted (s : State) : State :=
  (s.withRail { s.rail with state := .fault, switchOffTimer := none, retryTimer := some retryTime }).place
    (.railFault true s.rail.retryCount)

theorem exec_powerGoodLoss {s : State} (powered : s.power.vbus = true) (on : s.rail.state = .on) :
    exec .powerGoodLoss s = .next ((s.faulted.endOutstanding .power).failCapacityRead).finish := by
  show execPowerGoodLoss s = _
  rw [execPowerGoodLoss, State.act_powered _ powered, if_pos on, State.faulted]

/-- A capacity read under way ends without M, and without one nothing changes (R54). -/
theorem State.failCapacityRead_frame (s : State) :
    (s.failCapacityRead).link =
        (if s.link.capacityRead = .idle then s.link
          else { s.link with state := .absent, capacity := none, capacityRead := .idle }) ∧
      s.failCapacityRead.rail = s.rail ∧ s.failCapacityRead.events = s.events ∧
      s.failCapacityRead.slots = s.slots ∧ s.failCapacityRead.queue = s.queue ∧
      s.failCapacityRead.erase = s.erase := by
  unfold State.failCapacityRead
  split
  · exact ⟨rfl, rfl, rfl, rfl, rfl, rfl⟩
  · exact s.endCapacityRead_frame none

theorem State.failCapacityRead_idle {s : State} (idle : s.link.capacityRead = .idle) : s.failCapacityRead = s := if_pos idle

/-- A read under way in step 2 of start-up ends without M, and start-up goes on with no unit unusable (R20, R54, R204). -/
theorem State.failCapacityRead_step2 {s : State} (due : s.link.capacityRead ≠ .idle) (step2 : s.power.startUp = .step2) :
    s.failCapacityRead = { s with
      link := { s.link with state := .absent, capacity := none, capacityRead := .idle },
      units := Vector.ofFn fun u => { s.unitRun u with unusable := false },
      attempt := { s.attempt with failed := s.store.image.attempt.failed },
      tamper := {
        channels := s.tamper.channels.set 3 { s.channel 3 with
          alarm := s.store.image.latch.latched,
          level := if s.store.image.latch.latched then .outOfRange else .inRange },
        zeroizeOwed := s.store.image.latch.zeroizeOwed, sampling := true },
      power := { s.power with startUp := .step4Reruns } } := by
  rw [State.failCapacityRead, if_neg due]
  exact State.endCapacityRead_step2 step2 none (fun _ => false) fun u => checkedUnit_none _ _

theorem State.failRamp_retries {s : State} (few : s.rail.retryCount < 2) : s.failRamp =
    (s.withRail { s.rail with
      state := .fault, retryCount := s.rail.retryCount + 1, rampTimer := none, retryTimer := some retryTime }).place
        (.railFault false (s.rail.retryCount + 1)) := if_pos (by omega)

theorem State.failRamp_fails {s : State} (many : 2 ≤ s.rail.retryCount) : s.failRamp =
    ((s.withRail { s.rail with
      state := .failed, retryCount := 3, rampTimer := none }).place .railFailed).failCapacityRead :=
  if_neg (by omega)

/-- With nothing outstanding no operation ends. -/
theorem State.endOutstanding_idle {s : State} (idle : ∀ k, s.linkSlot k = none) (r : MediaResult) :
    s.endOutstanding r = s := by
  rw [s.endOutstanding_eq]
  generalize List.finRange 4 = l
  induction l with
  | nil => rfl
  | cons n l ih => rw [List.foldl_cons, s.endLink_idle (idle n), ih]

/-- A unit that serves its READs stops none of them (R42 to R44). -/
theorem State.closingStatus_eq_none {s : State} {u : UnitNo}
    (serves : (s.isSecure u = true ∧ s.unitState u = .opened) ∨ (s.isClear u = true ∧ s.unitState u ≠ .erasing)) :
    s.closingStatus u = none := by
  rw [s.isSecure_iff, s.isClear_iff, State.kind] at serves
  unfold State.closingStatus
  cases defined : s.unitDef u with
  | none => rfl
  | some d =>
    rw [defined, Option.map_some, Option.some.injEq, Option.some.injEq] at serves
    rcases serves with ⟨kind, opened⟩ | ⟨kind, free⟩ <;> dsimp only <;> rw [kind] <;> dsimp only
    · rw [if_pos opened]
    · rw [if_neg free]

/-- Settles O46: the ends of outstanding operations by `endLinks`, and of the capacity read by `failCapacityRead`. -/
theorem railEvents : Obligations.RailEvents := by
  intro s powered
  refine ⟨?_, ?_, ?_, ?_, ?_, fun fault timer => exec_retryTimerExpiry powered fault timer,
    fun on timer => exec_switchOffTimerExpiry powered on timer, ?_, ?_, ?_⟩
  case refine_1 =>
    intro ramping
    rw [exec_powerGood powered, if_pos ramping, State.sendCapacityRequest]
    by_cases due : s.link.capacityRead = .awaitingRail
    · rw [if_pos due, if_pos (by exact due)]
      rfl
    · rw [if_neg due, if_neg (by exact due)]
      rfl
  case refine_2 =>
    intro other
    rw [exec_powerGood powered, if_neg other]
  case refine_3 =>
    intro ramping timer few
    rw [exec_rampTimerExpiry powered ramping timer, State.failRamp_retries few]
    rfl
  case refine_4 =>
    intro ramping timer many idle
    rw [exec_rampTimerExpiry powered ramping timer, State.failRamp_fails many, State.failCapacityRead_idle (by exact idle)]
    rfl
  case refine_5 =>
    intro ramping timer many due step2
    rw [exec_rampTimerExpiry powered ramping timer, State.failRamp_fails many,
      State.failCapacityRead_step2 (by exact due) (by exact step2)]
    rfl
  case refine_6 =>
    intro on
    obtain ⟨ends, all⟩ := s.faulted.endOutstanding_endsOnly (r := .power) nofun
    obtain ⟨link, rail, events, slots, queue, erase⟩ := (s.faulted.endOutstanding .power).failCapacityRead_frame
    have linkSlot (k : Fin 4) : ((s.faulted.endOutstanding .power).failCapacityRead).linkSlot k = none := by
      rw [State.linkSlot, slots]
      exact all k
    rw [ends.link] at link
    refine ⟨_, _, exec_powerGoodLoss powered on, State.leads_finish _, rail.trans ends.rail, ?_, linkSlot, ?_, ?_, ?_, ?_, ?_,
      ?_⟩
    · rw [events]
      exact ends.events
    · intro k idle
      rw [slots]
      exact ends.slot_eq (s := s.faulted) idle
    · intro n m e slot out origin found live alone op
      rw [queue]
      refine State.awaitsEnd.endLinks (s := s.faulted) (r := .power) nofun _
        ⟨slot, out, origin, found, live, alone, ?_⟩ (List.mem_finRange n)
      rcases op with op | op | op | ⟨op, host, serves⟩
      · exact .inl op
      · exact .inr (.inl op)
      · exact .inr (.inr (.inl op))
      · exact .inr (.inr (.inr ⟨op, host, State.closingStatus_eq_none (s := s.faulted) serves⟩))
    · intro n m d slot out origin rerun working current phase
      have halted := State.endLinks_halts (s := s.faulted) (r := .power) nofun (List.finRange 4) (List.mem_finRange n)
        slot out origin rerun working current phase
      rw [erase]
      exact ⟨halted.list, halted.state, halted.stage⟩
    · rw [link]
      split
      · assumption
      · rfl
    · intro idle
      rw [link, if_pos (by exact idle)]
      rfl
    · intro due
      rw [link, if_neg (by exact due)]
      rfl
  case refine_7 =>
    intro on idle none_
    rw [exec_powerGoodLoss powered on, State.endOutstanding_idle (by exact idle),
      State.failCapacityRead_idle (by exact none_)]
    rfl
  case refine_8 =>
    intro on idle due step2
    rw [exec_powerGoodLoss powered on, State.endOutstanding_idle (by exact idle),
      State.failCapacityRead_step2 (by exact due) (by exact step2)]
    rfl

end Sys2Proof.Machine
end

section
/-! What a step can do to the Command Queue and the Event Queue, as a chain of single acts (`State.Acts`): one constructor
for each way a block changes either queue, one lemma for each operation of the model, and `step_acts` for a whole step. An
act on neither queue leaves the blocks that only commands change, unless the chain is that of a command. -/

namespace Sys2Proof.Machine

/-! ## The acts -/

/-- An entry has its verdict exactly while it is ENDING (R25). -/
def QueueEntry.fits (e : QueueEntry) : Prop := e.verdict.isSome = decide (e.state = .ending)

/-- What commands change and the part's own events do not: the queue of commands, the supply, the scanner, the link, the
array and the running write, and what the port has sent or been told. -/
structure Outer where
  pending : List Instr
  vbus : Bool
  scanner : Scanner
  link : Link
  array : Records
  running : Option WriteRequest
  standby : Bool
  remoteWake : Bool
  pressSeen : Bool
  resumeSignalled : Bool
  attentionReport : Option Nat
  bulkIn : Option BulkIn

def State.outer (s : State) : Outer :=
  { pending := s.pending, vbus := s.power.vbus, scanner := s.scanner, link := s.link, array := s.store.array,
    running := s.store.running, standby := s.port.standby, remoteWake := s.port.remoteWake,
    pressSeen := s.port.pressSeen, resumeSignalled := s.port.resumeSignalled,
    attentionReport := s.port.attentionReport, bulkIn := s.port.bulkIn }

/-- `s` is `r` after some acts, among them acts on the outer blocks only where `o` allows them. -/
inductive State.Acts (r : State) (o : Prop) : State → Prop
  | refl : State.Acts r o r
  | other {s t : State} (h : State.Acts r o s) (queue : t.queue = s.queue) (events : t.events = s.events)
      (outer : t.outer = s.outer ∨ o) : State.Acts r o t
  | place {s : State} (h : State.Acts r o s) (e : Event) : State.Acts r o (s.place e)
  | read {s : State} (h : State.Acts r o s) {q : EventQueue} (fewer : q.entries.length ≤ s.events.entries.length) :
      State.Acts r o (s.withEvents q)
  | join {s : State} (h : State.Acts r o s) {e : QueueEntry} (free : s.entryOf e.tag = none) (fits : e.fits) :
      State.Acts r o (s.withQueue (s.queue ++ [e]))
  | change {s : State} (h : State.Acts r o s) {f : QueueEntry → QueueEntry} (tag : ∀ e, (f e).tag = e.tag)
      (fits : (s.queue.map QueueEntry.tag).Nodup → ∀ e ∈ s.queue, e.fits → (f e).fits) :
      State.Acts r o (s.withQueue (s.queue.map f))
  | leave {s : State} (h : State.Acts r o s) {q : List QueueEntry} (fewer : q.Sublist s.queue) :
      State.Acts r o (s.withQueue q)

namespace State.Acts

variable {o : Prop} {r s : State}

/-! ## Branches and folds -/

/-- Both branches of a choice are acts. -/
theorem ite {c : Prop} [Decidable c] {x y : State} (a : r.Acts o x) (b : r.Acts o y) : r.Acts o (if c then x else y) := by
  split <;> assumption

theorem foldl {α : Type} {f : State → α → State} (step : ∀ {s : State} (x : α), r.Acts o s → r.Acts o (f s x))
    (l : List α) (h : r.Acts o s) : r.Acts o (l.foldl f s) := by
  induction l generalizing s with
  | nil => exact h
  | cons x xs ih => exact ih (step x h)

/-! ## Updates of the other blocks -/

/-- Neither queue and no outer block changes. -/
theorem quiet {t : State} (h : r.Acts o s) (queue : t.queue = s.queue) (events : t.events = s.events)
    (outer : t.outer = s.outer) : r.Acts o t := h.other queue events (.inl outer)

theorem withSlots (h : r.Acts o s) (x : Vector (Option MediaSlot) 4) : r.Acts o (s.withSlots x) := h.quiet rfl rfl rfl
theorem withRail (h : r.Acts o s) (x : Rail) : r.Acts o (s.withRail x) := h.quiet rfl rfl rfl
theorem withUnits (h : r.Acts o s) (x : Vector UnitRun 8) : r.Acts o (s.withUnits x) := h.quiet rfl rfl rfl
theorem withControl (h : r.Acts o s) (x : UnitControl) : r.Acts o (s.withControl x) := h.quiet rfl rfl rfl
theorem withCipher (h : r.Acts o s) (x : Cipher) : r.Acts o (s.withCipher x) := h.quiet rfl rfl rfl
theorem withEnrolling (h : r.Acts o s) (x : Option Enrolling) : r.Acts o (s.withEnrolling x) := h.quiet rfl rfl rfl
theorem withAttempt (h : r.Acts o s) (x : AttemptControl) : r.Acts o (s.withAttempt x) := h.quiet rfl rfl rfl
theorem withEntry (h : r.Acts o s) (x : Entry) : r.Acts o (s.withEntry x) := h.quiet rfl rfl rfl
theorem withLeds (h : r.Acts o s) (x : Indicators) : r.Acts o (s.withLeds x) := h.quiet rfl rfl rfl
theorem withErase (h : r.Acts o s) (x : EraseEngine) : r.Acts o (s.withErase x) := h.quiet rfl rfl rfl
theorem withTamper (h : r.Acts o s) (x : Tamper) : r.Acts o (s.withTamper x) := h.quiet rfl rfl rfl
theorem withHandler (h : r.Acts o s) (x : Option Tag) : r.Acts o (s.withHandler x) := h.quiet rfl rfl rfl
theorem withImage (h : r.Acts o s) (x : Records) : r.Acts o (s.withImage x) := h.quiet rfl rfl rfl
theorem requestWrite (h : r.Acts o s) (id : RecordId) (ws : List Waiter) : r.Acts o (s.requestWrite id ws) :=
  h.quiet rfl rfl rfl
theorem drawn (h : r.Acts o s) : r.Acts o s.drawn := h.quiet rfl rfl rfl
theorem aged (h : r.Acts o s) : r.Acts o s.aged := h.quiet rfl rfl rfl
theorem startUp (h : r.Acts o s) (x : StartUp) : r.Acts o (s.withPower { s.power with startUp := x }) := h.quiet rfl rfl rfl

/-- The pipe, the held status, the waiting transfers and the read buffers of the port. -/
theorem pipe (h : r.Acts o s) (x : BulkOut) (y : Option StatusRecord) (z : List Instr)
    (w : Vector (Option ReadBuffer) 4) :
    r.Acts o (s.withPort { s.port with bulkOut := x, refused := y, waiting := z, readBuffers := w }) := h.quiet rfl rfl rfl

theorem setUnit (h : r.Acts o s) (u : UnitNo) (x : UnitRun) : r.Acts o (s.setUnit u x) := h.withUnits _
theorem setMarker (h : r.Acts o s) (u : UnitNo) (w : Option EraseWork) : r.Acts o (s.setMarker u w) := h.withImage _
theorem setCred (h : r.Acts o s) (k : SlotNo) (c : CredRecord) : r.Acts o (s.setCred k c) := h.withImage _
theorem setAttemptRecord (h : r.Acts o s) (a : AttemptRecord) : r.Acts o (s.setAttemptRecord a) := h.withImage _
theorem setLatchRecord (h : r.Acts o s) (l : LatchRecord) : r.Acts o (s.setLatchRecord l) := h.withImage _
theorem setSlot (h : r.Acts o s) (n : Fin 4) (m : Option MediaSlot) : r.Acts o (s.setSlot n m) := h.withSlots _
theorem setBuffer (h : r.Acts o s) (n : Fin 4) (b : Option ReadBuffer) : r.Acts o (s.setBuffer n b) := h.pipe _ _ _ _
theorem setChannel (h : r.Acts o s) (c : Fin 4) (k : Channel) : r.Acts o (s.setChannel c k) := h.withTamper _
theorem refreshLeds (h : r.Acts o s) : r.Acts o s.refreshLeds := h.withLeds _
theorem showFail (h : r.Acts o s) : r.Acts o s.showFail := h.withLeds _
theorem showOk (h : r.Acts o s) : r.Acts o s.showOk := h.withLeds _
theorem followNeed (h : r.Acts o s) : r.Acts o s.followNeed := h.withRail _

theorem freeBufferOf (h : r.Acts o s) (m : MediaSlot) : r.Acts o (s.freeBufferOf m) := by
  unfold State.freeBufferOf
  split
  · exact h.setBuffer _ _
  · exact h

/-! ## The command path -/

theorem enqueue (h : r.Acts o s) {e : QueueEntry} (free : s.entryOf e.tag = none) (fits : e.fits) :
    r.Acts o (s.enqueue e) := (h.join free fits).aged

theorem dropEntry (h : r.Acts o s) (t : Tag) : r.Acts o (s.dropEntry t) := h.leave List.filter_sublist

/-- The entry of a tag changes, in a way that keeps any entry's tag and fit. -/
theorem updateEntry (h : r.Acts o s) (t : Tag) {f : QueueEntry → QueueEntry} (tag : ∀ e, (f e).tag = e.tag)
    (fits : ∀ e, e.fits → (f e).fits) : r.Acts o (s.updateEntry t f) :=
  h.change (fun e => by split <;> simp [tag]) fun _ e _ fit => by
    split
    · exact fits e fit
    · exact fit

/-- An entry of the queue changes, which alone has its tag. -/
theorem serve (h : r.Acts o s) {e : QueueEntry} (mem : e ∈ s.queue) {f : QueueEntry → QueueEntry}
    (tag : ∀ e, (f e).tag = e.tag) (fits : e.fits → (f e).fits) : r.Acts o (s.updateEntry e.tag f) :=
  h.change (fun e => by split <;> simp [tag]) fun distinct x hx fit => by
    split
    · rename_i same
      obtain rfl := List.inj_on_of_nodup_map distinct hx mem same
      exact fits fit
    · exact fit

/-- An entry that is not ENDING becomes ACTIVE. -/
theorem activate (h : r.Acts o s) {e : QueueEntry} (mem : e ∈ s.queue) (live : e.state ≠ .ending)
    {f : QueueEntry → QueueEntry} (tag : ∀ e, (f e).tag = e.tag) (active : ∀ e, (f e).state = .active)
    (verdict : ∀ e, (f e).verdict = e.verdict) : r.Acts o (s.updateEntry e.tag f) :=
  h.serve mem tag fun fit => by
    simp only [QueueEntry.fits, live, decide_false] at fit
    simp [QueueEntry.fits, active, verdict, fit]

theorem releaseStage (h : r.Acts o s) : r.Acts o s.releaseStage := by
  unfold State.releaseStage
  split
  · split
    · exact .ite (h.pipe _ _ _ _) h
    · exact h
  all_goals exact h

theorem endEntry (h : r.Acts o s) (t : Tag) (v : Verdict) : r.Acts o (s.endEntry t v) :=
  (h.updateEntry t (f := fun e => { e with state := .ending, verdict := some v }) (fun _ => rfl) fun _ _ => rfl).releaseStage

theorem countSectors (h : r.Acts o s) (t : Tag) (n : Nat) :
    r.Acts o (s.updateEntry t fun e => { e with sectorsDone := e.sectorsDone + n }) :=
  h.updateEntry t (fun _ => rfl) fun _ fit => fit

/-- A close leaves an entry fitting: one that ends has its verdict, and one that has ended keeps one (R42, R44). -/
theorem fits_closedEntry (s : State) (st : Status) {e : QueueEntry} (fit : e.fits) : (s.closedEntry st e).fits := by
  unfold State.closedEntry
  split
  · rfl
  · split
    · rename_i ended
      simp only [Bool.and_eq_true, decide_eq_true_eq] at ended
      simp [QueueEntry.fits, ended.1.1]
    · exact fit

theorem endCommands (h : r.Acts o s) (u : UnitNo) (st : Status) : r.Acts o (s.endCommands u st) := by
  have ended : r.Acts o (s.withQueue (s.queue.map
      fun e => if e.names u && e.op.usesMedia then s.closedEntry st e else e)) :=
    h.change (fun e => by split <;> simp [State.closedEntry_frame]) fun _ e _ fit => by
      split
      · exact fits_closedEntry s st fit
      · exact fit
  exact (ended.pipe _ _ _ _).releaseStage

theorem fillBuffer (h : r.Acts o s) (m : MediaSlot) (t : Tag) (data : List Sector) : r.Acts o (s.fillBuffer m t data) := by
  unfold State.fillBuffer
  split
  · exact h.setBuffer _ _
  · exact h

theorem readResult (h : r.Acts o s) (m : MediaSlot) (e : QueueEntry) (x : MediaResult) :
    r.Acts o (s.readResult m e x) := by
  unfold State.readResult
  split
  · exact (h.freeBufferOf m).endEntry _ _
  · exact .ite ((h.fillBuffer _ _ _).endEntry _ _) (h.fillBuffer _ _ _)
  · exact (h.freeBufferOf m).endEntry _ _

theorem writeResult (h : r.Acts o s) (m : MediaSlot) (e : QueueEntry) (x : MediaResult) :
    r.Acts o (s.writeResult m e x) := by
  unfold State.writeResult
  split
  · have counted := h.countSectors e.tag m.sectors
    dsimp only
    split
    · exact counted.endEntry _ _
    · exact .ite (counted.endEntry _ _) counted
  · exact h.endEntry _ _

theorem hostResult (h : r.Acts o s) (m : MediaSlot) (t : Tag) (x : MediaResult) : r.Acts o (s.hostResult m t x) := by
  unfold State.hostResult
  split
  · exact h
  · refine .ite (h.dropEntry t) ?_
    cases m.op with
    | read => exact h.readResult _ _ _
    | write | trim | patternWrite => exact h.writeResult _ _ _
    | flush => exact h.endEntry _ _

/-- Work is found among the entries of the queue, and none of it has ended. -/
theorem findWork_spec {ok : QueueEntry → Bool} {e : QueueEntry} {q : List QueueEntry} :
    ∀ {earlier : List QueueEntry}, s.findWork ok earlier q = some e → e ∈ q ∧ e.state ≠ .ending := by
  induction q with
  | nil => exact nofun
  | cons x xs ih =>
    intro earlier found
    unfold State.findWork at found
    split at found
    · rename_i work
      cases found
      refine ⟨List.mem_cons_self, fun ended => ?_⟩
      simp [readyAfter, State.isDue, ended] at work
    · exact ⟨List.mem_cons_of_mem _ (ih found).1, (ih found).2⟩

theorem issueHost (h : r.Acts o s) (n : Fin 4) {e : QueueEntry} (mem : e ∈ s.queue) (live : e.state ≠ .ending) :
    r.Acts o (s.issueHost n e) := by
  have issued := (h.setSlot n (some (e.issued s.freeBuffer))).activate mem live
    (f := fun e => { e with state := .active, segmentsIssued := e.segmentsIssued + 1 })
    (fun _ => rfl) (fun _ => rfl) fun _ => rfl
  unfold State.issueHost
  split
  · exact issued.setBuffer _ _
  · exact issued

theorem restartIdle (h : r.Acts o s) (u : UnitNo) : r.Acts o (s.restartIdle u) := by
  unfold State.restartIdle
  split
  · exact .ite (h.setUnit _ _) h
  · exact h

theorem admittedRestart (h : r.Acts o s) (head : RecordHead) (verdict : Option Status) :
    r.Acts o (s.admittedRestart head verdict) := by
  unfold State.admittedRestart
  split
  · exact .ite (h.restartIdle _) h
  · exact h

theorem refuse (h : r.Acts o s) (head : RecordHead) (st : Status) (residue : Nat) (stage : Bool) :
    r.Acts o (s.refuse head st residue stage) := h.pipe _ _ _ _

theorem takeRecord (h : r.Acts o s) (op : Op) (head : RecordHead) (residue : Nat) (stage : Bool) {accept : Tag → State}
    (taken : ∀ t, s.entryOf t = none → r.Acts o (accept t)) : r.Acts o (s.takeRecord op head residue stage accept) := by
  unfold State.takeRecord
  split
  · exact h.refuse _ _ _ _
  · rename_i t _
    cases free : s.entryOf t with
    | none => exact .ite (h.refuse _ _ _ _) (.ite (h.refuse _ _ _ _) (taken t free))
    | some e => exact h.refuse _ _ _ _

theorem admitData (h : r.Acts o s) (op : Op) (head : RecordHead) {t : Tag} (free : s.entryOf t = none) :
    r.Acts o (s.admitData op head t) := by
  unfold State.admitData
  dsimp only
  split
  · exact (h.enqueue (e := { s.newEntry t op head none with mediaStart := s.mediaStartOf head }) free rfl).admittedRestart _ _
  · exact (h.enqueue (e := { s.newEntry t op head none with state := .ending, verdict := some _ }) free rfl).admittedRestart _ _

theorem holdStage (h : r.Acts o s) (head : RecordHead) (t : Tag) : r.Acts o (s.holdStage head t) := by
  unfold State.holdStage
  refine .ite h ?_
  split
  · exact h.pipe _ _ _ _
  · exact h

theorem acceptSync (h : r.Acts o s) (head : RecordHead) : r.Acts o (s.acceptSync head) := by
  refine h.takeRecord _ _ _ _ fun t free => ?_
  dsimp only
  split
  · exact (h.enqueue (e := s.newEntry t .sync head none) free rfl).admittedRestart _ _
  · exact h.enqueue (e := { s.newEntry t .sync head none with state := .ending, verdict := some _ }) free rfl

theorem acceptUnitInfo (h : r.Acts o s) (head : RecordHead) : r.Acts o (s.acceptUnitInfo head) := by
  refine h.takeRecord _ _ _ _ fun t free => ?_
  have ended (v : Verdict) (x : Option (List Byte)) : r.Acts o (s.enqueue
      { s.newEntry t .unitInfo head none with state := .ending, verdict := some v, returned := x }) := h.enqueue free rfl
  refine .ite (ended _ none) ?_
  split
  · exact ended _ none
  · exact ended _ _

theorem acceptManagement (h : r.Acts o s) (op : Op) (head : RecordHead) (b : List Byte) :
    r.Acts o (s.acceptManagement op head b) :=
  h.takeRecord _ _ _ _ fun t free => h.enqueue (e := s.newEntry t op head (some b)) free rfl

theorem takeTransfer (h : r.Acts o s) (i : Instr) : r.Acts o (s.takeTransfer i) := by
  unfold State.takeTransfer
  split
  case h_1 => exact h.takeRecord _ _ _ _ fun _ free => h.admitData _ _ free
  case h_2 => exact h.takeRecord _ _ _ _ fun _ free => (h.admitData _ _ free).holdStage _ _
  case h_3 => exact h.takeRecord _ _ _ _ fun _ free => h.admitData _ _ free
  case h_4 => exact h.acceptSync _
  case h_5 => exact h.acceptUnitInfo _
  case h_20 => exact h.takeRecord _ _ _ _ fun _ _ => h.refuse _ _ _ _
  case h_21 => exact h
  all_goals exact h.acceptManagement _ _ _

/-! ## Erase work -/

theorem releaseUnit (h : r.Acts o s) (u : UnitNo) : r.Acts o (s.releaseUnit u) :=
  have unlocked : r.Acts o (s.unlockErasing u) := h.setUnit _ _
  .ite (State.Acts.ite ((unlocked.setMarker u none).requestWrite _ _) unlocked).refreshLeds h

theorem moveTarget (h : r.Acts o s) (u : UnitNo) (a b : TargetStage) : r.Acts o (s.moveTarget u a b) := by
  rw [State.moveTarget_frame]
  exact h.withErase _

theorem markTarget (h : r.Acts o s) (u : UnitNo) (a : TargetStage) : r.Acts o (s.markTarget u a) :=
  ((h.moveTarget _ _ _).setMarker _ _).requestWrite _ _

theorem giveUp (h : r.Acts o s) (u : UnitNo) : r.Acts o (s.giveUp u) :=
  .ite (h.markTarget _ _) (.ite (h.markTarget _ _) (h.releaseUnit u))

theorem setCurrent (h : r.Acts o s) (f : Descriptor → Descriptor) : r.Acts o (s.setCurrent f) := h.withErase _

theorem enterHalted (h : r.Acts o s) (held : Option UnitNo) (x : Outcome) : r.Acts o (s.enterHalted held x) := by
  cases held with
  | none => exact (h.withErase _).place _
  | some u => exact ((h.giveUp u).withErase _).place _

theorem haltDescriptor (h : r.Acts o s) (x : Outcome) : r.Acts o (s.haltDescriptor x) :=
  (State.Acts.ite h (h.setCurrent _)).enterHalted _ _

theorem countGood (h : r.Acts o s) : r.Acts o s.countGood := .ite ((h.withErase _).place _) (h.withErase _)

theorem enterIdle (h : r.Acts o s) : r.Acts o s.enterIdle := h.withErase _

theorem enterWaiting (h : r.Acts o s) : r.Acts o s.enterWaiting := (h.withErase _).followNeed

theorem advance (h : r.Acts o s) : r.Acts o s.advance := .ite (h.withErase _).enterIdle ((h.withErase _).withErase _)

theorem endGood (h : r.Acts o s) (u : UnitNo) : r.Acts o (s.endGood u) :=
  have counted := (h.setCurrent fun d => { d with done := true, outcome := some .good }).countGood
  .ite (.ite (counted.withErase _).advance (counted.releaseUnit u).advance) (counted.enterHalted _ _)

theorem stopNow (h : r.Acts o s) : r.Acts o s.stopNow := by
  unfold State.stopNow
  split
  · exact h
  · split
    · exact h.haltDescriptor _
    · exact .ite (h.haltDescriptor _) h
    all_goals exact h

theorem requestKey (h : r.Acts o s) (u : UnitNo) (p : KeyPath) : r.Acts o (s.requestKey u p) := h.withCipher _

theorem descriptorDrained (h : r.Acts o s) (d : Descriptor) : r.Acts o (s.descriptorDrained d) := by
  unfold State.descriptorDrained
  split
  · exact h.haltDescriptor _
  · exact ((h.withErase _).setMarker _ _).requestWrite _ _

theorem enterWorking (h : r.Acts o s) (d : Descriptor) : r.Acts o (s.enterWorking d) :=
  .ite ((h.withErase _).aged.requestKey _ _) ((h.withErase _).aged.withErase _)

theorem markerWritten (h : r.Acts o s) : r.Acts o s.markerWritten := by
  unfold State.markerWritten
  split
  · refine .ite ?_ h
    split
    · exact h.haltDescriptor _
    · exact h.enterWorking _
  · exact h

theorem issueErase (h : r.Acts o s) (n : Fin 4) (j : EraseJob) : r.Acts o (s.issueErase n j) :=
  (h.setSlot _ _).withErase _

theorem descriptorStep (h : r.Acts o s) (j : EraseJob) (sectors : Nat) (data : List Sector) :
    r.Acts o (s.descriptorStep j sectors data) := by
  unfold State.descriptorStep
  split
  · exact h.haltDescriptor _
  · dsimp only
    split
    · exact (h.setCurrent _).haltDescriptor _
    · exact (h.setCurrent _).withErase _
    · exact (h.setCurrent _).endGood _

theorem setRerun (h : r.Acts o s) (f : Rerun → Rerun) : r.Acts o (s.setRerun f) := h.withErase _

theorem rerunClear (h : r.Acts o s) (u : UnitNo) : r.Acts o (s.rerunClear u) :=
  ((h.setRerun _).setMarker _ _).requestWrite _ _

theorem rerunReplace (h : r.Acts o s) (u : UnitNo) : r.Acts o (s.rerunReplace u) := (h.setRerun _).requestKey _ _

theorem rerunFallback (h : r.Acts o s) (u : UnitNo) (x : Outcome) : r.Acts o (s.rerunFallback u x) :=
  (State.Acts.ite (h.rerunReplace u) (h.rerunClear u)).place _

theorem startRerun (h : r.Acts o s) (u : UnitNo) (w : EraseWork) : r.Acts o (s.startRerun u w) :=
  have begun := (h.withErase { s.erase with
    state := .running, workAge := s.clock,
    rerun := some { unit := u, work := w, phase := .pass 1, sectorsDone := 0, stage := .working } }).aged
  .ite (begun.rerunReplace u) (.ite (begun.rerunFallback u _) (begun.withErase _))

theorem rerunStep (h : r.Acts o s) (j : EraseJob) (sectors : Nat) (data : List Sector) :
    r.Acts o (s.rerunStep j sectors data) := by
  unfold State.rerunStep
  split
  · exact h.rerunFallback _ _
  · exact (h.setRerun _).withErase _
  · exact h.rerunClear _

theorem rerunCleared (h : r.Acts o s) (u : UnitNo) : r.Acts o (s.rerunCleared u) :=
  ((State.Acts.ite (h.setUnit _ _) h).withErase _).refreshLeds

theorem eraseResult (h : r.Acts o s) (sectors : Nat) (x : MediaResult) : r.Acts o (s.eraseResult sectors x) := by
  unfold State.eraseResult
  split
  · exact h
  · have freed := h.withErase { s.erase with segment := .none }
    dsimp only
    split
    · exact freed.rerunStep _ _ _
    · exact freed.descriptorStep _ _ _
    · exact freed.rerunFallback _ _
    · exact freed.haltDescriptor _

theorem handResult (h : r.Acts o s) (m : MediaSlot) (x : MediaResult) : r.Acts o (s.handResult m x) := by
  unfold State.handResult
  split
  · exact h.hostResult _ _ _
  · exact h.eraseResult _ _

theorem endSlot (h : r.Acts o s) (n : Fin 4) (x : MediaResult) : r.Acts o (s.endSlot n x) := by
  unfold State.endSlot
  split
  · exact (h.setSlot _ _).handResult _ _
  · exact h

theorem endOutstanding (h : r.Acts o s) (x : MediaResult) : r.Acts o (s.endOutstanding x) :=
  foldl (fun n h => .ite (h.endSlot n x) h) _ h

/-! ## The Entry Controller -/

theorem entryGoes (h : r.Acts o s) (c : EntryCtl) : r.Acts o (s.entryGoes c) := .ite h (h.withEntry _)

theorem abandon (h : r.Acts o s) (k : SlotNo) (x : AbandonReason) : r.Acts o (s.abandon k x) :=
  ((h.withEnrolling _).withEntry _).showFail.place _

theorem abandonAny (h : r.Acts o s) (x : AbandonReason) : r.Acts o (s.abandonAny x) := by
  unfold State.abandonAny
  split
  · exact h.abandon _ _
  · exact h

theorem enterDisabled (h : r.Acts o s) : r.Acts o s.enterDisabled := by
  unfold State.enterDisabled
  split
  · exact (h.withEntry _).withEntry _
  · exact (h.abandonAny _).withEntry _
  · exact (h.abandonAny _).withEntry _
  all_goals exact h.withEntry _

theorem reevaluate (h : r.Acts o s) : r.Acts o s.reevaluate := .ite (.ite h h.enterDisabled) (.ite (h.withEntry _) h)

/-! ## Unit Control -/

theorem claimDrained (h : r.Acts o s) (u : UnitNo) : r.Acts o (s.claimDrained u) := by
  refine .ite ?_ h
  split
  · exact .ite (h.descriptorDrained _) (.ite (h.markTarget _ _) h)
  · exact .ite (h.markTarget _ _) h

theorem signalDrained (h : r.Acts o s) (u : UnitNo) : r.Acts o (s.signalDrained u) :=
  (State.Acts.ite ((h.setUnit _ _).withCipher _) h).claimDrained u

theorem drainNow (h : r.Acts o s) (u : UnitNo) : r.Acts o (s.drainNow u) := .ite (h.signalDrained u) h

theorem closeUnit (h : r.Acts o s) (c : CloseCause) (u : UnitNo) : r.Acts o (s.closeUnit c u) :=
  have started : r.Acts o (s.startClose u c) := (((h.setUnit _ _).withCipher _).withControl _).place _
  .ite ((started.endCommands _ _).drainNow u) h

theorem closeUnits (h : r.Acts o s) (c : CloseCause) (us : List UnitNo) : r.Acts o (s.closeUnits c us) :=
  foldl (fun u h => h.closeUnit c u) us h

theorem claimUnit (h : r.Acts o s) (c : CloseCause) (u : UnitNo) : r.Acts o (s.claimUnit c u) := by
  unfold State.claimUnit
  split
  · exact h
  · dsimp only
    split
    · exact (h.setUnit _ _).closeUnit _ _
    · exact h.setUnit _ _
    · exact (h.setUnit _ _).drainNow _
    · exact ((h.setUnit _ _).endCommands _ _).drainNow _
    · exact h.drainNow u

theorem openGrant (h : r.Acts o s) (k : SlotNo) (g : Grant) : r.Acts o (s.openGrant k g) := by
  unfold State.openGrant
  split
  · exact h
  · split
    · exact h
    · refine .ite h ?_
      split
      · exact .ite h ((((h.setUnit _ _).withCipher _).withControl _).place _)
      · exact ((h.setUnit _ _).withControl _).place _
      all_goals exact h.place _

theorem openRequest (h : r.Acts o s) (k : SlotNo) (gs : List Grant) : r.Acts o (s.openRequest k gs) :=
  .ite h (foldl (fun g h => h.openGrant k g) gs h)

theorem closeSession (h : r.Acts o s) : r.Acts o s.closeSession :=
  have closed := h.withControl { s.control with session := false, sessionTimer := none }
  .ite (.ite (closed.abandonAny _) closed) h

/-! ## Internal erases -/

theorem clearCredentials (h : r.Acts o s) : r.Acts o s.clearCredentials :=
  have cleared := foldl (fun k h => (h.setCred k .blank).requestWrite (.credential k) []) (List.finRange 6) h
  ((((cleared.setAttemptRecord _).requestWrite _ _).withEnrolling _).withAttempt _).reevaluate

theorem zeroizeReported (h : r.Acts o s) : r.Acts o s.zeroizeReported :=
  ((h.withTamper _).setLatchRecord _).requestWrite _ _

theorem report (h : r.Acts o s) (x : Requester) : r.Acts o (s.report x) := by
  cases x with
  | duress => exact h
  | bruteForce => exact .ite h.clearCredentials h
  | zeroize => exact h.zeroizeReported

theorem completeInternal (h : r.Acts o s) : r.Acts o s.completeInternal := by
  unfold State.completeInternal
  split
  · exact h
  · exact .ite (foldl (fun x h => h.report x) _ (h.withErase _).refreshLeds) h

theorem claimTarget (h : r.Acts o s) (u : UnitNo) : r.Acts o (s.claimTarget u) :=
  .ite (.ite ((h.moveTarget _ _ _).claimUnit _ _) (h.moveTarget _ _ _)) h

theorem requestInternal (h : r.Acts o s) (x : Requester) (us : List UnitNo) : r.Acts o (s.requestInternal x us) := by
  have added : r.Acts o (s.addTargets x (s.secureAmong us)) := by
    rw [(s.addTargets_spec x _).frame]
    exact h.withErase _
  have preempted : r.Acts o (s.addTargets x (s.secureAmong us)).refreshLeds.preempt :=
    .ite (added.refreshLeds.withErase _) added.refreshLeds
  exact (foldl (fun u h => h.claimTarget u) _ preempted.stopNow).completeInternal

theorem targetMarked (h : r.Acts o s) (u : UnitNo) : r.Acts o (s.targetMarked u) :=
  .ite ((h.moveTarget _ _ _).requestKey _ _) h

theorem targetReplaced (h : r.Acts o s) (u : UnitNo) : r.Acts o (s.targetReplaced u) :=
  have moved := h.moveTarget u .replacing .done
  .ite (.ite ((moved.moveTarget _ _ _).requestKey _ _) (moved.releaseUnit u).completeInternal) h

theorem replaceKey (h : r.Acts o s) (q : KeyRequest) : r.Acts o (s.replaceKey q) :=
  .ite (h.haltDescriptor _)
    (((((h.withImage _).drawn.withImage _).requestWrite _ _).requestWrite _ _).withCipher _)

theorem takeRequest (h : r.Acts o s) (u : UnitNo) : r.Acts o (s.takeRequest u) := by
  unfold State.takeRequest
  split
  · exact h
  · exact .ite ((h.withCipher _).replaceKey _) h

theorem replaced (h : r.Acts o s) (u : UnitNo) (p : KeyPath) : r.Acts o (s.replaced u p) := by
  unfold State.replaced
  split
  · exact h.endGood u
  · split
    · exact .ite (h.rerunClear u) (h.targetReplaced u)
    · exact h.targetReplaced u

theorem replacementWritten (h : r.Acts o s) (u : UnitNo) (p : KeyPath) : r.Acts o (s.replacementWritten u p) :=
  ((h.withCipher _).replaced u p).takeRequest u

theorem startDescriptor (h : r.Acts o s) : r.Acts o s.startDescriptor := by
  unfold State.startDescriptor
  split
  · exact h.haltDescriptor _
  · exact ((h.setCurrent _).withErase _).claimUnit _ _
  · exact h

/-! ## Attempt Control and enrollment -/

theorem startPenalty (h : r.Acts o s) : r.Acts o s.startPenalty :=
  ((((h.withAttempt _).setAttemptRecord _).requestWrite _ _).place _).entryGoes _

theorem attemptIdle (h : r.Acts o s) : r.Acts o s.attemptIdle := (h.withAttempt _).entryGoes _

theorem penaltyExpired (h : r.Acts o s) : r.Acts o s.penaltyExpired :=
  have written := (h.setAttemptRecord ⟨s.attempt.failed, 0⟩).requestWrite .attempt []
  .ite (((written.withAttempt _).entryGoes _).place _) written.attemptIdle

theorem startBrute (h : r.Acts o s) : r.Acts o s.startBrute :=
  (((h.withAttempt _).place _).closeSession.entryGoes _).requestInternal _ _

theorem failedAttempt (h : r.Acts o s) : r.Acts o s.failedAttempt :=
  have shown : r.Acts o s.showFailure := h.showFail.place _
  .ite shown.startBrute (.ite shown.attemptIdle shown.startPenalty)

theorem duressMatch (h : r.Acts o s) : r.Acts o s.duressMatch :=
  have requested := h.requestInternal .duress s.duressUnits
  .ite (requested.startBrute.place _).showFail requested.failedAttempt

theorem spendUse (h : r.Acts o s) (k : SlotNo) : r.Acts o (s.spendUse k) := by
  unfold State.spendUse
  split
  · exact h
  · exact (h.setCred _ _).requestWrite _ _

theorem goodMatch (h : r.Acts o s) (k : SlotNo) : r.Acts o (s.goodMatch k) :=
  have spent : r.Acts o (if k = 0 then s else s.spendUse k) := .ite h (h.spendUse k)
  have opened := (((spent.withAttempt _).setAttemptRecord ⟨0, 0⟩).requestWrite .attempt []).openRequest k (s.cred k).grants
  (State.Acts.ite (opened.withControl _) opened).showOk.attemptIdle

theorem verdict (h : r.Acts o s) : r.Acts o s.verdict := by
  refine .ite ?_ h
  dsimp only
  split
  · exact (h.withEntry _).failedAttempt
  · exact .ite (h.withEntry _).duressMatch ((h.withEntry _).goodMatch _)

theorem startEnrolling (h : r.Acts o s) (t : EnrollTarget) : r.Acts o (s.startEnrolling t) :=
  (h.withEnrolling _).withEntry _

theorem longPress (h : r.Acts o s) : r.Acts o s.longPress := by
  refine .ite ?_ h
  split
  · exact h.startEnrolling _
  · exact h.showFail

theorem commitWritten (h : r.Acts o s) : r.Acts o s.commitWritten := by
  unfold State.commitWritten
  split
  · have ended : r.Acts o (if s.entry.commitRemoved then s else s.withEnrolling none) := .ite h (h.withEnrolling none)
    exact (State.Acts.ite (((ended.withEntry _).showFail.place _).entryGoes _)
      (((ended.withEntry _).showOk.place _).entryGoes _)).reevaluate
  · exact h

theorem clearingWritten (h : r.Acts o s) : r.Acts o s.clearingWritten := .ite ((h.withAttempt _).attemptIdle.place _) h

/-! ## The Tamper Monitor -/

theorem alarmChanged (h : r.Acts o s) (c : Fin 4) : r.Acts o (s.alarmChanged c) := .ite h.reevaluate h

theorem raiseAlarm (h : r.Acts o s) (c : Fin 4) (v : Sample) : r.Acts o (s.raiseAlarm c v) :=
  have raised := (h.setChannel c { s.channel c with alarm := true }).place (.tamperAlarm c v)
  .ite (raised.closeUnits _ _) (raised.alarmChanged c)

theorem clearAlarm (h : r.Acts o s) (c : Fin 4) (d : ClearDetail) : r.Acts o (s.clearAlarm c d) :=
  .ite (((h.setChannel _ _).place _).alarmChanged c) h

theorem trip (h : r.Acts o s) (v : Sample) : r.Acts o (s.trip v) :=
  have closed : r.Acts o (s.closeAll .enclosure).closeSession := (h.closeUnits _ _).closeSession
  have latched :=
    ((((closed.setChannel 3 _).withTamper _).setLatchRecord _).requestWrite .latch []).place (.tamperAlarm 3 v)
  (State.Acts.ite (latched.requestInternal _ _) latched).reevaluate

theorem changeLevel (h : r.Acts o s) (c : Fin 4) (v : Sample) (l : Level) : r.Acts o (s.changeLevel c v l) := by
  have changed := h.setChannel c { s.channel c with level := l }
  cases l with
  | outOfRange => exact .ite (changed.trip v) (changed.raiseAlarm c v)
  | inRange => exact .ite changed (changed.clearAlarm c _)

theorem sampleChannel (h : r.Acts o s) (c : Fin 4) (v : Sample) : r.Acts o (s.sampleChannel c v) := by
  refine .ite ?_ h
  dsimp only
  split
  · exact h.setChannel _ _
  · exact (h.setChannel _ _).changeLevel c v _

theorem completeRun (h : r.Acts o s) (c : Fin 4) (v : Sample) (l : Level) : r.Acts o (s.completeRun c v l) :=
  .ite ((h.setChannel _ _).changeLevel c v l) h

theorem applyChannel (h : r.Acts o s) (old : Policy) (c : Fin 4) : r.Acts o (s.applyChannel old c) := by
  unfold State.applyChannel
  split
  · exact .ite (h.setChannel _ _) ((h.setChannel _ _).clearAlarm _ _)
  · exact h.setChannel _ _
  · exact h

theorem applyPolicy (h : r.Acts o s) (p : Policy) : r.Acts o (s.applyPolicy p) :=
  have put : r.Acts o (s.setPolicy p) := h.withImage _
  (foldl (fun c h => h.applyChannel _ c) _ put).reevaluate

/-! ## Start-up -/

theorem finishStartUp (h : r.Acts o s) : r.Acts o s.finishStartUp := (h.startUp .done).reevaluate

theorem stepSix (h : r.Acts o s) : r.Acts o s.stepSix :=
  .ite (h.startUp .step6).startBrute (.ite ((h.withAttempt _).place _).finishStartUp h.finishStartUp)

theorem endReruns (h : r.Acts o s) : r.Acts o s.endReruns :=
  have idle := h.withErase { s.erase with state := .idle }
  .ite ((idle.startUp .step4Owed).requestInternal _ _) idle.stepSix

/-! ## The Management Handler -/

theorem endOrDrop (h : r.Acts o s) (t : Tag) (v : Verdict) : r.Acts o (s.endOrDrop t v) := by
  unfold State.endOrDrop
  split
  · exact .ite (h.dropEntry t) (h.endEntry t v)
  · exact h

theorem endManagement (h : r.Acts o s) (st : Status) : r.Acts o (s.endManagement st) := by
  unfold State.endManagement
  split
  · exact (h.withHandler _).endOrDrop _ _
  · exact h

theorem returnData (h : r.Acts o s) (content : List Byte) : r.Acts o (s.returnData content) := by
  unfold State.returnData
  split
  · exact h.updateEntry _ (fun _ => rfl) fun _ fit => fit
  · exact h

theorem acceptDefine (h : r.Acts o s) (u : UnitNo) (d : UnitDef) : r.Acts o (s.acceptDefine u d) := by
  have put : r.Acts o (s.putUnit u (some d)) := (h.withImage _).setUnit _ _
  unfold State.acceptDefine
  dsimp only
  split
  · exact ((put.withImage _).drawn.requestWrite _ _).requestWrite _ _
  · exact ((put.withImage _).requestWrite _ _).requestWrite _ _

theorem runUnitDefine (h : r.Acts o s) (b : List Byte) : r.Acts o (s.runUnitDefine b) := by
  refine .ite (h.endManagement _) ?_
  split
  · exact h.endManagement _
  · exact .ite (h.endManagement _) (.ite (h.endManagement _) (.ite (h.endManagement _) (h.acceptDefine _ _)))

theorem runUnitDelete (h : r.Acts o s) (b : List Byte) : r.Acts o (s.runUnitDelete b) := by
  unfold State.runUnitDelete
  split
  · exact h.endManagement _
  · exact .ite (h.endManagement _) (.ite (h.endManagement _)
      (((((h.withImage _).setUnit _ _).withImage _).requestWrite _ _).requestWrite _ _))

theorem runGrantSet (h : r.Acts o s) (b : List Byte) : r.Acts o (s.runGrantSet b) := by
  unfold State.runGrantSet
  split
  · exact h.endManagement _
  · exact (h.setCred _ _).requestWrite _ _

theorem removeEnrollment (h : r.Acts o s) (k : SlotNo) : r.Acts o (s.removeEnrollment k) := by
  unfold State.removeEnrollment
  split
  · exact .ite (.ite ((h.withEntry _).withEnrolling _) (h.abandon _ _)) h
  · exact h

theorem runCredentialRemove (h : r.Acts o s) (b : List Byte) : r.Acts o (s.runCredentialRemove b) := by
  unfold State.runCredentialRemove
  split
  · exact h.endManagement _
  · rename_i k _
    have removed := ((h.setCred k .blank).requestWrite (.credential k) [.management]).removeEnrollment k
    exact .ite removed.closeSession.reevaluate removed

theorem runEnroll (h : r.Acts o s) (b : List Byte) : r.Acts o (s.runEnroll b) := by
  unfold State.runEnroll
  split
  · exact h.endManagement _
  · exact .ite ((h.startEnrolling _).endManagement _) (h.endManagement _)

theorem runPolicySet (h : r.Acts o s) (b : List Byte) : r.Acts o (s.runPolicySet b) := by
  unfold State.runPolicySet
  split
  · exact h.endManagement _
  · exact (h.applyPolicy _).requestWrite _ _

theorem runLock (h : r.Acts o s) (b : List Byte) : r.Acts o (s.runLock b) :=
  have closed := h.closeUnits .lockCommand ((List.finRange 8).filter (maskNames b))
  (State.Acts.ite closed.closeSession closed).endManagement _

theorem runEraseListWrite (h : r.Acts o s) (b : List Byte) : r.Acts o (s.runEraseListWrite b) := by
  unfold State.runEraseListWrite
  split
  · exact h.endManagement _
  · exact .ite (h.endManagement _) ((h.withErase _).endManagement _)

theorem runEraseTail (h : r.Acts o s) (b : List Byte) : r.Acts o (s.runEraseTail b) := by
  unfold State.runEraseTail
  split
  · exact h.endManagement _
  · rename_i p _
    have moved := h.withErase { s.erase with tail := p }
    dsimp only
    split
    · exact (State.Acts.ite moved moved.enterWaiting).endManagement _
    all_goals exact .ite (h.endManagement _) (moved.endManagement _)

theorem runEraseAbort (h : r.Acts o s) : r.Acts o s.runEraseAbort :=
  (State.Acts.ite (h.withErase _).stopNow h).endManagement _

theorem runEraseClear (h : r.Acts o s) : r.Acts o s.runEraseClear :=
  (State.Acts.ite (State.Acts.ite (h.withErase _).enterIdle (h.withErase _).enterWaiting) h).endManagement _

theorem runTamperClear (h : r.Acts o s) : r.Acts o s.runTamperClear :=
  .ite (h.endManagement _) (.ite (h.endManagement _) (.ite (h.endManagement _)
    ((((h.setChannel _ _).setLatchRecord _).requestWrite _ _).place _).reevaluate))

theorem runManagement (h : r.Acts o s) (op : Op) (b : List Byte) : r.Acts o (s.runManagement op b) := by
  cases op with
  | status => exact (h.returnData _).drawn.endManagement _
  | eventRead => exact ((h.returnData _).read (Nat.zero_le _)).endManagement _
  | unitDefine => exact h.runUnitDefine b
  | unitDelete => exact h.runUnitDelete b
  | grantSet => exact h.runGrantSet b
  | credentialRemove => exact h.runCredentialRemove b
  | enroll => exact h.runEnroll b
  | policySet => exact h.runPolicySet b
  | lock => exact h.runLock b
  | eraseListWrite => exact h.runEraseListWrite b
  | eraseTail => exact h.runEraseTail b
  | eraseAbort => exact h.runEraseAbort
  | eraseClear => exact h.runEraseClear
  | tamperClear => exact h.runTamperClear
  | read | write | trim | sync | unitInfo => exact h

theorem execute (h : r.Acts o s) (e : QueueEntry) : r.Acts o (s.execute e) := by
  unfold State.execute
  split
  · exact h.endManagement _
  · exact (State.Acts.ite (State.Acts.ite (h.withControl _) h) h).runManagement _ _

/-- The Handler takes an entry that is QUEUED. -/
theorem takeManagement (h : r.Acts o s) {e : QueueEntry} (next : s.nextManagement = some e) :
    r.Acts o (s.takeManagement e) := by
  unfold State.nextManagement at next
  have queued : e.op.isManagement = true ∧ e.state = .queued := by simpa using List.find?_some next
  exact ((h.withHandler (some e.tag)).activate (List.mem_of_find?_eq_some next) (by simp [queued])
    (f := fun e => { e with state := .active }) (fun _ => rfl) (fun _ => rfl) fun _ => rfl).execute e

theorem answer (h : r.Acts o s) (w : Waiter) : r.Acts o (s.answer w) := by
  cases w with
  | management => exact h.endManagement _
  | charge => exact h.verdict
  | clearing => exact h.clearingWritten
  | commit => exact h.commitWritten
  | descriptorMarker => exact h.markerWritten
  | internalMarker u => exact h.targetMarked u
  | replacement u p => exact h.replacementWritten u p
  | rerunClear u => exact h.rerunCleared u

/-! ## The part's own events -/

/-- A next event that some condition gives acts where the event does. -/
theorem ofOrElse {a b : Option State} {t : State} (first : a = some t → r.Acts o t) (second : b = some t → r.Acts o t)
    (h : (a <|> b) = some t) : r.Acts o t := by
  cases a with
  | none => exact second (by simpa using h)
  | some x => exact first (by simpa using h)

theorem advanceStartUp (h : r.Acts o s) {t : State} (e : s.advanceStartUp = some t) : r.Acts o t := by
  unfold State.advanceStartUp at e
  split at e
  · split at e
    · cases e
    · split at e
      · cases e; exact h.startRerun _ _
      · cases e; exact h.endReruns
  · split at e
    · cases e
    · cases e; exact h.stepSix
  · split at e
    · cases e; exact h.finishStartUp
    · cases e
  all_goals cases e

theorem nextUnserved (h : r.Acts o s) {t : State} (e : s.nextUnserved = some t) : r.Acts o t := by
  unfold State.nextUnserved at e
  split at e
  · cases e; exact h.eraseResult _ _
  · split at e
    · split at e
      · cases e; exact h.endSlot _ _
      · split at e
        · cases e; exact h.endEntry _ _
        · split at e
          · cases e; exact h.eraseResult _ _
          · cases e
    · cases e

theorem nextIssue (h : r.Acts o s) {t : State} (e : s.nextIssue = some t) : r.Acts o t := by
  unfold State.nextIssue at e
  split at e
  · split at e
    · cases e
    · split at e
      · rename_i work _
        cases e
        exact .ite (h.issueErase _ _) (h.issueHost _ (findWork_spec work).1 (findWork_spec work).2)
      · rename_i work _
        cases e
        exact h.issueHost _ (findWork_spec work).1 (findWork_spec work).2
      · cases e; exact h.issueErase _ _
      · cases e
  · cases e

theorem internal (h : r.Acts o s) {t : State} (e : s.internal = some t) : r.Acts o t := by
  refine ofOrElse (fun e => ?_) (ofOrElse h.advanceStartUp (ofOrElse (fun e => ?_) (ofOrElse h.nextUnserved
    (ofOrElse (fun e => ?_) (ofOrElse (fun e => ?_) (ofOrElse (fun e => ?_) fun e => ?_)))))) e
  · obtain ⟨u, -, rfl⟩ := Option.map_eq_some_iff.1 e
    exact h.signalDrained u
  · unfold State.nextBegin at e
    split at e
    · obtain ⟨p, -, rfl⟩ := Option.map_eq_some_iff.1 e
      exact h.setSlot _ _
    · cases e
  · unfold State.nextFollow at e
    split at e
    · cases e
    · cases e; exact h.followNeed
  · unfold State.nextStart at e
    split at e
    · cases e; exact h.startDescriptor
    · cases e
  · unfold State.nextCommand at e
    split at e
    · obtain ⟨c, next, rfl⟩ := Option.map_eq_some_iff.1 e
      exact h.takeManagement next
    · cases e
  · unfold State.nextTransfer at e
    split at e
    · cases e
    · split at e
      · cases e; exact (h.pipe _ _ _ _).takeTransfer _
      · cases e

theorem settle (h : r.Acts o s) (n : Nat) : r.Acts o (State.settle n s) :=
  State.settle_induction (P := r.Acts o) (fun _ _ h e => h.internal e) n s h

theorem finish (h : r.Acts o s) : r.Acts o s.finish := (h.settle _).refreshLeds

theorem fillSlots (n : Nat) : ∀ {s : State}, r.Acts o s → r.Acts o (State.fillSlots n s) := by
  induction n with
  | zero => exact fun h => h
  | succ n ih =>
    intro s h
    unfold State.fillSlots
    split
    · exact ih (h.nextIssue ‹_›)
    · exact h

end State.Acts

end Sys2Proof.Machine
end

section
/-! The acts of each command and of a step; the Command Queue, the Event Queue and the pending set keep their form at each
(R24, R25, R197, R219); and the part's own events leave the outer blocks (R31, R33, R49, R58, R136, R164, R198). -/

namespace Sys2Proof.Machine

namespace State.Acts

variable {o : Prop} {r s : State}

/-! ## The keypad -/

section Outer

variable (out : o)
include out

theorem withScanner (h : r.Acts o s) (x : Scanner) : r.Acts o (s.withScanner x) := h.other rfl rfl (.inr out)
theorem withLink (h : r.Acts o s) (x : Link) : r.Acts o (s.withLink x) := h.other rfl rfl (.inr out)
theorem withPort (h : r.Acts o s) (x : Port) : r.Acts o (s.withPort x) := h.other rfl rfl (.inr out)
theorem withStore (h : r.Acts o s) (x : Store) : r.Acts o (s.withStore x) := h.other rfl rfl (.inr out)

omit out in
theorem digitPress (h : r.Acts o s) (d : Digit) : r.Acts o (s.digitPress d) :=
  .ite ((h.withEntry _).withLeds _) (.ite (.ite ((h.withEntry _).withLeds _) (h.withEntry _)) h)

omit out in
theorem confirmEnds (h : r.Acts o s) : r.Acts o s.confirmEnds := by
  unfold State.confirmEnds
  split
  · split
    · exact ((h.setCred _ _).drawn.requestWrite _ _).withEntry _
    · exact h.abandonAny _
  · exact h

omit out in
theorem keyPress (h : r.Acts o s) : r.Acts o s.keyPress := by
  unfold State.keyPress
  split
  · exact .ite ((h.withEntry _).withEntry _).showFail
      ((((h.withEntry _).setAttemptRecord _).requestWrite _ _).withAttempt _)
  · exact .ite h (h.withEntry _)
  · exact .ite h h.confirmEnds
  all_goals exact h

omit out in
theorem lockPress (h : r.Acts o s) : r.Acts o s.lockPress := by
  have entry : r.Acts o s.lockEntry := by
    unfold State.lockEntry
    split
    · exact (h.withEntry _).withEntry _
    · exact h.abandonAny _
    · exact h.abandonAny _
    all_goals exact h
  exact (entry.closeUnits _ _).closeSession

omit out in
theorem interKeyExpired (h : r.Acts o s) : r.Acts o s.interKeyExpired := by
  unfold State.interKeyExpired
  split
  · exact (h.withEntry _).withEntry _
  · exact h.withEntry _
  · exact h.withEntry _
  all_goals exact h

theorem keyActivity (h : r.Acts o s) : r.Acts o s.keyActivity := .ite ((h.withLeds _).withPort out _) (h.withLeds _)

theorem holdKey (h : r.Acts o s) (p : PadKey) : r.Acts o (s.holdKey p) := by
  cases p with
  | digit d => exact (h.withScanner out _).digitPress d
  | lock => exact (h.withScanner out _).lockPress
  | key => exact h.withScanner out _

theorem takePresses (h : r.Acts o s) (ps : List PadKey) : r.Acts o (s.takePresses ps) := by
  have active := h.keyActivity out
  unfold State.takePresses
  split
  · exact h
  · exact .ite (active.holdKey out _) active
  · exact .ite (active.withScanner out _) active

theorem takeRelease (h : r.Acts o s) (p : PadKey) : r.Acts o (s.takeRelease p) :=
  .ite (.ite (h.withScanner out _).keyPress (h.withScanner out _)) h

theorem clearLockout (h : r.Acts o s) : r.Acts o s.clearLockout := .ite h (h.withScanner out _)

theorem switchChanged (h : r.Acts o s) (on : Bool) : r.Acts o (s.switchChanged on) := (h.withScanner out _).place _

theorem sampleKeys (h : r.Acts o s) (keys : BitVec 12) (on : Bool) : r.Acts o (s.sampleKeys keys on) := by
  have keyed := ((foldl (fun p h => h.takeRelease out p) (s.scanner.recognised keys false)
    (h.withScanner out (s.scanner.sampled keys))).takePresses out (s.scanner.recognised keys true)).clearLockout out
  exact .ite (.ite (keyed.withScanner out _) (keyed.switchChanged out _)) (keyed.withScanner out _)

/-! ## The link, the rail, the store and power -/

theorem endCapacityRead (h : r.Acts o s) (m : Option Nat) : r.Acts o (s.endCapacityRead m) :=
  have ended := h.withLink out { s.link with
    state := if m.isSome then .ready else .absent, capacity := m, capacityRead := .idle }
  .ite (ended.other rfl rfl (.inr out)) ended

theorem failCapacityRead (h : r.Acts o s) : r.Acts o s.failCapacityRead := .ite h (h.endCapacityRead out none)

theorem failRamp (h : r.Acts o s) : r.Acts o s.failRamp :=
  .ite ((h.withRail _).place _) (((h.withRail _).place _).failCapacityRead out)

theorem startWrite (h : r.Acts o s) : r.Acts o s.startWrite := by
  unfold State.startWrite
  split
  · exact h
  · exact .ite (h.withStore out _) h

theorem completeWrite (h : r.Acts o s) : r.Acts o s.completeWrite := by
  unfold State.completeWrite
  split
  · exact h
  · exact foldl (fun w h => h.answer w) _ (h.withStore out _)

/-- A part that loses power, or has it applied, holds neither entries nor events. -/
theorem emptied (h : r.Acts o s) {t : State} (queue : t.queue = []) (events : t.events = ⟨[], false, false⟩) :
    r.Acts o t :=
  ((h.leave (List.nil_sublist _)).read (q := ⟨[], false, false⟩) (Nat.zero_le _)).other queue events (.inr out)

/-- The entries that a bus reset leaves, as orphans, and no events (R45, R46, R222). -/
theorem busReset (h : r.Acts o s) : r.Acts o (s.resetPath.withEvents ⟨[], false, false⟩) := by
  have slots := h.withSlots (s.slots.map resetSlot)
  have stay := slots.leave (q := s.queue.filter (s.withSlots (s.slots.map resetSlot)).staysAfterReset)
    List.filter_sublist
  have orphans := stay.change (f := fun e => { e with orphan := true, returned := none }) (fun _ => rfl)
    fun _ _ _ fit => fit
  exact (orphans.withPort out _).read (Nat.zero_le _)

end Outer

/-! ## The commands -/

/-- A command that acts does what its effect does. -/
theorem ofAct {f : State → State} {t : State} (start : r.Acts o s) (e : s.act f = .next t) (h : r.Acts o (f s)) :
    r.Acts o t := by
  unfold State.act at e
  cases e
  exact .ite h start

/-- A transfer of the host, which is taken or waits. -/
theorem ofTransfer {i : Instr} {t : State} (start : r.Acts o s)
    (e : (s.act fun s => s.transfer i fun s => s.takeTransfer i) = .next t) : r.Acts o t :=
  start.ofAct e (.ite (start.takeTransfer i).finish (start.pipe _ _ _ _))

end State.Acts

/-- Every command is a chain of acts. -/
theorem exec_acts {i : Instr} {r s t : State} (start : r.Acts True s) (e : exec i s = .next t) : r.Acts True t := by
  cases i <;> dsimp only [exec] at e
  case read h => exact start.ofTransfer (i := .read h) e
  case write h => exact start.ofTransfer (i := .write h) e
  case trim h => exact start.ofTransfer (i := .trim h) e
  case sync h => exact start.ofTransfer (i := .sync h) e
  case unitInfo h => exact start.ofTransfer (i := .unitInfo h) e
  case status h b => exact start.ofTransfer (i := .status h b) e
  case eventRead h b => exact start.ofTransfer (i := .eventRead h b) e
  case unitDefine h b => exact start.ofTransfer (i := .unitDefine h b) e
  case unitDelete h b => exact start.ofTransfer (i := .unitDelete h b) e
  case grantSet h b => exact start.ofTransfer (i := .grantSet h b) e
  case credentialRemove h b => exact start.ofTransfer (i := .credentialRemove h b) e
  case enroll h b => exact start.ofTransfer (i := .enroll h b) e
  case policySet h b => exact start.ofTransfer (i := .policySet h b) e
  case lock h b => exact start.ofTransfer (i := .lock h b) e
  case eraseListWrite h b => exact start.ofTransfer (i := .eraseListWrite h b) e
  case eraseTail h b => exact start.ofTransfer (i := .eraseTail h b) e
  case eraseAbort h b => exact start.ofTransfer (i := .eraseAbort h b) e
  case eraseClear h b => exact start.ofTransfer (i := .eraseClear h b) e
  case tamperClear h b => exact start.ofTransfer (i := .tamperClear h b) e
  case unknownOp op h => exact start.ofTransfer (i := .unknownOp op h) e
  case discardedTransfer n => exact start.ofTransfer (i := .discardedTransfer n) e
  case refusedStatusSent =>
    refine start.ofAct e ?_
    split
    · exact .ite (start.withPort trivial _).finish start
    · exact start
  case returnedDataSent =>
    refine start.ofAct e ?_
    split
    · split
      · exact .ite ((start.withPort trivial _).updateEntry _ (fun _ => rfl) fun _ fit => fit) start
      · exact start
    · exact start
  case statusRecordSent =>
    refine start.ofAct e ?_
    split
    · rename_i x xs queue
      refine .ite ((start.withPort trivial _).leave (q := xs) ?_).finish start
      rw [State.withPort_queue, queue]
      exact List.sublist_cons_self x xs
    · exact start
  case dataStageDiscarded => exact start.ofAct e (.ite (start.pipe _ _ _ _).finish start)
  case interruptPoll => exact start.ofAct e (.ite ((start.withPort trivial _).read (Nat.le_refl _)) start)
  case readDataSent n =>
    refine start.ofAct e ?_
    split
    · exact start
    · exact .ite (((start.withPort trivial _).countSectors _ _).setBuffer _ _).finish start
  case writeIntakeEnd data =>
    refine start.ofAct e ?_
    split
    · exact .ite ((start.setSlot _ _).withPort trivial _).finish start
    · exact start
  case segmentIssue => exact start.ofAct e (start.followNeed.fillSlots 4).finish
  case operationBegin n =>
    refine start.ofAct e ?_
    split
    · exact .ite (start.setSlot _ _).finish start
    · exact start
  case mediaCompletion n reply =>
    refine start.ofAct e ?_
    split
    · split
      · exact (start.endSlot _ _).finish
      · exact start
    · exact start
  case mediaTimeoutExpiry n =>
    refine start.ofAct e ?_
    split
    · exact (((start.endSlot _ _).endOutstanding _).withLink trivial _ |>.place _).finish
    · exact start
  case resetDoneReport => exact start.ofAct e (.ite (start.withLink trivial _).finish start)
  case resetTimerExpiry => exact start.ofAct e (.ite (start.withLink trivial _).finish start)
  case capacityReport answer => exact start.ofAct e (.ite (start.endCapacityRead trivial _).finish start)
  case capacityCountdownExpiry => exact start.ofAct e (.ite (start.endCapacityRead trivial _).finish start)
  case powerGood =>
    exact start.ofAct e (.ite (State.Acts.ite ((start.withRail _).withLink trivial _) (start.withRail _)).finish start)
  case rampTimerExpiry => exact start.ofAct e (.ite (start.failRamp trivial).finish start)
  case retryTimerExpiry => exact start.ofAct e (.ite (start.withRail _) start)
  case powerGoodLoss =>
    exact start.ofAct e
      (.ite ((((start.withRail _).place _).endOutstanding _).failCapacityRead trivial).finish start)
  case switchOffTimerExpiry => exact start.ofAct e (.ite (start.withRail _).finish start)
  case drained u => exact start.ofAct e (.ite (start.signalDrained u).finish start)
  case idleTimerExpiry u => exact start.ofAct e (.ite (start.closeUnit _ u).finish start)
  case sessionIdleTimerExpiry => exact start.ofAct e (.ite start.closeSession.refreshLeds start)
  case keyReplacement u => exact start.ofAct e (start.takeRequest u).finish
  case writeStart => exact start.ofAct e (start.startWrite trivial)
  case writeCompletion => exact start.ofAct e (.ite (start.completeWrite trivial).finish start)
  case penaltyTimerExpiry => exact start.ofAct e (.ite start.penaltyExpired.refreshLeds start)
  case recognisedPress keys => exact start.ofAct e ((start.withScanner trivial _).takePresses trivial _).finish
  case recognisedRelease p =>
    exact start.ofAct e
      (.ite (((start.withScanner trivial _).takeRelease trivial p).clearLockout trivial).refreshLeds start)
  case holdTimerExpiry => exact start.ofAct e (.ite (start.withScanner trivial _).longPress.refreshLeds start)
  case recognisedSwitchChange on => exact start.ofAct e (.ite (start.switchChanged trivial on) start)
  case interKeyExpiry => exact start.ofAct e (.ite start.interKeyExpired start)
  case enrollmentWindowExpiry => exact start.ofAct e (.ite (start.abandonAny _).refreshLeds start)
  case transientEnd l =>
    cases l with
    | red | green => exact start.ofAct e (start.withLeds _).refreshLeds
    | blue => exact start.ofAct e start
  case patternPhaseEnd l => cases l <;> exact start.ofAct e (start.withLeds _)
  case restTimerExpiry => exact start.ofAct e (start.withLeds _)
  case alarmRaise c v => exact start.ofAct e (start.completeRun _ v _).finish
  case alarmClear c v => exact start.ofAct e (start.completeRun _ v _).finish
  case enclosureTrip v => exact start.ofAct e (start.completeRun _ v _).finish
  case enclosureLevelIn v => exact start.ofAct e (start.completeRun _ v _)
  case descriptorStart => exact start.ofAct e (.ite start.startDescriptor.finish start)
  case progressDelayExpiry => exact start.ofAct e (.ite ((start.withErase _).place _) start)
  case eraseResume =>
    refine start.ofAct e (.ite ?_ start)
    split
    · exact (start.startRerun _ _).finish
    · exact start
  case owedEnclosureErase => exact start.ofAct e (.ite start.endReruns.finish start)
  case remoteWakeEnable => exact start.ofAct e (start.withPort trivial _)
  case remoteWakeDisable => exact start.ofAct e (start.withPort trivial _)
  case powerOn => cases e; exact start.emptied trivial rfl rfl
  case powerLoss => exact start.ofAct e (start.emptied trivial rfl rfl)
  case busReset => exact start.ofAct e (start.busReset trivial).finish
  case standbyEntry => exact start.ofAct e (.ite start ((start.withPort trivial _).closeUnits _ _).finish)
  case standbyExit => exact start.ofAct e (.ite ((start.withPort trivial _).withLeds _).refreshLeds.finish start)
  case scanSample keys on => exact start.ofAct e (start.sampleKeys trivial keys on).finish
  case channelSample samples =>
    exact start.ofAct e (State.Acts.foldl (fun p h => h.sampleChannel p.1 p.2) samples start).finish

/-- Every step is a chain of acts. -/
theorem step_acts {s t : State} (e : step s = .next t) : s.Acts True t := by
  unfold step at e
  split at e
  · cases e; exact .refl
  · rename_i i rest _
    exact exec_acts (State.Acts.refl.other (t := s.withPending rest) rfl rfl (.inr trivial)) e

/-! ## The form of the queues -/

/-- No two entries share a tag, each has its verdict exactly while it is ENDING, and at most 16 events are held (R24, R25,
R219). -/
structure State.pathFits (s : State) : Prop where
  tags : (s.queue.map QueueEntry.tag).Nodup
  verdicts : ∀ e ∈ s.queue, e.fits
  events : s.events.entries.length ≤ 16

theorem EventQueue.length_place {q : EventQueue} (e : Event) (h : q.entries.length ≤ 16) :
    (q.place e).entries.length ≤ 16 := by
  unfold EventQueue.place
  split
  · exact h
  · simp only [List.length_append, List.length_singleton]
    omega

theorem pathFits_of_acts {s t : State} (fit : s.pathFits) {o : Prop} (acts : s.Acts o t) : t.pathFits := by
  induction acts with
  | refl => exact fit
  | other _ queue events _ ih => exact ⟨queue ▸ ih.tags, queue ▸ ih.verdicts, events ▸ ih.events⟩
  | place _ e ih => exact ⟨ih.tags, ih.verdicts, EventQueue.length_place e ih.events⟩
  | read _ fewer ih => exact ⟨ih.tags, ih.verdicts, fewer.trans ih.events⟩
  | @join s _ e free fits ih =>
    refine ⟨?_, fun x mem => ?_, ih.events⟩
    · rw [State.withQueue_queue, List.map_append, List.nodup_append]
      refine ⟨ih.tags, List.nodup_singleton _, ?_⟩
      simpa using State.tag_ne_of_entryOf free
    · rcases List.mem_append.1 mem with mem | mem
      · exact ih.verdicts x mem
      · rw [List.mem_singleton.1 mem]
        exact fits
  | @change s _ f tag fits ih =>
    refine ⟨?_, fun x mem => ?_, ih.events⟩
    · rw [State.withQueue_queue, List.map_map, show QueueEntry.tag ∘ f = QueueEntry.tag from funext tag]
      exact ih.tags
    · obtain ⟨e, old, rfl⟩ := List.mem_map.1 mem
      exact fits ih.tags e old (ih.verdicts e old)
  | leave _ fewer ih =>
    exact ⟨(fewer.map _).nodup ih.tags, fun e mem => ih.verdicts e (fewer.subset mem), ih.events⟩

/-- The records whose writes are pending. -/
def pendingRecords (set : List WriteRequest) : List RecordId := set.map fun w => w.content.id

theorem nodup_joinPending {set : List WriteRequest} (h : (pendingRecords set).Nodup) (x : WriteRequest) :
    (pendingRecords (joinPending set x)).Nodup := by
  unfold joinPending
  split
  · have same : pendingRecords (set.map fun w => if w.isOf x.content.id then
        { content := x.content, waiters := w.waiters ++ x.waiters } else w) = pendingRecords set := by
      rw [pendingRecords, List.map_map]
      refine List.map_congr_left fun w _ => ?_
      simp only [Function.comp_apply]
      split
      · rename_i own
        exact (show w.content.id = x.content.id by simpa [WriteRequest.isOf] using own).symm
      · rfl
    rwa [same]
  · rename_i new
    rw [pendingRecords, List.map_append, List.nodup_append]
    refine ⟨h, List.nodup_singleton _, ?_⟩
    simpa [WriteRequest.isOf] using new

/-- The pending set holds each record at most once after every move (R197). -/
theorem pendingRecords_of_moves {s t : State} (fit : (pendingRecords s.store.pendingSet).Nodup) {o : Prop}
    (moves : s.Moves o t) : (pendingRecords t.store.pendingSet).Nodup := by
  induction moves with
  | refl => exact fit
  | other _ _ _ _ store ih => rwa [store]
  | request _ id ws ih => exact nodup_joinPending ih _
  | startWrite _ ih =>
    unfold State.startWrite
    split
    · exact ih
    · rename_i w ws set
      rw [set] at ih
      split
      · exact (List.nodup_cons.1 ih).2
      · rwa [set]
  | endClose _ u ih =>
    unfold State.endClose
    split <;> exact ih
  | powered _ _ => exact List.nodup_nil
  | unpowered _ _ => exact List.nodup_nil
  | closing _ _ _ _ ih | claimClosing _ _ ih | erasing _ _ _ ih | unlockErasing _ _ ih | openUnit _ _ _ _ _ _ _ ih
  | widenUnit _ _ _ _ _ ih | idleTimer _ _ _ ih | capacityCheck _ _ ih | session _ _ _ _ ih | marker _ _ _ ih
  | rekeyed _ _ _ ih | defined _ _ _ _ ih | deleted _ _ ih | credential _ _ _ ih | policy _ _ ih | attempt _ _ ih
  | latch _ _ ih | stored _ _ ih => exact ih

/-- Settles O6: the acts of a step keep the two queues' form, and its moves the pending set's. -/
theorem stepKeepsQueuesFit : Obligations.StepKeepsQueuesFit := by
  intro s t ⟨tags, verdicts, events, records⟩ step
  obtain ⟨tags, verdicts, events⟩ := pathFits_of_acts ⟨tags, verdicts, events⟩ (step_acts step)
  exact ⟨tags, verdicts, events, pendingRecords_of_moves records (step_moves step)⟩

/-! ## The part's own events -/

theorem outer_of_acts {s t : State} (acts : s.Acts False t) : t.outer = s.outer := by
  induction acts with
  | refl => rfl
  | other _ _ _ outer ih => exact (outer.resolve_right id).trans ih
  | place _ _ ih | read _ _ ih | join _ _ _ ih | change _ _ _ ih | leave _ _ ih => exact ih

theorem State.leads.outer {m t : State} : m.leads t → t.outer = m.outer := by
  rintro ⟨n, rfl⟩
  exact outer_of_acts (State.Acts.refl.settle n).refreshLeds

theorem State.leads.opensNothing {m t : State} : m.leads t → m.opensNothing t := by
  rintro ⟨n, rfl⟩
  exact opensNothing_of_moves
    (State.settle_induction (P := m.Moves False) (fun _ _ h e => h.internal e) n m .refl).refreshLeds

/-- Settles O2: no act of the part's own events reaches an outer block, and none of its moves opens anything. -/
theorem ownEventsKeepFrame : Obligations.OwnEventsKeepFrame := by
  intro m t leads
  obtain ⟨h1, h2, h3, h4, h5, h6, h7, h8, h9, h10, h11, h12⟩ := Outer.mk.inj leads.outer
  exact ⟨h1, h2, h3, h4, h5, h6, h7, h8, h9, h10, h11, h12, leads.opensNothing⟩

end Sys2Proof.Machine
end

section
/-! The arrival of a transfer on the bulk-out pipe: it waits, its record is refused, or UNIT INFO is served (R21 to R23,
R28, R215). -/

namespace Sys2Proof.Machine

/-! ## Transfers -/

/-- A record of a known op is taken or waits. -/
theorem exec_recordCommand (s : State) (op : Op) (h : RecordHead) (b : List Byte) :
    exec (recordCommand op h b) s =
      s.act fun s => s.transfer (recordCommand op h b) fun s => s.takeTransfer (recordCommand op h b) := by
  cases op <;> rfl

/-- Settles O15. -/
theorem transfersWaitForThePipe : Obligations.TransfersWaitForThePipe := by
  intro s i powered busy transfer
  have waits (accept : State → State) : (s.act fun s => s.transfer i accept) = .next (s.wait i) := by
    rw [State.act_powered _ powered, State.transfer_waits _ _ busy]
  rcases transfer with ⟨op, h, b, rfl⟩ | ⟨op, h, rfl⟩ | ⟨n, rfl⟩
  · rw [exec_recordCommand]
    exact waits _
  · exact waits _
  · exact waits _

/-! ## Refused records -/

/-- The residue and the data stage with which each known op is refused, whatever it does when accepted (R21 to R23). -/
theorem State.takeTransfer_recordCommand (s : State) (op : Op) (h : RecordHead) (b : List Byte) :
    ∃ accept, s.takeTransfer (recordCommand op h b) =
      s.takeRecord op h (if op.movesData then h.count.toNat else 0)
        (decide ((op = .write ∧ h.count ≠ 0) ∨ (op.isManagement = true ∧ h.paramLength ≠ 0))) accept := by
  have arrival {x y : Nat} {c d : Bool} {accept : Tag → State} (residue : x = y) (stage : c = d) :
      ∃ accept', s.takeRecord op h x c accept = s.takeRecord op h y d accept' := ⟨accept, by rw [residue, stage]⟩
  cases op <;> exact arrival rfl (by simp [Op.isManagement])

theorem recordTag_eq_none {h : RecordHead} (e : 16 ≤ h.tag.toNat) : recordTag h = none := by
  rw [recordTag, dif_neg (by omega)]

/-- An entry has the tag that a record carries. -/
abbrev State.tagInUse (s : State) (h : RecordHead) : Prop := ∃ e ∈ s.queue, e.tag.val = h.tag.toNat

theorem State.entryOf_isSome_iff {s : State} {h : RecordHead} {t : Tag} (tag : h.tag.toNat = t.val) :
    (s.entryOf t).isSome = true ↔ s.tagInUse h := by
  simp only [State.entryOf, List.find?_isSome, decide_eq_true_eq, Fin.ext_iff, tagInUse, tag]

/-- Arrival finds an entry that has the tag of a record. -/
theorem State.takeRecord_tagInUse {s : State} {h : RecordHead} (used : s.tagInUse h) (op : Op) (residue : Nat)
    (stage : Bool) (accept : Tag → State) :
    s.takeRecord op h residue stage accept = s.refuse h .tagInUse residue stage := by
  have ⟨e, _, tag⟩ := used
  rw [State.takeRecord, recordTag_eq_some tag.symm]
  exact if_pos ((State.entryOf_isSome_iff tag.symm).2 used)

theorem State.takeRecord_tagAbove {s : State} {h : RecordHead} (above : 16 ≤ h.tag.toNat) (op : Op) (residue : Nat)
    (stage : Bool) (accept : Tag → State) :
    s.takeRecord op h residue stage accept = s.refuse h .invalid residue stage := by
  rw [State.takeRecord, recordTag_eq_none above]

/-- A record with a free tag is refused when it carries a management op with a length above 512, and accepted otherwise. -/
theorem State.takeRecord_tagFree {s : State} {h : RecordHead} (below : h.tag.toNat < 16) (free : ¬ s.tagInUse h) (op : Op)
    (residue : Nat) (stage : Bool) (accept : Tag → State) :
    s.takeRecord op h residue stage accept =
      if op.isManagement = true ∧ 512 < h.paramLength.toNat then s.refuse h .invalid residue stage
      else accept ⟨h.tag.toNat, below⟩ := by
  have tag : h.tag.toNat = (⟨h.tag.toNat, below⟩ : Tag).val := rfl
  rw [State.takeRecord, recordTag_eq_some tag]
  simp only [State.entryOf_isSome_iff tag, free, if_false, Bool.and_eq_true, decide_eq_true_eq]

/-- A refused record holds its status, and its stage is discarded where one follows. -/
theorem State.refuse_eq (s : State) (h : RecordHead) (st : Status) (residue : Nat) (p : Prop) [Decidable p] :
    s.refuse h st residue (decide p) = { s with
      port := { s.port with
        refused := some { tag := h.tag, status := st, detail := .none, residue },
        bulkOut := if p then .discarding else .free } } := by
  simp [State.refuse, State.withPort]

/-- Settles O13: each failing check of R21 refuses the record with the residue and the stage of its op. -/
theorem recordRefusedAtArrival : Obligations.RecordRefusedAtArrival := by
  intro s op h b st powered pipe fails
  obtain ⟨accept, arrival⟩ := s.takeTransfer_recordCommand op h b
  rw [exec_recordCommand, State.act_powered _ powered, State.transfer_taken _ _ pipe, arrival, ← State.refuse_eq]
  rcases fails with ⟨above, rfl⟩ | ⟨used, rfl⟩ | ⟨below, free, management, long, rfl⟩
  · rw [State.takeRecord_tagAbove above]
  · rw [State.takeRecord_tagInUse used]
  · rw [State.takeRecord_tagFree below (by simpa [State.tagInUse] using free), if_pos ⟨management, long⟩]

/-- Settles O14: whichever check stops it, a record of an unknown op is refused. -/
theorem unknownRecordsTakeNoEntry : Obligations.UnknownRecordsTakeNoEntry := by
  intro s powered pipe
  refine ⟨fun op h => ?_, fun n => ?_⟩
  · have refused : s.acceptUnknown h =
        s.refuse h (if s.tagInUse h then .tagInUse else .invalid) 0 (decide (h.paramLength ≠ 0)) := by
      by_cases used : s.tagInUse h
      · rw [State.acceptUnknown, State.takeRecord_tagInUse used, if_pos used]
      · rw [if_neg used]
        by_cases below : h.tag.toNat < 16
        · rw [State.acceptUnknown, State.takeRecord_tagFree below used, if_neg (by simp [Op.isManagement])]
        · rw [State.acceptUnknown, State.takeRecord_tagAbove (by omega)]
    show (s.act fun s => s.transfer (.unknownOp op h) fun s => s.acceptUnknown h) = _
    rw [State.act_powered _ powered, State.transfer_taken _ _ pipe, refused, State.refuse_eq]
    simp only [ne_eq, ite_not]
  · show (s.act fun s => s.transfer (.discardedTransfer n) fun s => s) = _
    rw [State.act_powered _ powered, State.transfer_taken _ _ pipe]

/-! ## UNIT INFO -/

/-- Settles O20. -/
theorem unitInfoServedAtArrival : Obligations.UnitInfoServedAtArrival := by
  intro s h t powered pipe tag free
  have taken (f : State → State) : (s.act fun s => s.transfer (.unitInfo h) f) = .next (f s).finish := by
    rw [State.act_powered _ powered, State.transfer_taken _ _ pipe]
  have arrival : exec (.unitInfo h) s = .next (s.acceptUnitInfo h).finish := taken _
  rw [arrival, State.acceptUnitInfo, State.takeRecord_accepted tag free rfl]
  refine ⟨fun u done named => ?_, fun st refused => ?_⟩
  · rw [if_neg (by simp [State.configuring, done]), recordUnit_eq_some named]
    rfl
  · rcases refused with ⟨configuring, rfl⟩ | ⟨done, above, rfl⟩
    · rw [if_pos (by simp [State.configuring, configuring])]
      rfl
    · rw [if_neg (by simp [State.configuring, done]), show recordUnit h = none from unitOf_eq_none_iff.2 above]
      rfl

end Sys2Proof.Machine
end

section
/-! What the port sends: status records, the sectors of the head READ, returned data and refused statuses; discarded data
stages, polls and remote-wake requests (R21 to R23, R26, R34, R38, R128, R221). -/

namespace Sys2Proof.Machine

/-! ## The pipe and the head -/

/-- The queue may send at a boundary between transfers, with no refused status to go first and the bus running. -/
theorem State.queueMaySend_iff {s : State} :
    s.queueMaySend = true ↔ s.port.standby = false ∧ s.port.refused = none ∧ s.sendingRead = false := by
  simp [State.queueMaySend, and_assoc]

/-- A change of the head, whose tag no later entry has. -/
theorem map_head {e : QueueEntry} {es : List QueueEntry} (alone : ∀ x ∈ es, x.tag ≠ e.tag) (f : QueueEntry → QueueEntry) :
    ((e :: es).map fun x => if x.tag = e.tag then f x else x) = f e :: es := by
  rw [List.map_cons, if_pos rfl, map_tag_free alone]

/-! ## The status record -/

theorem State.hasBuffered_eq_false_iff {s : State} {t : Tag} :
    s.hasBuffered t = false ↔
      ∀ (n : Fin 4) (r : ReadBuffer), s.port.readBuffers[n] = some r → r.tag = t → r.data = none := by
  simp only [State.hasBuffered, List.any_eq_false, Vector.mem_toList_iff, Vector.mem_iff_getElem]
  constructor
  · intro free n r buffer tag
    simpa [tag] using free (some r) ⟨n.val, n.isLt, buffer⟩
  · rintro free b ⟨n, bound, rfl⟩
    cases buffer : s.port.readBuffers[n] with
    | none => simp
    | some r => simpa using free ⟨n, bound⟩ r buffer

/-- Settles O37. -/
theorem statusRecordIsSent : Obligations.StatusRecordIsSent := by
  intro s e es v powered running refused boundary queue ended verdict returned sent
  have sends : (s.queueMaySend && decide (e.state = .ending) && e.returned.isNone && !s.hasBuffered e.tag) = true := by
    simp [State.queueMaySend_iff.2 ⟨running, refused, boundary⟩, ended, returned, State.hasBuffered_eq_false_iff.2 sent]
  have record : e.statusRecord =
      { tag := BitVec.ofNat 8 e.tag.val, status := v.status, detail := v.detail,
        residue := if e.op = .read ∨ e.op = .write ∨ e.op = .trim then e.head.count.toNat - e.sectorsDone else 0 } := by
    simp only [QueueEntry.statusRecord, verdict, QueueEntry.residue]
    cases e.op <;> rfl
  show execStatusRecordSent s = _
  rw [execStatusRecordSent, State.act_powered _ powered, queue]
  dsimp only
  rw [if_pos sends, record]
  rfl

/-! ## Read data -/

theorem mem_of_lowestSegment {l : List (Fin 4 × ReadBuffer)} :
    ∀ {p : Fin 4 × ReadBuffer}, lowestSegment l = some p → p ∈ l := by
  induction l with
  | nil => exact nofun
  | cons x xs ih =>
    intro p found
    unfold lowestSegment at found
    split at found
    · rename_i q lowest
      split at found <;> cases found
      · exact List.mem_cons_of_mem _ (ih lowest)
      · exact List.mem_cons_self
    · cases found
      exact List.mem_cons_self

/-- The one below every other is the lowest. -/
theorem lowestSegment_eq {l : List (Fin 4 × ReadBuffer)} {p : Fin 4 × ReadBuffer} (mem : p ∈ l)
    (lowest : ∀ q ∈ l, q ≠ p → p.2.segment < q.2.segment) : lowestSegment l = some p := by
  induction l with
  | nil => cases mem
  | cons x xs ih =>
    unfold lowestSegment
    by_cases head : x = p
    · subst head
      cases tail : lowestSegment xs with
      | none => rfl
      | some q =>
        by_cases same : q = x
        · simp [same]
        · have above := lowest q (List.mem_cons_of_mem _ (mem_of_lowestSegment tail)) same
          exact if_neg (by omega)
    · rw [ih (by simpa [Ne.symm head] using mem) fun q member => lowest q (List.mem_cons_of_mem _ member)]
      exact if_pos (lowest x List.mem_cons_self head)

/-- What the buffers hold of a command. -/
theorem State.mem_bufferedData {s : State} {t : Tag} {i : Fin 4} {r : ReadBuffer} :
    (i, r) ∈ s.bufferedData t ↔ s.port.readBuffers[i] = some r ∧ r.tag = t ∧ r.data.isSome = true := by
  simp only [State.bufferedData, List.mem_filterMap, List.mem_finRange, true_and]
  constructor
  · rintro ⟨n, found⟩
    split at found
    · split at found
      · rename_i holds
        cases found
        exact ⟨‹_›, by simpa using holds⟩
      · cases found
    · cases found
  · rintro ⟨buffer, tag, data⟩
    exact ⟨i, by simp [buffer, tag, data]⟩

/-- The head's segment that goes out next is the buffered one below all others. -/
theorem State.headSegment_eq {s : State} {e : QueueEntry} {es : List QueueEntry} {i : Fin 4} {r : ReadBuffer}
    (queue : s.queue = e :: es) (buffer : s.port.readBuffers[i] = some r) (tag : r.tag = e.tag)
    (data : r.data.isSome = true)
    (lowest : ∀ (j : Fin 4) (q : ReadBuffer), j ≠ i → s.port.readBuffers[j] = some q → q.tag = e.tag →
      q.data.isSome = true → r.segment < q.segment) : s.headSegment = some (i, r) := by
  simp only [State.headSegment, State.headTag, queue, List.head?_cons, Option.map_some]
  refine lowestSegment_eq (State.mem_bufferedData.2 ⟨buffer, tag, data⟩) fun ⟨j, q⟩ member other => ?_
  obtain ⟨buffer', tag', data'⟩ := State.mem_bufferedData.1 member
  refine lowest j q (fun same => other ?_) buffer' tag' data'
  subst same
  rw [buffer] at buffer'
  cases buffer'
  rfl

/-- Settles O38: the lowest buffered segment is the head's next one, and what goes out of it counts. -/
theorem readDataIsSent : Obligations.ReadDataIsSent := by
  intro s e es i r data n powered running queue alone buffer tag held lowest boundary nonempty fits
  have next : s.headSegment = some (i, r) := State.headSegment_eq queue buffer tag (by simp [held]) lowest
  have unsent : r.unsent = data.drop r.sent := by rw [ReadBuffer.unsent, held]; rfl
  have sends : ((s.queueMaySend || (!s.port.standby && decide (0 < r.sent))) && decide (1 ≤ n) &&
      decide (n ≤ r.unsent.length)) = true := by
    have start : s.queueMaySend = true ∨ 0 < r.sent :=
      boundary.symm.imp_left fun ⟨refused, free⟩ => State.queueMaySend_iff.2 ⟨running, refused, free⟩
    have enough : n ≤ r.unsent.length := by rw [unsent, List.length_drop]; omega
    simpa [running, enough] using ⟨start, nonempty⟩
  have all : n = (data.drop r.sent).length ↔ r.sent + n = data.length := by rw [List.length_drop]; omega
  show execReadDataSent n s = _
  rw [execReadDataSent, State.act_powered _ powered, next]
  dsimp only
  rw [if_pos sends]
  simp only [State.sendSectors, State.updateEntry, State.withPort_queue, tag, queue, map_head alone, unsent, all]
  rfl

/-! ## Other transfers -/

/-- Settles O39. -/
theorem portTransfers : Obligations.PortTransfers := by
  intro s powered
  refine ⟨fun e es d queue alone returned running refused boundary => ?_, fun r refused running boundary => ?_,
    fun stage running => ?_, fun attention running => ?_, ?_, ?_⟩
  · show execReturnedDataSent s = _
    rw [execReturnedDataSent, State.act_powered _ powered, queue]
    dsimp only
    rw [returned]
    dsimp only
    rw [if_pos (State.queueMaySend_iff.2 ⟨running, refused, boundary⟩), State.updateEntry, State.withPort_queue, queue,
      map_head alone]
    rfl
  · show execRefusedStatusSent s = _
    rw [execRefusedStatusSent, State.act_powered _ powered, refused]
    dsimp only
    rw [if_pos (by simp [running, boundary])]
    rfl
  · show execDataStageDiscarded s = _
    rw [execDataStageDiscarded, State.act_powered _ powered, if_pos (by simp [stage, running])]
    rfl
  · show execInterruptPoll s = _
    rw [execInterruptPoll, State.act_powered _ powered, if_pos (by simp [attention, running])]
    rfl
  · show execRemoteWakeEnable s = _
    rw [execRemoteWakeEnable, State.act_powered _ powered]
    rfl
  · show execRemoteWakeDisable s = _
    rw [execRemoteWakeDisable, State.act_powered _ powered]
    rfl

end Sys2Proof.Machine
end

section
/-! Completions of the segments and flushes of host commands: what reaches the buffer, how a command ends, and what is
counted (R35, R38 to R40, R43 to R45, R50, R56, R74, R75). -/

namespace Sys2Proof.Machine

/-! ## The end of an entry -/

/-- A bulk-out pipe whose data stage, where the command of a tag holds it, is to be discarded (R22). -/
def BulkOut.released (t : Tag) : BulkOut → BulkOut
  | .writeStage x left => if x = t then .discarding else .writeStage x left
  | b => b

/-- No ended entry but that of the tag holds the bulk-out pipe. -/
def State.heldByLive (s : State) (t : Tag) : Prop :=
  ∀ x left, s.port.bulkOut = .writeStage x left → x ≠ t → ∀ y, s.entryOf x = some y → y.state ≠ .ending

theorem BulkOut.released_of_ne {t : Tag} {b : BulkOut} (other : ∀ left, b ≠ .writeStage t left) : b.released t = b := by
  cases b with
  | writeStage x left => exact if_neg fun same => other left (by rw [same])
  | free | discarding => rfl

/-- An ended entry that holds the pipe leaves its stage to be discarded, and the pipe else stays as it is. -/
theorem State.releaseStage_eq {s : State} {t : Tag} {e : QueueEntry} (found : s.entryOf t = some e)
    (ended : e.state = .ending) (others : s.heldByLive t) :
    s.releaseStage = s.withPort { s.port with bulkOut := s.port.bulkOut.released t } := by
  have kept (same : s.port.bulkOut.released t = s.port.bulkOut) :
      s = s.withPort { s.port with bulkOut := s.port.bulkOut.released t } := by rw [same]; rfl
  unfold State.releaseStage
  split
  · rename_i x left holds
    by_cases own : x = t
    · rw [own, found]
      dsimp only
      rw [if_pos ended, holds, own, BulkOut.released, if_pos rfl]
    · have same := kept (by rw [holds, BulkOut.released, if_neg own])
      split
      · rw [if_neg (others x left holds own _ ‹_›)]
        exact same
      · exact same
  all_goals
    rename_i holds
    exact kept (by rw [holds]; rfl)

/-- A change of one entry that keeps its tag is found under it, and under every other tag what was there. -/
theorem State.entryOf_updateEntry (s : State) (t x : Tag) {f : QueueEntry → QueueEntry} (tag : ∀ e, (f e).tag = e.tag) :
    (s.updateEntry t f).entryOf x = (s.entryOf x).map fun e => if e.tag = t then f e else e := by
  rw [State.entryOf, State.updateEntry, State.withQueue_queue, List.find?_map]
  have same : (fun e => decide (e.tag = x)) ∘ (fun e : QueueEntry => if e.tag = t then f e else e) =
      fun e => decide (e.tag = x) := by
    funext e
    simp only [Function.comp_apply]
    split <;> simp [tag]
  rw [same]
  rfl

theorem State.tag_of_entryOf {s : State} {t : Tag} {e : QueueEntry} (found : s.entryOf t = some e) : e.tag = t := by
  simpa using List.find?_some found

/-- An entry of which so many more sectors are done and which ends. -/
def QueueEntry.endedAfter (e : QueueEntry) (done : Nat) (v : Verdict) : QueueEntry :=
  { e with sectorsDone := e.sectorsDone + done, state := .ending, verdict := some v }

/-- The command of a tag ends after so many more sectors, and a data stage of its own is discarded. -/
def State.commandEnds (s : State) (t : Tag) (done : Nat) (v : Verdict) : State :=
  { s with
    queue := s.queue.map fun e => if e.tag = t then e.endedAfter done v else e,
    port := { s.port with bulkOut := s.port.bulkOut.released t } }

/-- Sectors that a segment brought are done. -/
def State.counted (s : State) (t : Tag) (n : Nat) : State :=
  s.updateEntry t fun e => { e with sectorsDone := e.sectorsDone + n }

theorem State.counted_zero (s : State) (t : Tag) : s.counted t 0 = s := by
  have same : (s.queue.map fun e => if e.tag = t then { e with sectorsDone := e.sectorsDone + 0 } else e) = s.queue := by
    conv_rhs => rw [← List.map_id s.queue]
    exact List.map_congr_left fun e _ => by split <;> rfl
  rw [State.counted, State.updateEntry, same]
  rfl

/-- A command whose last sectors are counted ends. -/
theorem State.endEntry_counted {s : State} {t : Tag} {e : QueueEntry} (found : s.entryOf t = some e)
    (others : s.heldByLive t) (n : Nat) (v : Verdict) : (s.counted t n).endEntry t v = s.commandEnds t n v := by
  have tag := State.tag_of_entryOf found
  have ended : ((s.counted t n).updateEntry t fun e => { e with state := .ending, verdict := some v }) =
      s.withQueue (s.queue.map fun e => if e.tag = t then e.endedAfter n v else e) := by
    rw [State.counted, State.updateEntry, State.updateEntry, State.withQueue_queue, List.map_map]
    refine congrArg s.withQueue (List.map_congr_left fun e _ => ?_)
    by_cases own : e.tag = t <;> simp [own, QueueEntry.endedAfter]
  rw [State.endEntry, ended]
  have entry (x : Tag) : (s.withQueue (s.queue.map fun e => if e.tag = t then e.endedAfter n v else e)).entryOf x =
      (s.entryOf x).map fun e => if e.tag = t then e.endedAfter n v else e :=
    s.entryOf_updateEntry t x fun _ => rfl
  refine State.releaseStage_eq (e := e.endedAfter n v) (by rw [entry, found, Option.map_some, if_pos tag]) rfl ?_
  intro x left holds other y found'
  rw [entry] at found'
  obtain ⟨z, held, rfl⟩ := Option.map_eq_some_iff.1 found'
  rw [if_neg (by rw [State.tag_of_entryOf held]; exact other)]
  exact others x left holds other z held

theorem State.endEntry_eq {s : State} {t : Tag} {e : QueueEntry} (found : s.entryOf t = some e)
    (others : s.heldByLive t) (v : Verdict) : s.endEntry t v = s.commandEnds t 0 v := by
  rw [← State.endEntry_counted found others, State.counted_zero]

/-- A command whose stage does not hold the pipe ends, and the pipe stays as it is. -/
theorem State.commandEnds_stageless {s : State} {t : Tag} (stageless : ∀ left, s.port.bulkOut ≠ .writeStage t left)
    (done : Nat) (v : Verdict) : s.commandEnds t done v =
      s.withQueue (s.queue.map fun e => if e.tag = t then e.endedAfter done v else e) := by
  rw [State.commandEnds, BulkOut.released_of_ne stageless]
  rfl

/-! ## Results of a READ's segment -/

/-- The port after a slot's read buffer is freed. -/
def Port.freeBufferOf (p : Port) (m : MediaSlot) : Port :=
  { p with readBuffers := (match m.buffer with
    | some i => p.readBuffers.set i none
    | none => p.readBuffers) }

theorem State.freeBufferOf_eq (s : State) (m : MediaSlot) : s.freeBufferOf m = s.withPort (s.port.freeBufferOf m) := by
  unfold State.freeBufferOf Port.freeBufferOf
  cases m.buffer <;> rfl

/-- A READ that does not go on frees its buffer and ends. -/
theorem State.freed_endEntry {s : State} {m : MediaSlot} {t : Tag} {e : QueueEntry} (found : s.entryOf t = some e)
    (others : s.heldByLive t) (v : Verdict) :
    (s.freeBufferOf m).endEntry t v = (s.withPort (s.port.freeBufferOf m)).commandEnds t 0 v := by
  rw [State.freeBufferOf_eq]
  exact State.endEntry_eq (s := s.withPort (s.port.freeBufferOf m)) found others v

/-- A READ whose unit is closing or claimed ends with the unit's status, its data discarded (R43). -/
theorem State.readResult_closing {s : State} {m : MediaSlot} {e : QueueEntry} {st : Status}
    (closing : s.closingStatus m.unit = some st) (r : MediaResult) :
    s.readResult m e r = (s.freeBufferOf m).endEntry e.tag ⟨st, .none⟩ := by
  unfold State.readResult
  rw [closing]
  rfl

/-- Data of a READ's segment waits in its buffer, and with the last segment the READ ends GOOD (R38). -/
def State.readArrives (s : State) (m : MediaSlot) (e : QueueEntry) (i : Fin 4) (data : List Sector) : State :=
  { s with
    port := { s.port with
      readBuffers := s.port.readBuffers.set i
        (some { tag := e.tag, segment := m.segment, data := some data, sent := 0 }) },
    queue := if e.segments ≤ m.segment then
        s.queue.map fun y =>
          if y.tag = e.tag then { y with state := .ending, verdict := some ⟨.good, .none⟩ } else y
      else s.queue }

theorem State.readResult_serves {s : State} {m : MediaSlot} {e : QueueEntry} {i : Fin 4}
    (serves : s.closingStatus m.unit = none) (buffer : m.buffer = some i) (found : s.entryOf e.tag = some e)
    (stageless : ∀ left, s.port.bulkOut ≠ .writeStage e.tag left) (others : s.heldByLive e.tag) (data : List Sector) :
    s.readResult m e (.ok data) = s.readArrives m e i (s.readData m.unit (e.segmentLba m.segment) data) := by
  unfold State.readResult State.readArrives
  rw [serves]
  dsimp only
  rw [State.fillBuffer, buffer]
  dsimp only
  split
  · rw [State.endEntry_eq (s := s.setBuffer i _) found others,
      State.commandEnds_stageless (s := s.setBuffer i _) stageless]
    rfl
  · rfl

/-! ## Results of a WRITE's or TRIM's segment -/

theorem State.writeResult_counted (s : State) (m : MediaSlot) (e : QueueEntry) (data : List Sector) :
    s.writeResult m e (.ok data) = match s.closingStatus m.unit with
      | some st => (s.counted e.tag m.sectors).endEntry e.tag ⟨st, .none⟩
      | none => if e.segments ≤ m.segment then (s.counted e.tag m.sectors).endEntry e.tag ⟨.good, .none⟩
          else s.counted e.tag m.sectors := by
  unfold State.writeResult
  rfl

/-! ## Units that serve -/

/-- An OPEN SECURE unit, and a CLEAR unit that is not claimed, serve their commands (R43, R44). -/
theorem State.closingStatus_serving {s : State} {u : UnitNo} {d : UnitDef} (defined : s.unitDef u = some d)
    (serves : (d.kind = .secure ∧ s.unitState u = .opened) ∨ (d.kind = .clear ∧ s.unitState u ≠ .erasing)) :
    s.closingStatus u = none := by
  rw [State.closingStatus, defined]
  rcases serves with ⟨kind, opened⟩ | ⟨kind, free⟩ <;> dsimp only <;> rw [kind] <;> dsimp only
  · rw [if_pos opened]
  · rw [if_neg free]

theorem State.closingStatus_closing {s : State} {u : UnitNo} {d : UnitDef} {st : Status} (defined : s.unitDef u = some d)
    (closing : (d.kind = .secure ∧ s.unitState u ≠ .opened ∧ st = .locked) ∨
      (d.kind = .clear ∧ s.unitState u = .erasing ∧ st = .erasing)) : s.closingStatus u = some st := by
  rw [State.closingStatus, defined]
  rcases closing with ⟨kind, closed, rfl⟩ | ⟨kind, erasing, rfl⟩ <;> dsimp only <;> rw [kind] <;> dsimp only
  · rw [if_neg closed]
  · rw [if_pos erasing]

/-! ## Completions -/

/-- A reply that reaches the operation of a host command frees its slot and hands the result to the command. -/
theorem exec_mediaCompletion {s : State} {n : Fin 4} {m : MediaSlot} {t : Tag} {reply : PackageReply} {r : MediaResult}
    (powered : s.power.vbus = true) (slot : s.slots[n] = some m) (outstanding : m.stage = .outstanding)
    (origin : m.origin = .host t) (result : replyResult m reply = some r) :
    exec (.mediaCompletion n reply) s = .next ((s.setSlot n none).hostResult m t r).finish := by
  show execMediaCompletion n reply s = _
  rw [execMediaCompletion, State.act_powered _ powered, (s.linkSlot_eq_some_iff n m).2 ⟨slot, outstanding⟩]
  dsimp only
  rw [result]
  dsimp only
  rw [State.endSlot, slot]
  dsimp only
  rw [State.handResult, origin]

/-- OK brings its sectors: to a READ as many as its segment has. -/
theorem replyResult_ok {m : MediaSlot} {data : List Sector} (fits : m.op = .read → data.length = m.sectors) :
    replyResult m (.ok data) = some (.ok data) := by
  simp only [replyResult]
  rw [if_neg]
  simpa using fits

theorem written_reply {m : MediaSlot} (op : m.op = .write ∨ m.op = .trim) (data : List Sector) :
    replyResult m (.ok data) = some (.ok data) :=
  replyResult_ok fun read => by rcases op with op | op <;> cases op.symm.trans read

theorem State.hostResult_orphan {s : State} {m : MediaSlot} {t : Tag} {e : QueueEntry} (found : s.entryOf t = some e)
    (orphan : e.orphan = true) (r : MediaResult) : s.hostResult m t r = s.dropEntry t := by
  rw [State.hostResult, found]
  exact if_pos orphan

/-- A result reaches a live command by the operation that brought it. -/
theorem State.hostResult_live {s : State} {m : MediaSlot} {t : Tag} {e : QueueEntry} (found : s.entryOf t = some e)
    (live : e.orphan = false) (r : MediaResult) : s.hostResult m t r = match m.op with
      | .read => s.readResult m e r
      | .write | .trim | .patternWrite => s.writeResult m e r
      | .flush => s.endEntry t r.verdict := by
  rw [State.hostResult, found]
  exact if_neg (by simp [live])

theorem State.hostResult_read {s : State} {m : MediaSlot} {t : Tag} {e : QueueEntry} (found : s.entryOf t = some e)
    (live : e.orphan = false) (op : m.op = .read) (r : MediaResult) : s.hostResult m t r = s.readResult m e r := by
  rw [State.hostResult_live found live, op]

theorem State.hostResult_write {s : State} {m : MediaSlot} {t : Tag} {e : QueueEntry} (found : s.entryOf t = some e)
    (live : e.orphan = false) (op : m.op = .write ∨ m.op = .trim) (r : MediaResult) :
    s.hostResult m t r = s.writeResult m e r := by
  rw [State.hostResult_live found live]
  rcases op with op | op <;> rw [op]

theorem State.hostResult_flush {s : State} {m : MediaSlot} {t : Tag} {e : QueueEntry} (found : s.entryOf t = some e)
    (live : e.orphan = false) (op : m.op = .flush) (r : MediaResult) : s.hostResult m t r = s.endEntry t r.verdict := by
  rw [State.hostResult_live found live, op]

/-- What a SECURE unit's sectors hold reaches the buffer: the media data are its ciphertext, sector by sector (R74). -/
theorem State.readData_secure {s : State} {u : UnitNo} {d : UnitDef} {key : CipherKey} {lba : Nat}
    {data plain : List Sector} (defined : s.unitDef u = some d) (kind : d.kind = .secure)
    (held : s.cipher.slots[u].key = some key) (length : plain.length = data.length)
    (ciphertext : ∀ j (hj : j < data.length) (hp : j < plain.length),
      Config.sectorTransform key { generation := d.generation, lba := lba + j } plain[j] = data[j]) :
    s.readData u lba data = plain := by
  have enciphered : data = encipher key d.generation lba plain := by
    refine List.ext_getElem (by simp [encipher, length]) fun j hj _ => ?_
    rw [getElem_encipher, ciphertext j hj (by omega)]
  rw [State.readData, held]
  dsimp only
  rw [if_pos (by simp [State.isSecure, defined, kind]), State.generation, defined, enciphered]
  exact decipher_encipher key d.generation lba plain

theorem State.readData_clear {s : State} {u : UnitNo} {d : UnitDef} (defined : s.unitDef u = some d)
    (kind : d.kind = .clear) (lba : Nat) (data : List Sector) : s.readData u lba data = data := by
  unfold State.readData
  split
  · exact if_neg (by simp [State.isSecure, defined, kind])
  · rfl

/-! ## A completion by the operation that it ends -/

section Completions

variable {s : State} {n : Fin 4} {m : MediaSlot} {e : QueueEntry}

theorem completion_discarded (powered : s.power.vbus = true) (free : s.linkSlot n = none) (reply : PackageReply) :
    exec (.mediaCompletion n reply) s = .next s := by
  show execMediaCompletion n reply s = _
  rw [execMediaCompletion, State.act_powered _ powered, free]

/-- A WRITE, TRIM or SYNC whose operation fails ends MEDIA_ERROR. -/
theorem failed_completion (powered : s.power.vbus = true) (slot : s.slots[n] = some m)
    (outstanding : m.stage = .outstanding) (origin : m.origin = .host e.tag)
    (op : m.op = .write ∨ m.op = .trim ∨ m.op = .flush) (found : s.entryOf e.tag = some e) (live : e.orphan = false)
    (others : s.heldByLive e.tag) :
    exec (.mediaCompletion n .failed) s =
      .next (State.finish ((s.setSlot n none).commandEnds e.tag 0 ⟨.mediaError, .failed⟩)) := by
  have ends : (s.setSlot n none).hostResult m e.tag .failed =
      (s.setSlot n none).commandEnds e.tag 0 ⟨.mediaError, .failed⟩ := by
    rw [State.hostResult_live (s := s.setSlot n none) found live,
      ← State.endEntry_eq (s := s.setSlot n none) found others]
    rcases op with op | op | op <;> rw [op] <;> rfl
  rw [exec_mediaCompletion powered slot outstanding origin rfl, ends]

/-- A segment of a WRITE or TRIM completes: its sectors count, and the command ends when its unit no longer serves it or
the segment was its last. -/
theorem written_completion (powered : s.power.vbus = true) (slot : s.slots[n] = some m)
    (outstanding : m.stage = .outstanding) (origin : m.origin = .host e.tag) (op : m.op = .write ∨ m.op = .trim)
    (found : s.entryOf e.tag = some e) (live : e.orphan = false) (others : s.heldByLive e.tag) (data : List Sector)
    {v : Verdict} (ends : (s.closingStatus m.unit).map Verdict.plain = some v ∨
      s.closingStatus m.unit = none ∧ e.segments ≤ m.segment ∧ v = ⟨.good, .none⟩) :
    exec (.mediaCompletion n (.ok data)) s =
      .next (State.finish ((s.setSlot n none).commandEnds e.tag m.sectors v)) := by
  have result : (s.setSlot n none).writeResult m e (.ok data) =
      ((s.setSlot n none).counted e.tag m.sectors).endEntry e.tag v := by
    rcases ends with closing | ⟨serves, last, rfl⟩
    · obtain ⟨st, status, rfl⟩ := Option.map_eq_some_iff.1 closing
      rw [State.writeResult_counted, show (s.setSlot n none).closingStatus m.unit = some st from status]
      rfl
    · rw [State.writeResult_counted, show (s.setSlot n none).closingStatus m.unit = none from serves]
      exact if_pos last
  rw [exec_mediaCompletion powered slot outstanding origin (written_reply op data),
    State.hostResult_write (s := s.setSlot n none) found live op, result,
    State.endEntry_counted (s := s.setSlot n none) found others]

/-- A segment of a WRITE or TRIM that others follow counts its sectors. -/
theorem counted_completion (powered : s.power.vbus = true) (slot : s.slots[n] = some m)
    (outstanding : m.stage = .outstanding) (origin : m.origin = .host e.tag) (op : m.op = .write ∨ m.op = .trim)
    (found : s.entryOf e.tag = some e) (live : e.orphan = false) (data : List Sector)
    (serves : s.closingStatus m.unit = none) (more : m.segment < e.segments) :
    exec (.mediaCompletion n (.ok data)) s = .next (State.finish ((s.setSlot n none).counted e.tag m.sectors)) := by
  have result : (s.setSlot n none).writeResult m e (.ok data) = (s.setSlot n none).counted e.tag m.sectors := by
    rw [State.writeResult_counted, show (s.setSlot n none).closingStatus m.unit = none from serves]
    exact if_neg (by omega)
  rw [exec_mediaCompletion powered slot outstanding origin (written_reply op data),
    State.hostResult_write (s := s.setSlot n none) found live op, result]

/-- A flush ends its SYNC. -/
theorem flushed_completion (powered : s.power.vbus = true) (slot : s.slots[n] = some m)
    (outstanding : m.stage = .outstanding) (origin : m.origin = .host e.tag) (op : m.op = .flush)
    (found : s.entryOf e.tag = some e) (live : e.orphan = false) (others : s.heldByLive e.tag) (data : List Sector) :
    exec (.mediaCompletion n (.ok data)) s =
      .next (State.finish ((s.setSlot n none).commandEnds e.tag 0 ⟨.good, .none⟩)) := by
  rw [exec_mediaCompletion powered slot outstanding origin (replyResult_ok fun read => by cases op.symm.trans read),
    State.hostResult_flush (s := s.setSlot n none) found live op,
    State.endEntry_eq (s := s.setSlot n none) found others]
  rfl

/-- A READ whose segment fails, or whose unit no longer serves it, frees its buffer and ends. -/
theorem read_ends (powered : s.power.vbus = true) (slot : s.slots[n] = some m) (outstanding : m.stage = .outstanding)
    (origin : m.origin = .host e.tag) (op : m.op = .read) (found : s.entryOf e.tag = some e) (live : e.orphan = false)
    (others : s.heldByLive e.tag) {reply : PackageReply} {r : MediaResult} (result : replyResult m reply = some r)
    {v : Verdict} (ends : (s.closingStatus m.unit).map Verdict.plain = some v ∨
      s.closingStatus m.unit = none ∧ r = .failed ∧ v = ⟨.mediaError, .failed⟩) :
    exec (.mediaCompletion n reply) s = .next (State.finish
      (((s.setSlot n none).withPort (s.port.freeBufferOf m)).commandEnds e.tag 0 v)) := by
  have freed : (s.setSlot n none).readResult m e r = ((s.setSlot n none).freeBufferOf m).endEntry e.tag v := by
    rcases ends with closing | ⟨serves, rfl, rfl⟩
    · obtain ⟨st, status, rfl⟩ := Option.map_eq_some_iff.1 closing
      exact State.readResult_closing (s := s.setSlot n none) status r
    · exact State.readResult_failed (s := s.setSlot n none) serves e nofun
  rw [exec_mediaCompletion powered slot outstanding origin result,
    State.hostResult_read (s := s.setSlot n none) found live op, freed,
    State.freed_endEntry (s := s.setSlot n none) found others]
  rfl

/-- A READ's segment that its unit still serves reaches its buffer. -/
theorem read_arrives (powered : s.power.vbus = true) (slot : s.slots[n] = some m)
    (outstanding : m.stage = .outstanding) (origin : m.origin = .host e.tag) (op : m.op = .read)
    (found : s.entryOf e.tag = some e) (live : e.orphan = false) (serves : s.closingStatus m.unit = none) {i : Fin 4}
    (buffer : m.buffer = some i) {data plain : List Sector} (fits : data.length = m.sectors)
    (stageless : ∀ left, s.port.bulkOut ≠ .writeStage e.tag left) (others : s.heldByLive e.tag)
    (plaintext : s.readData m.unit (e.segmentLba m.segment) data = plain) :
    exec (.mediaCompletion n (.ok data)) s = .next (State.finish ((s.setSlot n none).readArrives m e i plain)) := by
  rw [exec_mediaCompletion powered slot outstanding origin (replyResult_ok fun _ => fits),
    State.hostResult_read (s := s.setSlot n none) found live op,
    State.readResult_serves (s := s.setSlot n none) serves buffer found stageless others, ← plaintext]
  rfl

end Completions

/-- Settles O43. -/
theorem readCompletionDeciphers : Obligations.ReadCompletionDeciphers := by
  intro s n i m e d key data plain powered slot outstanding origin op buffer found live defined kind opened held fits
    stage length ciphertext
  refine read_arrives powered slot outstanding origin op found live
    (State.closingStatus_serving defined (.inl ⟨kind, opened⟩)) buffer fits
    (fun left holds => (stage _ left holds).1 rfl) (fun x left holds _ => (stage x left holds).2) ?_
  exact State.readData_secure defined kind held length ciphertext

/-- Settles O44. -/
theorem completionsEndCommands : Obligations.CompletionsEndCommands := by
  intro s n powered
  refine ⟨completion_discarded powered, fun m e slot out origin op found live others => ?_,
    fun m e d slot out origin op found live defined secure clear more => ?_,
    fun m e data slot out origin found orphan fits reply mem => ?_,
    fun m e d data slot out origin found live defined others => ⟨fun op => ?_, fun serving =>
      ⟨fun op last => ?_, fun op => ?_, fun op kind fits stageless i buffer => ?_⟩,
      fun st closing => ⟨fun op => ⟨?_, fun fits => ?_⟩, fun op => ?_⟩⟩⟩
  · exact failed_completion powered slot out origin op found live others
  · refine counted_completion powered slot out origin op found live [] ?_ more
    refine State.closingStatus_serving defined ?_
    cases kind : d.kind with
    | secure => exact .inl ⟨rfl, secure kind⟩
    | clear => exact .inr ⟨rfl, clear kind⟩
  · have result : ∃ r, replyResult m reply = some r := by
      rcases List.mem_pair.1 mem with rfl | rfl
      · exact ⟨_, rfl⟩
      · exact ⟨_, replyResult_ok fun read => fits.resolve_left fun other => other read⟩
    obtain ⟨r, result⟩ := result
    rw [exec_mediaCompletion powered slot out origin result,
      State.hostResult_orphan (s := s.setSlot n none) found orphan]
    rfl
  · exact flushed_completion powered slot out origin op found live others data
  · exact written_completion powered slot out origin op found live others data
      (.inr ⟨State.closingStatus_serving defined serving, last, rfl⟩)
  · exact read_ends powered slot out origin op found live others rfl
      (.inr ⟨State.closingStatus_serving defined serving, rfl, rfl⟩)
  · exact read_arrives powered slot out origin op found live (State.closingStatus_serving defined serving) buffer fits
      stageless others (State.readData_clear defined kind _ data)
  · exact read_ends powered slot out origin op found live others rfl
      (.inl (by rw [State.closingStatus_closing defined closing]; rfl))
  · exact read_ends powered slot out origin op found live others (replyResult_ok fun _ => fits)
      (.inl (by rw [State.closingStatus_closing defined closing]; rfl))
  · exact written_completion powered slot out origin op found live others data
      (.inl (by rw [State.closingStatus_closing defined closing]; rfl))

end Sys2Proof.Machine
end

section
/-! Closes that timers and the drained signal bring: the idle timer's, the end of a CLOSING unit and the session's (R42, R70,
R71, R141, R143, R145, R151, R152, R154). -/

namespace Sys2Proof.Machine

/-! ## The drained signal -/

/-- A unit that closes unclaimed is LOCKED once it is drained, its key slot EMPTY (R71). -/
theorem State.signalDrained_closing {s : State} {u : UnitNo} (closing : s.unitState u = .closing)
    (unclaimed : (s.unitRun u).claimPending = false) :
    s.signalDrained u = { s with
      units := s.units.set u { s.unitRun u with state := .locked, mode := none, opener := none },
      cipher := { s.cipher with slots := s.cipher.slots.set u ⟨.empty, none⟩ } } := by
  have ended : s.endClose u = { s with
      units := s.units.set u { s.unitRun u with state := .locked, mode := none, opener := none },
      cipher := { s.cipher with slots := s.cipher.slots.set u ⟨.empty, none⟩ } } := by
    have run : { s.unitRun u with
          state := if (s.unitRun u).claimPending then UnitState.erasing else .locked,
          mode := none, opener := none, claimPending := false } =
        { s.unitRun u with state := .locked, mode := none, opener := none } := by simp [unclaimed]
    unfold State.endClose
    rw [if_pos closing, run]
    rfl
  have locked : (s.endClose u).unitState u = .locked := by simp [ended, State.unitState, State.unitRun]
  unfold State.signalDrained State.claimDrained
  rw [if_neg (by simp [locked]), ended]

/-- The drained signal of a CLOSING unit is due when nothing of it is outstanding and all its commands are ended (R31). -/
theorem State.drainDue_closing {s : State} {u : UnitNo} (closing : s.unitState u = .closing) (idle : s.inFlight u = 0)
    (ended : ∀ e ∈ s.queue, e.head.unit.toNat = u.val → e.op.usesMedia = true → e.state = .ending) :
    s.drainDue u = true := by
  have quiet : ∀ e ∈ s.queue, (!(e.names u && e.op.usesMedia) || decide (e.state = .ending)) = true := by
    intro e mem
    by_cases named : e.head.unit.toNat = u.val
    · cases media : e.op.usesMedia
      · simp
      · simp [ended e mem named media]
    · simp [QueueEntry.names, named]
  simpa [State.drainDue, State.drainAwaited, State.unitQuiet, closing, idle] using quiet

/-! ## The close of a unit -/

/-- What a close makes of the queue: the storage entries of the unit end where nothing of them is outstanding (R42). -/
def State.closedQueue (s : State) (u : UnitNo) (st : Status) : List QueueEntry :=
  s.queue.map fun e => if e.names u && e.op.usesMedia then s.closedEntry st e else e

theorem State.releaseStage_port (s : State) : ∃ port, s.releaseStage = s.withPort port := by
  unfold State.releaseStage
  split
  · split
    · split
      · exact ⟨_, rfl⟩
      · exact ⟨s.port, rfl⟩
    · exact ⟨s.port, rfl⟩
  all_goals exact ⟨s.port, rfl⟩

theorem State.endCommands_port (s : State) (u : UnitNo) (st : Status) :
    ∃ port, s.endCommands u st = { s with queue := s.closedQueue u st, port := port } := by
  obtain ⟨port, released⟩ := ((s.withQueue (s.closedQueue u st)).discardBuffered u).releaseStage_port
  exact ⟨port, released⟩

/-- The close of an OPEN unit that is not claimed takes it out of the open order and ends its commands, and leaves the
rest of Unit Control and the store. -/
theorem State.closeUnit_rest {s : State} {u : UnitNo} (c : CloseCause) (opened : s.unitState u = .opened)
    (unclaimed : (s.unitRun u).claimPending = false) :
    (s.closeUnit c u).control = { s.control with openOrder := s.control.openOrder.filter (· ≠ u) } ∧
      (s.closeUnit c u).store = s.store ∧ (s.closeUnit c u).queue = (s.startClose u c).closedQueue u .locked := by
  obtain ⟨port, ended⟩ := (s.startClose u c).endCommands_port u .locked
  unfold State.closeUnit State.drainNow
  rw [if_pos opened, ended]
  split
  · rw [State.signalDrained_closing]
    · exact ⟨rfl, rfl, rfl⟩
    · simp [State.unitState, State.unitRun, State.startClose, State.setUnit, State.setKeySlot, State.place]
    · simpa [State.unitRun, State.startClose, State.setUnit, State.setKeySlot, State.place] using unclaimed
  · exact ⟨rfl, rfl, rfl⟩

/-- A QUEUED storage command of a unit that closes has ended LOCKED (R42). -/
theorem State.mem_closedQueue {s : State} {u : UnitNo} {st : Status} {e : QueueEntry} (mem : e ∈ s.queue)
    (named : e.head.unit.toNat = u.val) (media : e.op.usesMedia = true) (queued : e.state = .queued) :
    ∃ y ∈ s.closedQueue u st, y.tag = e.tag ∧ y.state = .ending ∧ y.verdict = some ⟨st, .none⟩ := by
  have closed : s.closedEntry st e = { e with state := .ending, verdict := some ⟨st, .none⟩ } := by
    unfold State.closedEntry
    rw [if_pos (by simp [queued])]
    rfl
  refine ⟨_, List.mem_map_of_mem mem, ?_⟩
  rw [if_pos (by simp [QueueEntry.names, named, media]), closed]
  exact ⟨rfl, rfl, rfl⟩

/-! ## The session -/

theorem exec_sessionIdleTimerExpiry {s : State} (powered : s.power.vbus = true) (opened : s.control.session = true)
    (timer : s.control.sessionTimer.isSome = true) :
    exec .sessionIdleTimerExpiry s = .next s.closeSession.refreshLeds := by
  show execSessionIdleTimerExpiry s = _
  rw [execSessionIdleTimerExpiry, State.act_powered _ powered, if_pos (by simp [opened, timer])]

/-- A session with no enrollment under way closes alone. -/
theorem State.closeSession_alone {s : State} (opened : s.control.session = true) (free : s.entry.target = none) :
    s.closeSession = s.withControl { s.control with session := false, sessionTimer := none } := by
  unfold State.closeSession
  rw [if_pos opened]
  dsimp only
  rw [if_neg (by simp [State.sessionBound, free])]

/-- A session abandons the enrollment that is bound to it, where it is not committed (R152). -/
theorem State.closeSession_bound {s : State} {g : EnrollTarget} (opened : s.control.session = true)
    (target : s.entry.target = some g) (uncommitted : s.entry.commitPending = false) (bound : g.sessionBound = true) :
    s.closeSession =
      (s.withControl { s.control with session := false, sessionTimer := none }).abandon g.slot .session := by
  unfold State.closeSession
  rw [if_pos opened]
  dsimp only
  rw [if_pos (by simp [State.sessionBound, target, bound]), State.abandonAny]
  simp [State.uncommitted, target, uncommitted]

/-! ## The obligation -/

/-- Settles O47. -/
theorem closesTakeEffect : Obligations.ClosesTakeEffect := by
  intro s powered
  refine ⟨fun u k fit opened timer opener => ?_, fun u closing unclaimed idle ended => ?_, fun session timer free => ?_,
    fun g session timer target uncommitted bound => ?_⟩
  · have unclaimed := fit.not_claimed opened
    obtain ⟨unit, event, others, slots, -⟩ := s.closeUnit_spec .idle u opened unclaimed
    obtain ⟨control, store, queue⟩ := State.closeUnit_rest .idle opened unclaimed
    have leads := (s.closeUnit .idle u).leads_finish
    have closed : (s.closeUnit .idle u).unitState u ≠ .opened := by
      rcases unit.either with ⟨run, -⟩ | ⟨run, -⟩ <;> simp [State.unitState, run]
    refine ⟨(s.closeUnit .idle u).finish, s.closeUnit .idle u, ?_, leads, fun h => closed (leads.opensNothing.1 u h),
      unit, fun v other => (others v other).1, control, by rw [event, opener], store, slots,
      fun e mem named media queued => ?_⟩
    · show execIdleTimerExpiry u s = _
      rw [execIdleTimerExpiry, State.act_powered _ powered, if_pos timer]
    · rw [queue]
      exact State.mem_closedQueue (s := s.startClose u .idle) mem named media queued
  · show execDrained u s = _
    rw [execDrained, State.act_powered _ powered, if_pos (State.drainDue_closing closing idle ended),
      State.signalDrained_closing closing unclaimed]
  · rw [exec_sessionIdleTimerExpiry powered session timer, State.closeSession_alone session free]
    rfl
  · rw [exec_sessionIdleTimerExpiry powered session timer, State.closeSession_bound session target uncommitted bound]
    rfl

end Sys2Proof.Machine
end

section
/-! The Dispatcher: its candidate among the commands, what it issues into a free slot, and the beginning of an operation that
waits (R32 to R35, R40, R48, R49, R169). -/

namespace Sys2Proof.Machine

/-! ## Eligible entries (R32) -/

theorem Op.movesData_iff {op : Op} : op.movesData = true ↔ op = .read ∨ op = .write ∨ op = .trim := by
  cases op <;> simp [Op.movesData]

/-- A READ, WRITE or TRIM alters its unit unless it is a READ. -/
theorem Op.alters_iff {op : Op} (moves : op.movesData = true) : op.alters = true ↔ op ≠ .read := by
  cases op <;> simp [Op.movesData, Op.alters] at *

theorem rangesOverlap_iff {a m b n : Nat} : rangesOverlap a m b n = true ↔ a < b + n ∧ b < a + m := by
  simp [rangesOverlap]

/-- An earlier entry lets a READ, WRITE or TRIM pass unless the two overlap and one of them alters the unit. -/
theorem QueueEntry.holdsBack_eq_false_iff {y x : QueueEntry} (moves : x.op.movesData = true) :
    y.holdsBack x = false ↔
      (y.op = .read ∨ y.op = .write ∨ y.op = .trim → y.state ≠ .ending →
        y.head.unit = x.head.unit → y.op ≠ .read ∨ x.op ≠ .read →
        ¬(y.head.lba.toNat < x.head.lba.toNat + x.head.count.toNat ∧
          x.head.lba.toNat < y.head.lba.toNat + y.head.count.toNat)) := by
  by_cases earlier : y.op.movesData = true
  · rw [← Op.movesData_iff, ← Op.alters_iff earlier, ← Op.alters_iff moves]
    simp only [QueueEntry.holdsBack, earlier, rangesOverlap_iff, QueueEntry.count, ← Bool.not_eq_true, Bool.and_eq_true,
      Bool.or_eq_true, decide_eq_true_eq, true_and, true_implies]
    tauto
  · rw [← Op.movesData_iff]
    simp [QueueEntry.holdsBack, earlier]

/-- A QUEUED entry is ready when it is a READ, WRITE or TRIM that nothing holds back, or a SYNC behind no WRITE. -/
theorem readyAfter_iff {before : List QueueEntry} {x : QueueEntry} :
    readyAfter before x = true ↔ x.state = .queued ∧
      (((x.op = .read ∨ x.op = .write ∨ x.op = .trim) ∧
          ∀ y ∈ before, y.op = .read ∨ y.op = .write ∨ y.op = .trim → y.state ≠ .ending →
            y.head.unit = x.head.unit → y.op ≠ .read ∨ x.op ≠ .read →
            ¬(y.head.lba.toNat < x.head.lba.toNat + x.head.count.toNat ∧
              x.head.lba.toNat < y.head.lba.toNat + y.head.count.toNat)) ∨
        (x.op = .sync ∧ ∀ y ∈ before, y.op = .write → y.head.unit = x.head.unit → y.state = .ending)) := by
  by_cases moves : x.op.movesData = true
  · have passes : readyAfter before x = true ↔ x.state = .queued ∧ ∀ y ∈ before, y.holdsBack x = false := by
      rcases Op.movesData_iff.1 moves with op | op | op <;> simp [readyAfter, op]
    have notSync : x.op ≠ .sync := by rintro op; simp [op, Op.movesData] at moves
    rw [passes, ← Op.movesData_iff]
    simp only [QueueEntry.holdsBack_eq_false_iff moves, moves, notSync, true_and, false_and, or_false]
  · rw [← Op.movesData_iff]
    cases op : x.op <;> simp [readyAfter, op, Op.movesData] at moves ⊢

/-- An ACTIVE command has its next segment due when segments are left and nothing of it is outstanding. -/
theorem State.isDue_iff {s : State} {x : QueueEntry} :
    s.isDue x = true ↔ x.state = .active ∧ (x.op = .read ∨ x.op = .write ∨ x.op = .trim) ∧ x.orphan = false ∧
      x.segmentsIssued < x.segments ∧ ∀ (n : Fin 4) (m : MediaSlot), s.slots[n] = some m → m.origin ≠ .host x.tag := by
  have idle : s.hasOutstanding x.tag = false ↔
      ∀ (n : Fin 4) (m : MediaSlot), s.slots[n] = some m → m.origin ≠ .host x.tag := by
    rw [← Bool.not_eq_true, s.hasOutstanding_iff]
    push Not
    rfl
  simp only [State.isDue, Bool.and_eq_true, decide_eq_true_eq, Bool.not_eq_true', ← Op.movesData_iff, idle]
  tauto

/-! ## Read buffers (R34) -/

theorem State.freeBuffers_eq (s : State) :
    s.freeBuffers = (Finset.univ.filter fun n : Fin 4 => s.port.readBuffers[n] = none).card := by
  simp only [State.freeBuffers]
  rfl

theorem State.freeBuffers_pos {s : State} : 1 ≤ s.freeBuffers ↔ ∃ n : Fin 4, s.port.readBuffers[n] = none := by
  rw [State.freeBuffers_eq, Nat.one_le_iff_ne_zero, ← Nat.pos_iff_ne_zero, Finset.card_pos]
  simp [Finset.Nonempty]

theorem State.two_le_freeBuffers {s : State} : 2 ≤ s.freeBuffers ↔
    ∃ n m : Fin 4, n ≠ m ∧ s.port.readBuffers[n] = none ∧ s.port.readBuffers[m] = none := by
  rw [State.freeBuffers_eq]
  refine Finset.one_lt_card_iff.trans ?_
  simp only [Finset.mem_filter, Finset.mem_univ, true_and]
  exact exists₂_congr fun n m => by tauto

theorem State.bufferAvailable_iff {s : State} {x : QueueEntry} :
    s.bufferAvailable x = true ↔ (x.op = .read → (s.headTag = some x.tag → ∃ n : Fin 4, s.port.readBuffers[n] = none) ∧
      (s.headTag ≠ some x.tag →
        ∃ n m : Fin 4, n ≠ m ∧ s.port.readBuffers[n] = none ∧ s.port.readBuffers[m] = none)) := by
  rw [← State.freeBuffers_pos, ← State.two_le_freeBuffers]
  by_cases head : s.headTag = some x.tag <;> by_cases read : x.op = .read <;> simp [State.bufferAvailable, head, read]

/-! ## The candidate (R33) -/

/-- An entry behind others is work that passes a test. -/
def State.isWork (s : State) (ok : QueueEntry → Bool) (before : List QueueEntry) (x : QueueEntry) : Prop :=
  ((readyAfter before x || s.isDue x) && ok x) = true

/-- The work found is the first of the queue. -/
theorem State.findWork_eq_some_iff {s : State} {ok : QueueEntry → Bool} {e : QueueEntry} {q : List QueueEntry} :
    ∀ {earlier : List QueueEntry}, s.findWork ok earlier q = some e ↔
      ∃ before after, q = before ++ e :: after ∧ s.isWork ok (earlier ++ before) e ∧
        ∀ first x rest, before = first ++ x :: rest → ¬ s.isWork ok (earlier ++ first) x := by
  induction q with
  | nil => simp [State.findWork]
  | cons y ys ih =>
    intro earlier
    unfold State.findWork
    split
    · rename_i work
      constructor
      · rintro ⟨⟩
        exact ⟨[], ys, rfl, by simpa [State.isWork] using work, by simp⟩
      · rintro ⟨before, after, queue, -, oldest⟩
        cases before with
        | nil => cases queue; rfl
        | cons z zs =>
          cases queue
          exact absurd (by simpa [State.isWork] using work) (oldest [] y zs rfl)
    · rename_i idle
      rw [ih]
      constructor
      · rintro ⟨before, after, rfl, work, oldest⟩
        refine ⟨y :: before, after, rfl, by simpa using work, fun first x rest split => ?_⟩
        cases first with
        | nil => cases split; simpa [State.isWork] using idle
        | cons z zs => cases split; simpa using oldest zs x rest rfl
      · rintro ⟨before, after, queue, work, oldest⟩
        cases before with
        | nil => cases queue; exact absurd (by simpa [State.isWork] using work) idle
        | cons z zs =>
          cases queue
          refine ⟨zs, after, rfl, by simpa using work, fun first x rest split => ?_⟩
          simpa using oldest (y :: first) x rest (by rw [split]; rfl)

/-! ## Issue (R33, R34) -/

/-- Into a free slot goes the first work of the Dispatcher, with no more need than the rail already follows. -/
theorem exec_segmentIssue {s x : State} (powered : s.power.vbus = true) (followed : s.rail.follow s.need = s.rail)
    (issue : s.nextIssue = some x) : exec .segmentIssue s = .next (State.finish (State.fillSlots 3 x)) := by
  have unchanged : s.followNeed = s := by rw [State.followNeed, followed]; rfl
  show execSegmentIssue s = _
  rw [execSegmentIssue, State.act_powered _ powered, unchanged, State.fillSlots, issue]

/-- A command's segment is issued where no erase segment is presented, or the command is not younger. -/
theorem State.nextIssue_host {s : State} {n : Fin 4} {e : QueueEntry} (ready : s.mediaReady = true)
    (free : s.freeSlot = some n) (work : s.findWork s.bufferAvailable [] s.queue = some e)
    (older : s.presented = none ∨ e.age ≤ s.erase.workAge) : s.nextIssue = some (s.issueHost n e) := by
  simp only [State.nextIssue, ready, free, work]
  cases presented : s.presented with
  | none => rfl
  | some j =>
    have old := older.resolve_left (by simp [presented])
    exact congrArg some (if_neg (by omega))

/-- An erase segment is issued where it is presented and every command that could be issued is younger. -/
theorem State.nextIssue_erase {s : State} {n : Fin 4} {j : EraseJob} (ready : s.mediaReady = true)
    (free : s.freeSlot = some n) (presented : s.presented = some j)
    (younger : ∀ e, s.findWork s.bufferAvailable [] s.queue = some e → s.erase.workAge < e.age) :
    s.nextIssue = some (s.issueErase n j) := by
  simp only [State.nextIssue, ready, free, presented]
  cases work : s.findWork s.bufferAvailable [] s.queue with
  | none => rfl
  | some e => exact congrArg some (if_pos (younger e work))

/-- The entry of a command whose next segment is issued, or whose flush. -/
def QueueEntry.afterIssue (e : QueueEntry) : QueueEntry :=
  { e with state := .active, segmentsIssued := e.segmentsIssued + 1 }

/-- The issue of a command's segment sets the slot and the entry, and of the port the buffer that a READ takes. -/
theorem State.issueHost_spec (s : State) (n : Fin 4) (e : QueueEntry) : ∃ port,
    s.issueHost n e = { s with
      slots := s.slots.set n (some (e.issued s.freeBuffer)),
      queue := s.queue.map fun y => if y.tag = e.tag then y.afterIssue else y,
      port := port } ∧
    (e.op ≠ .read → port = s.port) ∧
    (e.op = .read → ∀ b, s.freeBuffer = some b → port = { s.port with
      readBuffers := s.port.readBuffers.set b
        (some { tag := e.tag, segment := e.segmentsIssued + 1, data := none, sent := 0 }) }) := by
  unfold State.issueHost
  split
  · rename_i b read free
    exact ⟨_, rfl, fun other => absurd read other, fun _ b' free' => by cases free.symm.trans free'; rfl⟩
  · rename_i other
    exact ⟨_, rfl, fun _ => rfl, fun read b free => absurd free (other b read)⟩

/-- A segment presented for a descriptor in WORKING, or for a rerun. -/
theorem State.presented_eq {s : State} {u : UnitNo} {w : EraseWork} {p : ErasePhase} {covered : Nat}
    (stands : s.erase.segment = .presented) (running : s.erase.state = .running)
    (job : (s.erase.rerun = none ∧ s.erase.stage = .working ∧ ∃ c, s.currentDescriptor = some c ∧ c.unit = u ∧
        c.work = w ∧ c.phase = some p ∧ c.sectorsDone = covered) ∨
      (∃ r, s.erase.rerun = some r ∧ r.stage = .working ∧ r.unit = u ∧ r.work = w ∧ r.phase = p ∧
        r.sectorsDone = covered)) : s.presented = some ⟨u, w, p, covered⟩ := by
  rw [State.presented, if_pos (by simp [stands, running])]
  rcases job with ⟨rerun, working, c, current, rfl, rfl, phase, rfl⟩ | ⟨r, rerun, working, rfl, rfl, rfl, rfl⟩
  · simp [State.eraseJob, rerun, working, current, phase]
  · simp [State.eraseJob, rerun, working]

/-! ## The obligation -/

/-- Settles O42. -/
theorem dispatcherIssuesAndBegins : Obligations.DispatcherIssuesAndBegins := by
  refine ⟨fun s e => ?_, fun s n powered followed link on free => ⟨fun e work older => ?_,
    fun u w p covered d g stands running job defined range younger => ?_⟩, fun s n m powered slot waits link on => ?_⟩
  · simp only [State.findWork_eq_some_iff, State.isWork, List.nil_append, Bool.and_eq_true, Bool.or_eq_true,
      readyAfter_iff, State.isDue_iff, State.bufferAvailable_iff]
  · obtain ⟨port, issued, other, read⟩ := s.issueHost_spec n e
    refine ⟨s.issueHost n e, exec_segmentIssue powered followed (State.nextIssue_host ?_ free work older), ?_⟩
    · simp [State.mediaReady, link, on]
    · rw [issued]
      exact ⟨rfl, rfl, rfl, rfl, rfl, rfl, rfl, other, read⟩
  · have presented := State.presented_eq stands running job
    rw [exec_segmentIssue powered followed
      (State.nextIssue_erase (by simp [State.mediaReady, link, on]) free presented younger)]
    simp only [State.issueErase, State.eraseSlot, EraseJob.sectors, EraseWork.segmentSize, EraseWork.count,
      EraseWork.start, defined, range, EraseJob.op, EraseJob.pattern]
    cases w.method <;> cases p <;> rfl
  · show execOperationBegin n s = _
    rw [execOperationBegin, State.act_powered _ powered, slot]
    dsimp only
    rw [if_pos (by simp [State.mediaReady, link, on, waits])]
    rfl

end Sys2Proof.Machine
end

section
/-! The records that the part forms, field by field at its offset: the status record, event entries, and the data of EVENT
READ, STATUS and UNIT INFO (R23, R213, R215, R224, R225, R228 to R231). -/

namespace Sys2Proof.Machine

/-! ## Parts of a record -/

/-- Some bytes stand at an offset of others. -/
def standsAt (part : List Byte) (n : Nat) (b : List Byte) : Prop :=
  ∃ before after, b = before ++ (part ++ after) ∧ before.length = n

theorem byteAt_append_left {a : List Byte} {i : Nat} (h : i < a.length) (b : List Byte) :
    byteAt (a ++ b) i = byteAt a i := by
  simp [byteAt, List.getElem?_append_left h]

theorem fieldAt_append_left {a : List Byte} (b : List Byte) {k : Nat} :
    ∀ {i : Nat}, i + k ≤ a.length → fieldAt (a ++ b) i k = fieldAt a i k := by
  induction k with
  | zero => intros; rfl
  | succ k ih =>
    intro i h
    simp only [fieldAt, byteAt_append_left (show i < a.length by omega) b, ih (show i + 1 + k ≤ a.length by omega)]

namespace standsAt

variable {part b c : List Byte} {n m : Nat}

theorem byte (h : standsAt part n b) {i : Nat} (inside : i < part.length) : byteAt b (n + i) = byteAt part i := by
  obtain ⟨before, after, rfl, rfl⟩ := h
  rw [byteAt_append rfl, byteAt_append_left inside]

theorem field (h : standsAt part n b) {i k : Nat} (inside : i + k ≤ part.length) :
    fieldAt b (n + i) k = fieldAt part i k := by
  obtain ⟨before, after, rfl, rfl⟩ := h
  rw [fieldAt_append rfl, fieldAt_append_left after inside]

theorem bytes (h : standsAt part n b) : (b.drop n).take part.length = part := by
  obtain ⟨before, after, rfl, rfl⟩ := h
  rw [List.drop_left, List.take_left]

/-- What stands in a part stands in the whole. -/
theorem trans (inner : standsAt part m c) (outer : standsAt c n b) : standsAt part (n + m) b := by
  obtain ⟨before, after, rfl, rfl⟩ := outer
  obtain ⟨first, last, rfl, rfl⟩ := inner
  exact ⟨before ++ first, last ++ after, by simp, List.length_append⟩

theorem middle {a : List Byte} (length : a.length = n) (part rest : List Byte) :
    standsAt part n (a ++ (part ++ rest)) := ⟨a, rest, rfl, length⟩

/-- Behind some bytes stands what stands in the rest. -/
theorem behind (h : standsAt part m b) {a : List Byte} (length : a.length = n) : standsAt part (n + m) (a ++ b) := by
  obtain ⟨before, after, rfl, rfl⟩ := h
  exact ⟨a ++ before, after, by simp, by rw [List.length_append, length]⟩

end standsAt

/-! ## Equal parts in a row -/

theorem length_flatMap_of {α : Type} {f : α → List Byte} {k : Nat} (length : ∀ x, (f x).length = k) (l : List α) :
    (l.flatMap f).length = k * l.length := by
  simp [List.length_flatMap, length, Nat.mul_comm]

/-- Parts of one length stand at its multiples. -/
theorem standsAt_flatMap {α : Type} {f : α → List Byte} {k : Nat} (length : ∀ x, (f x).length = k) (l : List α) {i : Nat}
    (h : i < l.length) : standsAt (f l[i]) (k * i) (l.flatMap f) := by
  refine ⟨(l.take i).flatMap f, (l.drop (i + 1)).flatMap f, ?_, ?_⟩
  · rw [← List.flatMap_cons, ← List.flatMap_append, List.getElem_cons_drop, List.take_append_drop]
  · rw [length_flatMap_of length, List.length_take, Nat.min_eq_left h.le]

/-! ## Fields and codes (R224) -/

/-- A field of any length reads back as its bytes carry it. -/
theorem fieldAt_fieldOf_mod (k v : Nat) : fieldAt (fieldOf k v) 0 k = v % 256 ^ k := by
  induction k generalizing v with
  | zero => simp [fieldAt, Nat.mod_one]
  | succ k ih =>
    have rest : fieldAt (fieldOf (k + 1) v) 1 k = fieldAt (fieldOf k (v / 256)) 0 k :=
      fieldAt_append (a := [byteOf v]) (n := 1) (i := 0) rfl k
    have first : byteAt (fieldOf (k + 1) v) 0 = v % 256 := by simp [byteAt, fieldOf, byteOf]
    rw [fieldAt, rest, ih, first, pow_succ', Nat.mod_mul]

theorem toNat_flagOf (b : Bool) : (flagOf b).toNat = if b then 1 else 0 := by cases b <;> rfl

theorem toNat_byteOf_mod (n : Nat) : (byteOf n).toNat = n % 256 := by simp [byteOf]

theorem length_padTo (n : Nat) (b : List Byte) : (padTo n b).length = n := by simp [padTo, reserved]

/-- Bytes that fit are filled with 00h. -/
theorem padTo_eq {n : Nat} {b : List Byte} (fits : b.length ≤ n) : padTo n b = b ++ List.replicate (n - b.length) 0 := by
  simp [padTo, reserved, List.take_append, List.take_of_length_le fits]

theorem byteAt_absent {n i : Nat} (h : i < n) : byteAt (absentField n) i = 0xFF := by
  simp [byteAt, absentField, h]

/-- Where a field is absent, each of its bytes is FFh. -/
theorem standsAt.absent {b : List Byte} {k n i : Nat} (h : standsAt (absentField k) n b) (low : n ≤ i)
    (high : i < n + k) : byteAt b i = 0xFF := by
  obtain ⟨j, rfl⟩ := Nat.exists_eq_add_of_le low
  rw [h.byte (by simp [absentField]; omega), byteAt_absent (by omega)]

theorem kind_code_mem (k : UnitKind) : (k, k.code.toNat) ∈ [(UnitKind.secure, 0x00), (.clear, 0x01)] := by
  cases k <;> decide

theorem unitState_code_mem (x : UnitState) : (x, x.code.toNat) ∈
    [(UnitState.locked, 0x00), (.opened, 0x01), (.closing, 0x02), (.erasing, 0x03)] := by
  cases x <;> decide

theorem mode_code_mem (m : Mode) : (m, m.code.toNat) ∈ [(Mode.readOnly, 0x00), (.readWrite, 0x01)] := by
  cases m <;> decide

/-! ## Unit bytes -/

/-- An OPEN or CLOSING unit reports its mode and its opener, and no other does. -/
theorem UnitRun.reported_iff {r : UnitRun} : r.reported = true ↔ r.state = .opened ∨ r.state = .closing := by
  simp [UnitRun.reported]

theorem UnitRun.not_reported {r : UnitRun} (h : r.state = .locked ∨ r.state = .erasing) : ¬ r.reported = true := by
  rw [UnitRun.reported_iff]
  rcases h with h | h <;> simp [h]

theorem UnitRun.modeByte_reported {r : UnitRun} (h : r.state = .opened ∨ r.state = .closing) :
    r.modeByte = optByte Mode.code r.mode := if_pos (UnitRun.reported_iff.2 h)

theorem UnitRun.modeByte_absent {r : UnitRun} (h : r.state = .locked ∨ r.state = .erasing) : r.modeByte = 0xFF :=
  if_neg (UnitRun.not_reported h)

theorem State.length_unitStatusBytes (s : State) (u : UnitNo) : (s.unitStatusBytes u).length = 8 := by
  unfold State.unitStatusBytes
  split <;> rfl

/-- The eight bytes of a defined unit in STATUS. -/
def UnitDef.statusBytes (d : UnitDef) (r : UnitRun) : List Byte :=
  [0x01, d.kind.code, r.state.code, r.modeByte] ++ fieldOf 2 d.generation ++ [flagOf r.unusable] ++ reserved 1

theorem State.unitStatusBytes_defined {s : State} {u : UnitNo} {d : UnitDef} (defined : s.unitDef u = some d) :
    s.unitStatusBytes u = d.statusBytes (s.unitRun u) := by
  rw [State.unitStatusBytes, defined]
  rfl

theorem State.unitStatusBytes_undefined {s : State} {u : UnitNo} (undefined : s.unitDef u = none) :
    s.unitStatusBytes u = [0x00] ++ (absentField 6 ++ reserved 1) := by
  rw [State.unitStatusBytes, undefined]
  rfl

theorem length_labelBytes (l : Option (List Byte)) : (labelBytes l).length = 17 := by
  cases l with
  | none => rfl
  | some cs => rw [labelBytes, List.length_cons, length_padTo]

/-- The range bytes of a marker: start and count, or absent. -/
def rangeBytes : Option EraseRange → List Byte
  | some r => fieldOf 4 r.start ++ fieldOf 4 r.count
  | none => absentField 8

theorem length_rangeBytes (r : Option EraseRange) : (rangeBytes r).length = 8 := by cases r <;> rfl

theorem markerBytes_some (w : EraseWork) : markerBytes (some w) =
    [w.method.code, flagOf w.range.isSome] ++ (rangeBytes w.range ++
      ([byteOf w.passes.length] ++ (padTo 4 w.passes ++ ([flagOf w.verify] ++ [])))) := by
  unfold markerBytes rangeBytes
  cases range : w.range <;> simp [range]

theorem length_markerBytes (w : Option EraseWork) : (markerBytes w).length = 16 := by
  cases w with
  | none => rfl
  | some w => simp [markerBytes_some, length_rangeBytes, length_padTo]

/-- The first 19 bytes of UNIT INFO for a defined unit. -/
def UnitDef.infoHead (d : UnitDef) (r : UnitRun) : List Byte :=
  [0x01, d.kind.code, r.state.code, r.modeByte,
    if r.reported then optByte (fun k : SlotNo => byteOf k.val) r.opener else 0xFF] ++
    fieldOf 4 d.base ++ fieldOf 4 d.length ++ fieldOf 2 d.generation ++
    [flagOf d.honorWp, byteOf d.idleTimeout, flagOf d.lockOnSuspend, flagOf r.unusable]

theorem State.unitInfoContent_defined {s : State} {u : UnitNo} {d : UnitDef} (defined : s.unitDef u = some d) :
    s.unitInfoContent u = d.infoHead (s.unitRun u) ++
      (labelBytes d.label ++ ([flagOf d.marker.isSome] ++ (markerBytes d.marker ++ []))) := by
  unfold State.unitInfoContent UnitDef.infoHead
  rw [defined]
  simp only [List.append_assoc, List.append_nil]

theorem State.length_unitInfoContent (s : State) (u : UnitNo) : (s.unitInfoContent u).length = 53 := by
  cases defined : s.unitDef u with
  | none => simp [State.unitInfoContent, defined, absentField]
  | some d =>
    rw [State.unitInfoContent_defined defined]
    simp [UnitDef.infoHead, fieldOf, length_labelBytes, length_markerBytes]

/-! ## The blocks of STATUS -/

/-- Bytes 0 to 17: the device, the entry, power, the link and the erase engine. -/
def State.statusHead (s : State) : List Byte :=
  [s.deviceCode, flagOf s.control.session, byteOf s.reportedFailed, s.entry.state.code] ++
    fieldOf 2 s.penaltyRemaining ++
    [flagOf s.scanner.switchOn, flagOf s.need, s.rail.state.code, s.link.state.code] ++
    fieldOf 4 s.reportedCapacity ++
    [s.erase.state.code, byteOf s.erase.current.val, byteOf s.erase.tail.val, flagOf s.erase.internal.isSome]

/-- Bytes 24 to 31: the latch and the events. -/
def State.statusEvents (s : State) : List Byte :=
  [flagOf s.reportedLatch, byteOf s.events.entries.length, flagOf s.events.lost] ++ reserved 5

/-- Bytes 96 to 103: the key slots. -/
def State.keySlotBytes (s : State) : List Byte := (List.finRange 8).map fun u => s.cipher.slots[u].state.code

theorem State.statusContent_eq (s : State) : s.statusContent =
    s.statusHead ++ (s.phaseBytes ++ (s.statusEvents ++ ((List.finRange 8).flatMap s.unitStatusBytes ++
      (s.keySlotBytes ++ ((List.finRange 4).flatMap s.channelStatusBytes ++ s.store.image.policy.bytes))))) := by
  simp only [State.statusContent, State.statusHead, State.statusEvents, State.keySlotBytes, List.append_assoc]

theorem State.length_statusHead (s : State) : s.statusHead.length = 18 := rfl

theorem State.length_channelStatusBytes (s : State) (n : Fin 4) : (s.channelStatusBytes n).length = 4 := rfl

theorem State.length_phaseBytes (s : State) : s.phaseBytes.length = 6 := by
  unfold State.phaseBytes
  split <;> rfl

theorem State.length_unitsBytes (s : State) : ((List.finRange 8).flatMap s.unitStatusBytes).length = 64 := by
  rw [length_flatMap_of s.length_unitStatusBytes, List.length_finRange]

theorem State.length_channelsBytes (s : State) : ((List.finRange 4).flatMap s.channelStatusBytes).length = 16 := by
  rw [length_flatMap_of s.length_channelStatusBytes, List.length_finRange]

theorem State.length_keySlotBytes (s : State) : s.keySlotBytes.length = 8 := by simp [State.keySlotBytes]

theorem Policy.length_bytes (p : Policy) : p.bytes.length = 32 := by
  simp [Policy.bytes, fieldOf, reserved, length_flatMap_of (f := ChannelPolicy.bytes) (k := 5) fun _ => rfl]

theorem State.length_statusContent (s : State) : s.statusContent.length = 152 := by
  simp only [State.statusContent_eq, List.length_append, s.length_phaseBytes, s.length_unitsBytes,
    s.length_channelsBytes, s.length_keySlotBytes, Policy.length_bytes]
  rfl

section Blocks

variable (s : State)

theorem State.head_standsAt : standsAt s.statusHead 0 s.statusContent := by
  rw [s.statusContent_eq]
  exact .middle (a := []) rfl _ _

theorem State.phase_standsAt : standsAt s.phaseBytes 18 s.statusContent := by
  rw [s.statusContent_eq]
  exact .middle rfl _ _

theorem State.events_standsAt : standsAt s.statusEvents 24 s.statusContent := by
  rw [s.statusContent_eq]
  exact (standsAt.middle s.length_phaseBytes _ _).behind rfl

theorem State.units_standsAt (u : UnitNo) : standsAt (s.unitStatusBytes u) (32 + 8 * u.val) s.statusContent := by
  have row := standsAt_flatMap s.length_unitStatusBytes (List.finRange 8) (i := u.val) (by simp)
  rw [List.getElem_finRange] at row
  refine row.trans ?_
  rw [s.statusContent_eq]
  exact ((standsAt.middle (n := 8) rfl _ _).behind s.length_phaseBytes).behind rfl

theorem State.keys_standsAt : standsAt s.keySlotBytes 96 s.statusContent := by
  rw [s.statusContent_eq]
  exact (((standsAt.middle s.length_unitsBytes _ _).behind (n := 8) rfl).behind s.length_phaseBytes).behind rfl

theorem State.channels_standsAt (n : Fin 4) : standsAt (s.channelStatusBytes n) (104 + 4 * n.val) s.statusContent := by
  have row := standsAt_flatMap s.length_channelStatusBytes (List.finRange 4) (i := n.val) (by simp)
  rw [List.getElem_finRange] at row
  refine row.trans ?_
  rw [s.statusContent_eq]
  exact ((((standsAt.middle s.length_keySlotBytes _ _).behind s.length_unitsBytes).behind (n := 8) rfl).behind
    s.length_phaseBytes).behind rfl

theorem State.drop_statusContent : s.statusContent.drop 120 = s.store.image.policy.bytes := by
  have split : s.statusContent = (s.statusHead ++ (s.phaseBytes ++ (s.statusEvents ++
      ((List.finRange 8).flatMap s.unitStatusBytes ++ (s.keySlotBytes ++
        (List.finRange 4).flatMap s.channelStatusBytes))))) ++ s.store.image.policy.bytes := by
    rw [s.statusContent_eq]
    simp only [List.append_assoc]
  rw [split]
  refine List.drop_left' ?_
  simp only [List.length_append, s.length_phaseBytes, s.length_unitsBytes, s.length_channelsBytes,
    s.length_keySlotBytes]
  rfl

end Blocks

end Sys2Proof.Machine
end

section
/-! The layouts of the records that the part forms, field by field (R224, R225, R228 to R231). -/

namespace Sys2Proof.Machine

/-! ## The status record and the event entries -/

theorem status_code_mem (st : Status) : (st, st.code.toNat) ∈
    [(Status.good, 0x00), (.notReady, 0x01), (.noUnit, 0x02), (.outOfRange, 0x03), (.locked, 0x04), (.erasing, 0x05),
      (.writeProtected, 0x06), (.mediaError, 0x07), (.invalid, 0x08), (.tagInUse, 0x09), (.denied, 0x0A),
      (.unitBusy, 0x0B), (.overlap, 0x0C), (.listBusy, 0x0E), (.tailInvalid, 0x0F)] := by
  cases st <;> decide

theorem detail_code_mem (d : Detail) : (d, d.code.toNat) ∈
    [(Detail.none, 0x00), (.failed, 0x01), (.timeout, 0x02), (.reset, 0x03), (.power, 0x04)] := by
  cases d <;> decide

theorem StatusRecord.residue_field (r : StatusRecord) : fieldAt r.bytes 4 4 = r.residue % 2 ^ 32 := by
  have field : fieldAt r.bytes 4 4 = fieldAt (fieldOf 4 r.residue ++ reserved 8) 0 4 :=
    fieldAt_append (a := [r.tag, r.status.code, r.detail.code] ++ reserved 1) (n := 4) (i := 0) rfl 4
  rw [field, fieldAt_append_left _ (by rfl)]
  exact fieldAt_fieldOf_mod 4 r.residue

theorem StatusRecord.reserved_field (r : StatusRecord) : fieldAt r.bytes 8 8 = 0 := by
  have field : fieldAt r.bytes 8 8 = fieldAt (reserved 8) 0 8 :=
    fieldAt_append (a := [r.tag, r.status.code, r.detail.code] ++ reserved 1 ++ fieldOf 4 r.residue) (n := 8) (i := 0)
      rfl 8
  rw [field]
  decide

theorem length_eventBytes (e : Event) : e.bytes.length = 8 := by
  simp [Event.bytes, length_padTo]

theorem closeCause_code : ∀ p ∈ [(CloseCause.lockKey, 0x00), (.lockCommand, 0x01), (.idle, 0x02), (.suspend, 0x03),
    (.temperature, 0x04), (.enclosure, 0x05), (.erase, 0x06), (.internal, 0x07)],
    p.1.code = (BitVec.ofNat 8 p.2 : Byte) := by decide

theorem abandonReason_code : ∀ p ∈ [(AbandonReason.short, 0x00), (.mismatch, 0x01), (.pinInUse, 0x02), (.timeout, 0x03),
    (.lock, 0x04), (.alarm, 0x05), (.session, 0x06), (.removed, 0x07)],
    p.1.code = (BitVec.ofNat 8 p.2 : Byte) := by decide

theorem outcome_code : ∀ p ∈ [(Outcome.good, 0x00), (.zeroLength, 0x01), (.noUnit, 0x02), (.outOfRange, 0x03),
    (.invalidMethod, 0x04), (.stale, 0x05), (.mediaError, 0x06), (.verifyMismatch, 0x07), (.genExhausted, 0x08),
    (.aborted, 0x09), (.preempted, 0x0A)], p.1.code = (BitVec.ofNat 8 p.2 : Byte) := by decide

theorem clearDetail_code : ∀ p ∈ [(ClearDetail.inRange, 0x00), (.disabled, 0x01), (.cleared, 0x02)],
    p.1.code = (BitVec.ofNat 8 p.2 : Byte) := by decide

theorem mediaOp_code : ∀ p ∈ [(MediaOp.read, 0x00), (.write, 0x01), (.trim, 0x02), (.patternWrite, 0x03), (.flush, 0x04)],
    p.1.code = (BitVec.ofNat 8 p.2 : Byte) := by decide

/-- The entries of EVENT READ stand behind eight bytes, eight bytes each. -/
theorem entries_standAt (es : List Event) (lost : Bool) {n : Nat} (h : n < es.length) :
    standsAt es[n].bytes (8 + 8 * n) (eventReadContent es lost) :=
  (standsAt_flatMap length_eventBytes es h).behind rfl

theorem eventReserved_field (es : List Event) (lost : Bool) : fieldAt (eventReadContent es lost) 2 6 = 0 := by
  have place : standsAt (reserved 6) 2 (eventReadContent es lost) :=
    ⟨[byteOf es.length, flagOf lost], es.flatMap Event.bytes, by simp [eventReadContent], rfl⟩
  rw [show fieldAt (eventReadContent es lost) 2 6 = fieldAt (reserved 6) 0 6 from place.field (i := 0) (by decide)]
  decide

/-! ## STATUS -/

theorem State.deviceCode_eq (s : State) :
    s.deviceCode.toNat = if s.power.startUp ≠ .done then 0 else if s.factory then 2 else 1 := by
  unfold State.deviceCode
  by_cases done : s.power.startUp = .done <;> cases s.factory <;> simp [State.configuring, done]

/-- The penalty remaining lies between 1 and the timer's length. -/
theorem State.penaltyRemaining_bounds {s : State} {d : Nat} (phase : s.attempt.phase = .penalty)
    (timer : s.attempt.penaltyTimer = some d) (positive : 0 < d) :
    1 ≤ s.penaltyRemaining ∧ s.penaltyRemaining ≤ d := by
  have below := Nat.mod_lt (Config.penaltyElapsed s.draws) positive
  simp only [State.penaltyRemaining, phase, timer]
  omega

theorem State.penaltyRemaining_outside {s : State} (phase : s.attempt.phase ≠ .penalty) : s.penaltyRemaining = 0 := by
  unfold State.penaltyRemaining
  split
  · exact absurd ‹_› phase
  · rfl

theorem State.reportedCapacity_absent {s : State} (h : s.link.state = .sizing ∨ s.link.state = .absent) :
    s.reportedCapacity = 0 := by
  rcases h with h | h <;> simp [State.reportedCapacity, h]

theorem State.reportedCapacity_known {s : State} {m : Nat} (h : s.link.state = .ready ∨ s.link.state = .resetting)
    (capacity : s.link.capacity = some m) : s.reportedCapacity = m := by
  rcases h with h | h <;> simp [State.reportedCapacity, h, capacity]

theorem entry_code_mem (x : EntryCtl) : (x, x.code.toNat) ∈ [(EntryCtl.disabled, 0x00), (.idle, 0x01),
    (.collecting, 0x02), (.verifying, 0x03), (.penalty, 0x04), (.replugWait, 0x05), (.enrollFirst, 0x06),
    (.enrollConfirm, 0x07)] := by
  cases x <;> decide

theorem rail_code_mem (x : RailState) : (x, x.code.toNat) ∈
    [(RailState.off, 0x00), (.ramping, 0x01), (.on, 0x02), (.fault, 0x03), (.failed, 0x04)] := by
  cases x <;> decide

theorem link_code_mem (x : LinkState) : (x, x.code.toNat) ∈
    [(LinkState.sizing, 0x00), (.ready, 0x01), (.resetting, 0x02), (.absent, 0x03)] := by
  cases x <;> decide

theorem engine_code_mem (x : EngineState) :
    (x, x.code.toNat) ∈ [(EngineState.idle, 0x00), (.running, 0x01), (.halted, 0x02)] := by
  cases x <;> decide

theorem keySlot_code_mem (x : KeySlotState) :
    (x, x.code.toNat) ∈ [(KeySlotState.empty, 0x00), (.loaded, 0x01), (.draining, 0x02)] := by
  cases x <;> decide

theorem method_code_mem (m : EraseMethod) :
    (m, m.code.toNat) ∈ [(EraseMethod.keyReplace, 0x01), (.trim, 0x02), (.overwrite, 0x03)] := by
  cases m <;> decide

section Fields

variable (s : State)

/-- A byte before the erase engine's phase. -/
theorem State.head_byte {i : Nat} (h : i < 18) : byteAt s.statusContent i = byteAt s.statusHead i := by
  simpa using s.head_standsAt.byte (i := i) h

theorem State.penalty_field : fieldAt s.statusContent 4 2 = s.penaltyRemaining % 65536 := by
  have field : fieldAt s.statusContent 4 2 = fieldAt s.statusHead 4 2 := by
    simpa using s.head_standsAt.field (i := 4) (k := 2) (by rw [s.length_statusHead]; decide)
  exact field.trans (fieldAt_fieldOf_mod 2 _)

theorem State.capacity_field : fieldAt s.statusContent 10 4 = s.reportedCapacity % 2 ^ 32 := by
  have field : fieldAt s.statusContent 10 4 = fieldAt s.statusHead 10 4 := by
    simpa using s.head_standsAt.field (i := 10) (k := 4) (by rw [s.length_statusHead]; decide)
  exact field.trans (fieldAt_fieldOf_mod 4 _)

theorem State.phase_byte : byteAt s.statusContent 18 = byteAt s.phaseBytes 0 :=
  s.phase_standsAt.byte (i := 0) (by rw [s.length_phaseBytes]; decide)

theorem State.phaseReserved_byte : byteAt s.statusContent 19 = 0 := by
  have byte : byteAt s.statusContent 19 = byteAt s.phaseBytes 1 :=
    s.phase_standsAt.byte (i := 1) (by rw [s.length_phaseBytes]; decide)
  rw [byte, State.phaseBytes]
  split <;> rfl

theorem State.progress_field : fieldAt s.statusContent 20 4 = fieldAt s.phaseBytes 2 4 :=
  s.phase_standsAt.field (i := 2) (by rw [s.length_phaseBytes])

/-- Phase and sectors done at a position without a descriptor. -/
theorem State.progress_absent (free : s.currentDescriptor = none) :
    byteAt s.statusContent 18 = 0xFF ∧ fieldAt s.statusContent 20 4 = 0xFFFFFFFF := by
  rw [s.phase_byte, s.progress_field, State.phaseBytes, free]
  decide

/-- Phase and sectors done of the descriptor at the current position. -/
theorem State.progress_present (d : Descriptor) (current : s.currentDescriptor = some d) :
    fieldAt s.statusContent 20 4 = d.sectorsDone % 2 ^ 32 ∧ (d.phase = none → byteAt s.statusContent 18 = 0xFF) ∧
      (d.phase = some .verify → byteAt s.statusContent 18 = 5) ∧
      ∀ n, d.phase = some (.pass n) → byteAt s.statusContent 18 = n % 256 := by
  rw [s.phase_byte, s.progress_field, State.phaseBytes, current]
  dsimp only
  refine ⟨?_, fun phase => ?_, fun phase => ?_, fun n phase => ?_⟩
  · exact (fieldAt_append (a := [optByte ErasePhase.code d.phase] ++ reserved 1) (n := 2) (i := 0) rfl 4).trans
      (fieldAt_fieldOf_mod 4 d.sectorsDone)
  · rw [phase]
    rfl
  · rw [phase]
    rfl
  · rw [phase]
    exact toNat_byteOf_mod n

/-- The penalty remaining: 0 outside PENALTY, and 1 to the timer's length inside (notes/assumptions/4.md). -/
theorem State.penalty_layout :
    (s.attempt.phase ≠ .penalty → fieldAt s.statusContent 4 2 = 0) ∧
      ∀ d, s.attempt.phase = .penalty → s.attempt.penaltyTimer = some d → 0 < d → d < 65536 →
        1 ≤ fieldAt s.statusContent 4 2 ∧ fieldAt s.statusContent 4 2 ≤ d := by
  rw [s.penalty_field]
  refine ⟨fun outside => by rw [State.penaltyRemaining_outside outside], fun d phase timer positive short => ?_⟩
  have bounds := State.penaltyRemaining_bounds phase timer positive
  rwa [Nat.mod_eq_of_lt (by omega)]

/-- M: 0 while SIZING or ABSENT, and what the capacity read brought afterwards. -/
theorem State.capacity_layout :
    (s.link.state = .sizing ∨ s.link.state = .absent → fieldAt s.statusContent 10 4 = 0) ∧
      ∀ m, s.link.state = .ready ∨ s.link.state = .resetting → s.link.capacity = some m →
        fieldAt s.statusContent 10 4 = m % 2 ^ 32 := by
  rw [s.capacity_field]
  exact ⟨fun absent => by rw [State.reportedCapacity_absent absent]; rfl,
    fun m known capacity => by rw [State.reportedCapacity_known known capacity]⟩

/-- The latch, the events held and the lost flag. -/
theorem State.events_layout :
    let c := s.statusContent
    let flag (b : Bool) : Nat := if b then 1 else 0
    byteAt c 24 = flag s.store.image.latch.latched ∧ byteAt c 25 = s.events.entries.length % 256 ∧
      byteAt c 26 = flag s.events.lost ∧ fieldAt c 27 5 = 0 := by
  have place := s.events_standsAt
  have zeros : standsAt (reserved 5) (24 + 3) s.statusContent :=
    standsAt.trans ⟨_, [], by rw [List.append_nil]; rfl, rfl⟩ place
  exact ⟨(place.byte (i := 0) (by simp [State.statusEvents])).trans (toNat_flagOf _),
    (place.byte (i := 1) (by simp [State.statusEvents])).trans (toNat_byteOf_mod _),
    (place.byte (i := 2) (by simp [State.statusEvents])).trans (toNat_flagOf _),
    (zeros.field (i := 0) (k := 5) (by decide)).trans (by decide)⟩

theorem State.unit_byte (u : UnitNo) {i : Nat} (h : i < 8) :
    byteAt s.statusContent (32 + 8 * u.val + i) = byteAt (s.unitStatusBytes u) i :=
  (s.units_standsAt u).byte (by rw [s.length_unitStatusBytes]; exact h)

theorem State.unit_generation_field {u : UnitNo} {d : UnitDef} (defined : s.unitDef u = some d) :
    fieldAt s.statusContent (32 + 8 * u.val + 4) 2 = d.generation % 65536 := by
  rw [(s.units_standsAt u).field (by rw [s.length_unitStatusBytes]; decide), State.unitStatusBytes_defined defined]
  exact fieldAt_fieldOf_mod 2 d.generation

theorem State.key_byte (u : UnitNo) : byteAt s.statusContent (96 + u.val) = s.cipher.slots[u].state.code.toNat := by
  rw [s.keys_standsAt.byte (by rw [s.length_keySlotBytes]; exact u.isLt)]
  simp [State.keySlotBytes, byteAt]

/-- The eight bytes that STATUS has of a unit (R230). -/
theorem State.unit_layout (u : UnitNo) :
    let c := s.statusContent
    let o := 32 + 8 * u.val
    let flag (b : Bool) : Nat := if b then 1 else 0
    (s.unitDef u = none → byteAt c o = 0 ∧ (∀ i, 1 ≤ i → i ≤ 6 → byteAt c (o + i) = 0xFF)) ∧
      (∀ d, s.unitDef u = some d → byteAt c o = 1 ∧
        (d.kind, byteAt c (o + 1)) ∈ [(UnitKind.secure, 0x00), (.clear, 0x01)] ∧
        (s.unitState u, byteAt c (o + 2)) ∈
          [(UnitState.locked, 0x00), (.opened, 0x01), (.closing, 0x02), (.erasing, 0x03)] ∧
        (s.unitState u = .opened ∨ s.unitState u = .closing → ∀ m, (s.unitRun u).mode = some m →
          (m, byteAt c (o + 3)) ∈ [(Mode.readOnly, 0x00), (.readWrite, 0x01)]) ∧
        (s.unitState u = .locked ∨ s.unitState u = .erasing → byteAt c (o + 3) = 0xFF) ∧
        fieldAt c (o + 4) 2 = d.generation % 65536 ∧ byteAt c (o + 6) = flag (s.unitRun u).unusable) ∧
      byteAt c (o + 7) = 0 := by
  intro c o flag
  have first : byteAt c o = byteAt (s.unitStatusBytes u) 0 := s.unit_byte u (i := 0) (by decide)
  refine ⟨fun undefined => ?_, fun d defined => ?_, ?_⟩
  · rw [first, State.unitStatusBytes_undefined undefined]
    have place := s.units_standsAt u
    rw [State.unitStatusBytes_undefined undefined] at place
    have absent := (standsAt.middle (n := 1) rfl (absentField 6) (reserved 1)).trans place
    exact ⟨rfl, fun i low high => absent.absent (by omega) (by omega)⟩
  · have byte {i : Nat} (h : i < 8) : byteAt c (o + i) = byteAt (d.statusBytes (s.unitRun u)) i := by
      rw [← State.unitStatusBytes_defined defined]
      exact s.unit_byte u h
    rw [first, State.unitStatusBytes_defined defined, byte (i := 1) (by decide), byte (i := 2) (by decide),
      byte (i := 3) (by decide), byte (i := 6) (by decide)]
    refine ⟨rfl, kind_code_mem d.kind, unitState_code_mem _, fun opened m mode => ?_, fun closed => ?_,
      s.unit_generation_field defined, toNat_flagOf _⟩
    · show (m, (s.unitRun u).modeByte.toNat) ∈ _
      rw [UnitRun.modeByte_reported opened, mode]
      exact mode_code_mem m
    · exact congrArg BitVec.toNat (UnitRun.modeByte_absent closed)
  · rw [s.unit_byte u (by decide), State.unitStatusBytes]
    split <;> rfl

/-- The four bytes that STATUS has of a channel (R230). -/
theorem State.channel_layout (n : Fin 4) :
    let c := s.statusContent
    let flag (b : Bool) : Nat := if b then 1 else 0
    fieldAt c (104 + 4 * n.val) 2 = (s.channel n).last.toNat ∧
      byteAt c (106 + 4 * n.val) = flag (s.channelPolicy n).enabled ∧
      byteAt c (107 + 4 * n.val) = flag (if n = 3 then s.store.image.latch.latched else (s.channel n).alarm) := by
  intro c flag
  have place := s.channels_standsAt n
  refine ⟨?_, ?_, ?_⟩
  · have value := (s.channel n).last.isLt
    calc fieldAt c (104 + 4 * n.val) 2
      _ = fieldAt (s.channelStatusBytes n) 0 2 := place.field (i := 0) (by rw [s.length_channelStatusBytes]; decide)
      _ = (s.channel n).last.toNat % 65536 := fieldAt_fieldOf_mod 2 _
      _ = (s.channel n).last.toNat := Nat.mod_eq_of_lt (by omega)
  · rw [show 106 + 4 * n.val = 104 + 4 * n.val + 2 by omega]
    exact (place.byte (i := 2) (by rw [s.length_channelStatusBytes]; decide)).trans (toNat_flagOf _)
  · rw [show 107 + 4 * n.val = 104 + 4 * n.val + 3 by omega]
    exact (place.byte (i := 3) (by rw [s.length_channelStatusBytes]; decide)).trans (toNat_flagOf _)

end Fields

end Sys2Proof.Machine
end

section
/-! The layout of UNIT INFO (R215, R231), and what the part forms as one statement. -/

namespace Sys2Proof.Machine

/-! ## UNIT INFO -/

section UnitInfo

variable {s : State} {u : UnitNo} {d : UnitDef} (defined : s.unitDef u = some d)
include defined

theorem State.infoHead_standsAt : standsAt (d.infoHead (s.unitRun u)) 0 (s.unitInfoContent u) := by
  rw [State.unitInfoContent_defined defined]
  exact .middle (a := []) rfl _ _

theorem State.label_standsAt : standsAt (labelBytes d.label) 19 (s.unitInfoContent u) := by
  rw [State.unitInfoContent_defined defined]
  exact .middle rfl _ _

theorem State.markerFlag_standsAt : standsAt [flagOf d.marker.isSome] 36 (s.unitInfoContent u) := by
  rw [State.unitInfoContent_defined defined]
  exact (standsAt.middle (length_labelBytes d.label) _ _).behind rfl

theorem State.marker_standsAt : standsAt (markerBytes d.marker) 37 (s.unitInfoContent u) := by
  rw [State.unitInfoContent_defined defined]
  exact ((standsAt.middle (n := 1) rfl _ _).behind (length_labelBytes d.label)).behind rfl

theorem State.infoHead_byte {i : Nat} (h : i < 19) :
    byteAt (s.unitInfoContent u) i = byteAt (d.infoHead (s.unitRun u)) i := by
  simpa using (State.infoHead_standsAt defined).byte (i := i) h

theorem State.infoHead_field {i k : Nat} (h : i + k ≤ 19) :
    fieldAt (s.unitInfoContent u) i k = fieldAt (d.infoHead (s.unitRun u)) i k := by
  simpa using (State.infoHead_standsAt defined).field (i := i) h

/-- The kind, the state, the mode and the opener of a unit. -/
theorem State.info_state :
    let c := s.unitInfoContent u
    byteAt c 0 = 1 ∧ (d.kind, byteAt c 1) ∈ [(UnitKind.secure, 0x00), (.clear, 0x01)] ∧
      (s.unitState u, byteAt c 2) ∈
        [(UnitState.locked, 0x00), (.opened, 0x01), (.closing, 0x02), (.erasing, 0x03)] ∧
      (s.unitState u = .opened ∨ s.unitState u = .closing →
        (∀ m, (s.unitRun u).mode = some m → (m, byteAt c 3) ∈ [(Mode.readOnly, 0x00), (.readWrite, 0x01)]) ∧
        ∀ k, (s.unitRun u).opener = some k → byteAt c 4 = k.val) ∧
      (s.unitState u = .locked ∨ s.unitState u = .erasing → byteAt c 3 = 0xFF ∧ byteAt c 4 = 0xFF) := by
  have byte {i : Nat} (h : i < 19) := State.infoHead_byte defined h
  have last : byteAt (d.infoHead (s.unitRun u)) 4 = BitVec.toNat
      (if (s.unitRun u).reported then optByte (fun k : SlotNo => byteOf k.val) (s.unitRun u).opener else 0xFF) := rfl
  intro c
  rw [byte (i := 0) (by decide), byte (i := 1) (by decide), byte (i := 2) (by decide), byte (i := 3) (by decide),
    byte (i := 4) (by decide), last]
  refine ⟨rfl, kind_code_mem d.kind, unitState_code_mem _, fun opened => ⟨fun m mode => ?_, fun k opener => ?_⟩,
    fun closed => ⟨congrArg BitVec.toNat (UnitRun.modeByte_absent closed), ?_⟩⟩
  · show (m, (s.unitRun u).modeByte.toNat) ∈ _
    rw [UnitRun.modeByte_reported opened, mode]
    exact mode_code_mem m
  · rw [if_pos (UnitRun.reported_iff.2 opened), opener]
    exact toNat_byteOf (by omega)
  · rw [if_neg (UnitRun.not_reported closed)]
    rfl

/-- The place of a unit and its options. -/
theorem State.info_definition :
    let c := s.unitInfoContent u
    let flag (b : Bool) : Nat := if b then 1 else 0
    fieldAt c 5 4 = d.base % 2 ^ 32 ∧ fieldAt c 9 4 = d.length % 2 ^ 32 ∧ fieldAt c 13 2 = d.generation % 65536 ∧
      byteAt c 15 = flag d.honorWp ∧ byteAt c 16 = d.idleTimeout % 256 ∧ byteAt c 17 = flag d.lockOnSuspend ∧
      byteAt c 18 = flag (s.unitRun u).unusable := by
  have byte {i : Nat} (h : i < 19) := State.infoHead_byte defined h
  have field {i k : Nat} (h : i + k ≤ 19) := State.infoHead_field defined h
  intro c flag
  rw [field (i := 5) (by decide), field (i := 9) (by decide), field (i := 13) (by decide), byte (i := 15) (by decide),
    byte (i := 16) (by decide), byte (i := 17) (by decide), byte (i := 18) (by decide)]
  exact ⟨fieldAt_fieldOf_mod 4 d.base, fieldAt_fieldOf_mod 4 d.length, fieldAt_fieldOf_mod 2 d.generation,
    toNat_flagOf _, toNat_byteOf_mod _, toNat_flagOf _, toNat_flagOf _⟩

/-- The label: absent, or its length and its characters. -/
theorem State.info_label :
    let c := s.unitInfoContent u
    (d.label = none → ∀ i, 19 ≤ i → i ≤ 35 → byteAt c i = 0xFF) ∧
      (∀ l, d.label = some l → l.length ≤ 16 → byteAt c 19 = l.length ∧
        (c.drop 20).take 16 = l ++ List.replicate (16 - l.length) 0) := by
  have place := State.label_standsAt defined
  refine ⟨fun unlabelled i low high => ?_, fun l labelled fits => ?_⟩
  · rw [unlabelled] at place
    exact standsAt.absent (k := 17) place low (by omega)
  · rw [labelled] at place
    have first := place.byte (i := 0) (by rw [length_labelBytes]; decide)
    have chars : standsAt (padTo 16 l) (19 + 1) (s.unitInfoContent u) :=
      standsAt.trans ⟨[byteOf l.length], [], by rw [List.append_nil]; rfl, rfl⟩ place
    refine ⟨first.trans (toNat_byteOf (by omega)), ?_⟩
    have bytes := chars.bytes
    rwa [length_padTo, padTo_eq fits] at bytes

/-- The marker: absent, or its work. -/
theorem State.info_marker :
    let c := s.unitInfoContent u
    let flag (b : Bool) : Nat := if b then 1 else 0
    (d.marker = none → ∀ i, 37 ≤ i → i ≤ 52 → byteAt c i = 0xFF) ∧
      ∀ w, d.marker = some w →
        (w.method, byteAt c 37) ∈ [(EraseMethod.keyReplace, 0x01), (.trim, 0x02), (.overwrite, 0x03)] ∧
        byteAt c 38 = flag w.range.isSome ∧
        (w.range = none → ∀ i, 39 ≤ i → i ≤ 46 → byteAt c i = 0xFF) ∧
        (∀ g, w.range = some g → fieldAt c 39 4 = g.start % 2 ^ 32 ∧ fieldAt c 43 4 = g.count % 2 ^ 32) ∧
        (w.passes.length ≤ 4 → byteAt c 47 = w.passes.length ∧
          (c.drop 48).take 4 = w.passes ++ List.replicate (4 - w.passes.length) 0) ∧
        byteAt c 52 = flag w.verify := by
  have place := State.marker_standsAt defined
  refine ⟨fun unmarked i low high => ?_, fun w marked => ?_⟩
  · rw [unmarked] at place
    exact standsAt.absent (k := 16) place low (by omega)
  · rw [marked, markerBytes_some] at place
    have length := length_rangeBytes w.range
    have method := (standsAt.middle (a := []) rfl [w.method.code, flagOf w.range.isSome] _).trans place
    have range := (standsAt.middle (n := 2) rfl (rangeBytes w.range) _).trans place
    have count := ((standsAt.middle length [byteOf w.passes.length] _).behind (n := 2) rfl).trans place
    have passes :=
      (((standsAt.middle (n := 1) rfl (padTo 4 w.passes) _).behind length).behind (n := 2) rfl).trans place
    have verify := ((((standsAt.middle (length_padTo 4 w.passes) [flagOf w.verify] []).behind (n := 1) rfl).behind
      length).behind (n := 2) rfl).trans place
    refine ⟨?_, (method.byte (i := 1) (by simp)).trans (toNat_flagOf _), fun whole i low high => ?_, fun g ranged => ?_,
      fun fits => ⟨?_, ?_⟩, (verify.byte (i := 0) (by simp)).trans (toNat_flagOf _)⟩
    · rw [show byteAt (s.unitInfoContent u) 37 = w.method.code.toNat from method.byte (i := 0) (by simp)]
      exact method_code_mem w.method
    · rw [whole] at range
      exact standsAt.absent (k := 8) range low (by omega)
    · rw [ranged] at range
      exact ⟨(range.field (i := 0) (k := 4) (by simp [length_rangeBytes])).trans (fieldAt_fieldOf_mod 4 g.start),
        (range.field (i := 4) (k := 4) (by simp [length_rangeBytes])).trans (fieldAt_fieldOf_mod 4 g.count)⟩
    · exact (count.byte (i := 0) (by simp)).trans (toNat_byteOf (by omega))
    · have bytes := passes.bytes
      rwa [length_padTo, padTo_eq fits] at bytes

end UnitInfo

/-! ## The obligation -/

theorem length_eventReadContent (es : List Event) (lost : Bool) :
    (eventReadContent es lost).length = 8 + 8 * es.length := by
  simp [eventReadContent, reserved, length_flatMap_of length_eventBytes]
  omega

/-- Settles O21: each part of what the part forms stands at its offset, with its code. -/
theorem formedRecordLayouts : Obligations.FormedRecordLayouts := by
  refine ⟨fun s u r es lost p content => ⟨rfl, s.length_statusContent, s.length_unitInfoContent u,
      length_eventReadContent es lost, p.length_bytes, length_padTo _ _, padTo_eq⟩,
    fun r => ⟨rfl, status_code_mem r.status, detail_code_mem r.detail, rfl, r.residue_field,
      r.reserved_field⟩,
    fun u k b n ch v => ?_, fun es lost few => ⟨toNat_byteOf (by omega), toNat_flagOf lost, eventReserved_field es lost,
      fun n hn => ?_⟩,
    fun s => ?_, fun s u => ⟨fun undefined => ?_, fun d defined => ?_⟩⟩
  · dsimp only
    exact ⟨rfl, rfl, fun p mem => by rw [← closeCause_code p mem]; rfl, rfl, rfl, rfl, rfl, rfl, rfl, rfl,
      fun p mem => by rw [← abandonReason_code p mem]; rfl, rfl,
      fun p mem => by rw [← outcome_code p mem]; exact ⟨fun q => ⟨rfl, rfl⟩, rfl⟩, rfl,
      fun p mem => by rw [← clearDetail_code p mem]; rfl, rfl, rfl, rfl,
      fun p mem => by rw [← mediaOp_code p mem]; rfl⟩
  · have bytes := (entries_standAt es lost hn).bytes
    rwa [length_eventBytes] at bytes
  · have head {i : Nat} (h : i < 18) := s.head_byte h
    obtain ⟨noPenalty, penalty⟩ := s.penalty_layout
    obtain ⟨noCapacity, capacity⟩ := s.capacity_layout
    obtain ⟨latch, held, lost, zeros⟩ := s.events_layout
    dsimp only
    rw [head (i := 0) (by decide), head (i := 1) (by decide), head (i := 2) (by decide), head (i := 3) (by decide),
      head (i := 6) (by decide), head (i := 7) (by decide), head (i := 8) (by decide), head (i := 9) (by decide),
      head (i := 14) (by decide), head (i := 15) (by decide), head (i := 16) (by decide), head (i := 17) (by decide)]
    refine ⟨s.deviceCode_eq, toNat_flagOf _, toNat_byteOf_mod _, entry_code_mem _, noPenalty, penalty, toNat_flagOf _,
      toNat_flagOf _, rail_code_mem _, link_code_mem _, noCapacity, capacity, engine_code_mem _, toNat_byteOf (by omega),
      toNat_byteOf (by omega), toNat_flagOf _, s.progress_absent, s.progress_present, s.phaseReserved_byte, latch, held,
      lost, zeros, fun u => ?_, s.channel_layout, s.drop_statusContent⟩
    obtain ⟨undefined, defined, zero⟩ := s.unit_layout u
    refine ⟨undefined, defined, zero, ?_⟩
    rw [s.key_byte u]
    exact keySlot_code_mem _
  · rw [State.unitInfoContent, undefined]
    rfl
  · obtain ⟨defined', kind, state, opened, closed⟩ := State.info_state defined
    obtain ⟨base, length, generation, honorWp, idle, suspend, unusable⟩ := State.info_definition defined
    obtain ⟨unlabelled, label⟩ := State.info_label defined
    obtain ⟨unmarked, marker⟩ := State.info_marker defined
    exact ⟨defined', kind, state, opened, closed, base, length, generation, honorWp, idle, suspend, unusable, unlabelled,
      label, (State.markerFlag_standsAt defined).byte (i := 0) (by simp) |>.trans (toNat_flagOf _), unmarked, marker⟩

end Sys2Proof.Machine
end

section
/-! The media path's form after each change of its slots, its link or its rail (R49, R52, R54, R57 to R62). -/

namespace Sys2Proof.Machine

/-! ## The rail in each state -/

theorem Rail.fits_off {r : Rail} (h : r.state = .off) :
    r.fits ↔ r.rampTimer = none ∧ r.retryTimer = none ∧ r.switchOffTimer = none ∧ r.retryCount ≤ 2 := by
  simp [Rail.fits, h]

theorem Rail.fits_ramping {r : Rail} (h : r.state = .ramping) :
    r.fits ↔ r.rampTimer.isSome = true ∧ r.retryTimer = none ∧ r.switchOffTimer = none ∧ r.retryCount ≤ 2 := by
  simp [Rail.fits, h]

theorem Rail.fits_on {r : Rail} (h : r.state = .on) :
    r.fits ↔ r.rampTimer = none ∧ r.retryTimer = none ∧ r.retryCount = 0 := by
  simp +contextual [Rail.fits, h]

theorem Rail.fits_fault {r : Rail} (h : r.state = .fault) :
    r.fits ↔ r.rampTimer = none ∧ r.retryTimer.isSome = true ∧ r.switchOffTimer = none ∧ r.retryCount ≤ 2 := by
  simp [Rail.fits, h]

theorem Rail.fits_failed {r : Rail} (h : r.state = .failed) :
    r.fits ↔ r.rampTimer = none ∧ r.retryTimer = none ∧ r.switchOffTimer = none ∧ r.retryCount = 3 := by
  simp [Rail.fits, h]

/-- A rail that fits fits where it follows need (R59, R62). -/
theorem Rail.fits.follow {r : Rail} (fit : r.fits) (need : Bool) : (r.follow need).fits := by
  unfold Rail.follow
  split
  · rename_i off
    obtain ⟨-, retry, timer, count⟩ := (Rail.fits_off off).1 fit
    split
    · exact (Rail.fits_ramping rfl).2 ⟨rfl, retry, timer, count⟩
    · exact fit
  · rename_i on
    have running := (Rail.fits_on on).1 fit
    split
    · exact (Rail.fits_on (by exact on)).2 running
    · split
      · exact (Rail.fits_on (by exact on)).2 running
      · exact fit
  all_goals exact fit

/-- A rail stays ON as it follows need. -/
theorem Rail.follow_on {r : Rail} (on : r.state = .on) (need : Bool) : (r.follow need).state = .on := by
  unfold Rail.follow
  rw [on]
  dsimp only
  split
  · rfl
  · split
    · rfl
    · exact on

/-- Under need no switch-off timer runs once the rail has followed it (R62). -/
theorem Rail.fits.follow_need {r : Rail} (fit : r.fits) : (r.follow true).switchOffTimer = none := by
  have stopped (other : r.state ≠ .on) : r.switchOffTimer = none := by
    simpa using mt fit.2.2.1 other
  cases state : r.state <;> simp [Rail.follow, state, stopped]

/-- A switch-off timer that following need has started is that of a part without need (R62). -/
theorem Rail.follow_timer {r : Rail} {need : Bool} (started : (r.follow need).switchOffTimer.isSome = true) :
    r.switchOffTimer.isSome = true ∨ need = false := by
  cases need with
  | false => exact .inr rfl
  | true => cases state : r.state <;> simp [Rail.follow, state] at started <;> exact .inl started

/-! ## What the media path is -/

/-- The blocks of the media path: the Dispatcher's slots, the Media Link and the Rail Controller. -/
def State.media (s : State) : Vector (Option MediaSlot) 4 × Link × Rail := (s.slots, s.link, s.rail)

/-- Nothing is outstanding at the package: no operation and no capacity request. -/
structure State.packageIdle (s : State) : Prop where
  slots : ∀ n, s.linkSlot n = none
  request : s.link.capacityRead ≠ .outstanding

/-- Every slot is free, and no capacity read is under way. -/
structure State.mediaFree (s : State) : Prop where
  read : s.link.capacityRead = .idle
  slots : ∀ n : Fin 4, s.slots[n] = none

theorem State.mediaFree.packageIdle {s : State} (free : s.mediaFree) : s.packageIdle :=
  ⟨fun n => by rw [State.linkSlot, free.slots n], by simp [free.read]⟩

/-- Without need every slot is free, and no capacity read is under way (R58). -/
theorem State.mediaFree_of_no_need {s : State} (h : s.need = false) : s.mediaFree := by
  simp only [State.need, Bool.or_eq_false_iff, Bool.not_eq_false', List.isEmpty_iff, decide_eq_false_iff_not, ne_eq,
    not_not] at h
  obtain ⟨⟨⟨-, slots⟩, -⟩, read⟩ := h
  refine ⟨read, fun n => ?_⟩
  by_contra held
  obtain ⟨m, slot⟩ := Option.ne_none_iff_exists'.1 held
  simpa [slots] using (s.mem_occupied m).2 ⟨n, slot⟩

/-- A slot set is the one slot that changes. -/
theorem State.setSlot_slot (s : State) (n k : Fin 4) (x : Option MediaSlot) :
    (s.setSlot n x).slots[k] = if k = n then x else s.slots[k] := by
  by_cases same : k = n
  · subst same
    simp [State.setSlot]
  · simp [State.setSlot, same, Fin.val_ne_of_ne (Ne.symm same)]

theorem State.mediaReady_iff (s : State) : s.mediaReady = true ↔ s.link.state = .ready ∧ s.rail.state = .on := by
  simp [State.mediaReady]

namespace State.mediaFits

variable {s t : State}

/-! ## Changes of one block -/

/-- A change elsewhere leaves the media path's form. -/
theorem quiet (h : s.mediaFits) (same : t.media = s.media) : t.mediaFits := by
  obtain ⟨slots, link, rail⟩ : t.slots = s.slots ∧ t.link = s.link ∧ t.rail = s.rail := by
    simpa [State.media] using same
  obtain ⟨h1, h2, h3, h4, h5, h6, h7⟩ := h
  constructor <;> simp only [slots, link, rail] <;> assumption

/-- While work is in a slot, no switch-off timer runs. -/
theorem timer_of_slot (h : s.mediaFits) {n : Fin 4} {m : MediaSlot} (slot : s.slots[n] = some m) :
    s.rail.switchOffTimer = none := by
  by_contra running
  have free := (h.idle (Option.isSome_iff_ne_none.2 running)).2 n
  cases slot.symm.trans free

/-- Slots that each hold work at the stage and with the timeout that the slot had, or none. -/
theorem withSlots (h : s.mediaFits) {x : Vector (Option MediaSlot) 4}
    (held : ∀ (n : Fin 4) m, x[n] = some m →
      ∃ m', s.slots[n] = some m' ∧ m.stage = m'.stage ∧ m.timeout = m'.timeout) :
    (s.withSlots x).mediaFits := by
  refine ⟨fun n m slot out => ?_, fun n m slot => ?_, h.rail, fun timer => ⟨(h.idle timer).1, fun n => ?_⟩, h.sizing,
    h.request, h.resetting⟩
  · obtain ⟨m', slot', stage, -⟩ := held n m slot
    exact h.outstanding n m' slot' (stage ▸ out)
  · obtain ⟨m', slot', stage, timeout⟩ := held n m slot
    rw [stage, timeout]
    exact h.timeouts n m' slot'
  · by_contra work
    obtain ⟨m, slot⟩ := Option.ne_none_iff_exists'.1 work
    obtain ⟨m', slot', -⟩ := held n m slot
    cases slot'.symm.trans ((h.idle timer).2 n)

theorem freeSlot (h : s.mediaFits) (n : Fin 4) : (s.setSlot n none).mediaFits := by
  refine h.withSlots fun k m slot => ⟨m, ?_, rfl, rfl⟩
  change (s.setSlot n none).slots[k] = some m at slot
  rw [s.setSlot_slot n k] at slot
  split at slot
  · cases slot
  · exact slot

/-- Work enters a slot, or goes on in it, while no switch-off timer runs: at the package only where operations may begin. -/
theorem setSlot (h : s.mediaFits) (n : Fin 4) {m : MediaSlot} (timer : s.rail.switchOffTimer = none)
    (timeout : m.timeout.isSome = true ↔ m.stage = .outstanding)
    (ready : m.stage = .outstanding → s.mediaReady = true) : (s.setSlot n (some m)).mediaFits := by
  refine ⟨fun k x slot out => ?_, fun k x slot => ?_, h.rail, fun running => ?_, h.sizing, h.request, h.resetting⟩
  · rw [s.setSlot_slot n k] at slot
    split at slot
    · cases slot
      exact (s.mediaReady_iff).1 (ready out)
    · exact h.outstanding k x slot out
  · rw [s.setSlot_slot n k] at slot
    split at slot
    · cases slot
      exact timeout
    · exact h.timeouts k x slot
  · rw [State.setSlot, State.withSlots_rail, timer] at running
    cases running

/-- The link changes to one whose capacity read goes on, if at all, while it is SIZING. -/
theorem withLink (h : s.mediaFits) {l : Link} (leaves : l.state = .ready ∨ ∀ n, s.linkSlot n = none)
    (sizing : l.capacityRead ≠ .idle → s.link.capacityRead ≠ .idle ∧ l.state = .sizing)
    (request : l.capacityRead = .outstanding → s.rail.state = .on)
    (resetting : l.resetTimer.isSome = true ↔ l.state = .resetting) : (s.withLink l).mediaFits := by
  refine ⟨fun n m slot out => ⟨?_, (h.outstanding n m slot out).2⟩, h.timeouts, h.rail,
    fun timer => ⟨?_, (h.idle timer).2⟩,
    fun read => (sizing read).2, request, resetting⟩
  · refine leaves.resolve_right fun idle => ?_
    cases (idle n).symm.trans ((s.linkSlot_eq_some_iff n m).2 ⟨slot, out⟩)
  · by_contra read
    exact (sizing read).1 (h.idle timer).1

/-- The rail changes to one that fits: it leaves ON only with nothing at the package, and its switch-off timer runs only with
the media path free. -/
theorem withRail (h : s.mediaFits) {r : Rail} (fits : r.fits)
    (leaves : s.rail.state = .on → r.state = .on ∨ s.packageIdle)
    (timer : r.switchOffTimer.isSome = true → s.mediaFree) : (s.withRail r).mediaFits := by
  refine ⟨fun n m slot out => ?_, h.timeouts, fits, fun running => ⟨(timer running).read, (timer running).slots⟩,
    h.sizing,
    fun read => ?_, h.resetting⟩
  · obtain ⟨ready, on⟩ := h.outstanding n m slot out
    refine ⟨ready, (leaves on).resolve_right fun idle => ?_⟩
    cases (idle.slots n).symm.trans ((s.linkSlot_eq_some_iff n m).2 ⟨slot, out⟩)
  · exact (leaves (h.request read)).resolve_right fun idle => idle.request read

/-- The rail follows need (R58, R59, R62). -/
theorem followNeed (h : s.mediaFits) : s.followNeed.mediaFits :=
  h.withRail (h.rail.follow _) (fun on => .inl (Rail.follow_on on _)) fun started =>
    (Rail.follow_timer started).elim (fun running => ⟨(h.idle running).1, (h.idle running).2⟩) State.mediaFree_of_no_need

end State.mediaFits

end Sys2Proof.Machine
end

section
/-! The media path's form after the operations of every other block: each leaves the slots, the link and the rail, but
for the rail's following of need and the slots of operations that end. -/

namespace Sys2Proof.Machine

namespace State.mediaFits

variable {s t : State}

/-! ## Branches and folds -/

/-- Both branches of a choice fit. -/
theorem ite {c : Prop} [Decidable c] (a : s.mediaFits) (b : t.mediaFits) : (if c then s else t).mediaFits := by
  split <;> assumption

theorem foldl {α : Type} {f : State → α → State} (step : ∀ {s : State} (x : α), s.mediaFits → (f s x).mediaFits)
    (l : List α) (h : s.mediaFits) : (l.foldl f s).mediaFits := by
  induction l generalizing s with
  | nil => exact h
  | cons x xs ih => exact ih (step x h)

theorem ofResults (h : s.mediaFits) (results : s.resultsOnly t) : t.mediaFits :=
  h.quiet (by rw [State.media, results.slots, results.link, results.rail]; rfl)

theorem ofCommand (h : s.mediaFits) {x : Tag} (command : s.commandOnly x t) : t.mediaFits := h.ofResults command.resultsOnly

theorem ofEngine (h : s.mediaFits) (engine : s.engineOnly t) : t.mediaFits := h.ofResults engine.resultsOnly

/-! ## Updates of the other blocks -/

theorem withUnits (h : s.mediaFits) (x : Vector UnitRun 8) : (s.withUnits x).mediaFits := h.quiet rfl
theorem withControl (h : s.mediaFits) (x : UnitControl) : (s.withControl x).mediaFits := h.quiet rfl
theorem withCipher (h : s.mediaFits) (x : Cipher) : (s.withCipher x).mediaFits := h.quiet rfl
theorem withEnrolling (h : s.mediaFits) (x : Option Enrolling) : (s.withEnrolling x).mediaFits := h.quiet rfl
theorem withAttempt (h : s.mediaFits) (x : AttemptControl) : (s.withAttempt x).mediaFits := h.quiet rfl
theorem withScanner (h : s.mediaFits) (x : Scanner) : (s.withScanner x).mediaFits := h.quiet rfl
theorem withEntry (h : s.mediaFits) (x : Entry) : (s.withEntry x).mediaFits := h.quiet rfl
theorem withLeds (h : s.mediaFits) (x : Indicators) : (s.withLeds x).mediaFits := h.quiet rfl
theorem withErase (h : s.mediaFits) (x : EraseEngine) : (s.withErase x).mediaFits := h.quiet rfl
theorem withTamper (h : s.mediaFits) (x : Tamper) : (s.withTamper x).mediaFits := h.quiet rfl
theorem withStore (h : s.mediaFits) (x : Store) : (s.withStore x).mediaFits := h.quiet rfl
theorem withDraws (h : s.mediaFits) (x : Nat) : (s.withDraws x).mediaFits := h.quiet rfl
theorem place (h : s.mediaFits) (e : Event) : (s.place e).mediaFits := h.quiet rfl
theorem refreshLeds (h : s.mediaFits) : s.refreshLeds.mediaFits := h.quiet rfl

/-! ## The command path -/

theorem releaseStage (h : s.mediaFits) : s.releaseStage.mediaFits := h.ofCommand (.releaseStage s 0)

theorem endEntry (h : s.mediaFits) (t : Tag) (v : Verdict) : (s.endEntry t v).mediaFits := h.ofCommand (.endEntry s t v)

theorem endCommands (h : s.mediaFits) (u : UnitNo) (st : Status) : (s.endCommands u st).mediaFits :=
  (h.quiet (by rfl)).releaseStage

theorem restartIdle (h : s.mediaFits) (u : UnitNo) : (s.restartIdle u).mediaFits := by
  unfold State.restartIdle
  split
  · exact .ite (h.quiet rfl) h
  · exact h

theorem admittedRestart (h : s.mediaFits) (head : RecordHead) (verdict : Option Status) :
    (s.admittedRestart head verdict).mediaFits := by
  unfold State.admittedRestart
  split
  · exact .ite (h.restartIdle _) h
  · exact h

theorem takeRecord (h : s.mediaFits) (op : Op) (head : RecordHead) (residue : Nat) (stage : Bool) {accept : Tag → State}
    (taken : ∀ t, (accept t).mediaFits) : (s.takeRecord op head residue stage accept).mediaFits := by
  unfold State.takeRecord
  split
  · exact h.quiet rfl
  · exact .ite (h.quiet rfl) (.ite (h.quiet rfl) (taken _))

theorem admitData (h : s.mediaFits) (op : Op) (head : RecordHead) (t : Tag) : (s.admitData op head t).mediaFits := by
  unfold State.admitData
  dsimp only
  split
  · exact (h.quiet (by rfl)).admittedRestart _ _
  · exact (h.quiet (by rfl)).admittedRestart _ _

theorem holdStage (h : s.mediaFits) (head : RecordHead) (t : Tag) : (s.holdStage head t).mediaFits := by
  unfold State.holdStage
  refine .ite h ?_
  split
  · exact h.quiet rfl
  · exact h

theorem acceptSync (h : s.mediaFits) (head : RecordHead) : (s.acceptSync head).mediaFits := by
  refine h.takeRecord _ _ _ _ fun t => ?_
  dsimp only
  split
  · exact (h.quiet (by rfl)).admittedRestart _ _
  · exact h.quiet rfl

theorem acceptUnitInfo (h : s.mediaFits) (head : RecordHead) : (s.acceptUnitInfo head).mediaFits := by
  refine h.takeRecord _ _ _ _ fun t => .ite (h.quiet rfl) ?_
  split
  · exact h.quiet rfl
  · exact h.quiet rfl

theorem acceptManagement (h : s.mediaFits) (op : Op) (head : RecordHead) (b : List Byte) :
    (s.acceptManagement op head b).mediaFits := h.takeRecord _ _ _ _ fun _ => h.quiet rfl

theorem takeTransfer (h : s.mediaFits) (i : Instr) : (s.takeTransfer i).mediaFits := by
  unfold State.takeTransfer
  split
  case h_1 => exact h.takeRecord _ _ _ _ (h.admitData _ _)
  case h_2 => exact h.takeRecord _ _ _ _ fun _ => (h.admitData _ _ _).holdStage _ _
  case h_3 => exact h.takeRecord _ _ _ _ (h.admitData _ _)
  case h_4 => exact h.acceptSync _
  case h_5 => exact h.acceptUnitInfo _
  case h_20 => exact h.takeRecord _ _ _ _ fun _ => h.quiet rfl
  case h_21 => exact h
  all_goals exact h.acceptManagement _ _ _

/-! ## Erase work -/

theorem releaseUnit (h : s.mediaFits) (u : UnitNo) : (s.releaseUnit u).mediaFits :=
  h.ofEngine ((State.engineOnly.refl s).releaseUnit u)

theorem enterHalted (h : s.mediaFits) (held : Option UnitNo) (x : Outcome) : (s.enterHalted held x).mediaFits :=
  h.ofEngine ((State.engineOnly.refl s).enterHalted held x)

theorem haltDescriptor (h : s.mediaFits) (x : Outcome) : (s.haltDescriptor x).mediaFits :=
  h.ofEngine ((State.engineOnly.refl s).haltDescriptor x)

theorem rerunFallback (h : s.mediaFits) (u : UnitNo) (x : Outcome) : (s.rerunFallback u x).mediaFits :=
  h.ofEngine ((State.engineOnly.refl s).rerunFallback u x)

theorem moveTarget (h : s.mediaFits) (u : UnitNo) (a b : TargetStage) : (s.moveTarget u a b).mediaFits := by
  rw [State.moveTarget_frame]
  exact h.quiet rfl

theorem enterWaiting (h : s.mediaFits) : s.enterWaiting.mediaFits := (h.quiet (by rfl)).followNeed

theorem advance (h : s.mediaFits) : s.advance.mediaFits := .ite (h.quiet rfl) (h.quiet rfl)

theorem endGood (h : s.mediaFits) (u : UnitNo) : (s.endGood u).mediaFits :=
  have counted : (s.setCurrent fun d => { d with done := true, outcome := some .good }).countGood.mediaFits :=
    .ite (h.quiet rfl) (h.quiet rfl)
  .ite (.ite (counted.quiet (by rfl)).advance (counted.releaseUnit u).advance) (counted.enterHalted _ _)

theorem stopNow (h : s.mediaFits) : s.stopNow.mediaFits := by
  unfold State.stopNow
  split
  · exact h
  · split
    · exact h.haltDescriptor _
    · exact .ite (h.haltDescriptor _) h
    all_goals exact h

theorem enterWorking (h : s.mediaFits) (d : Descriptor) : (s.enterWorking d).mediaFits := .ite (h.quiet rfl) (h.quiet rfl)

theorem markerWritten (h : s.mediaFits) : s.markerWritten.mediaFits := by
  unfold State.markerWritten
  split
  · refine .ite ?_ h
    split
    · exact h.haltDescriptor _
    · exact h.enterWorking _
  · exact h

theorem descriptorStep (h : s.mediaFits) (j : EraseJob) (sectors : Nat) (data : List Sector) :
    (s.descriptorStep j sectors data).mediaFits := by
  unfold State.descriptorStep
  split
  · exact h.haltDescriptor _
  · dsimp only
    split
    · exact (h.quiet (by rfl)).haltDescriptor _
    · exact h.quiet rfl
    · exact (h.quiet (by rfl)).endGood _

theorem startRerun (h : s.mediaFits) (u : UnitNo) (w : EraseWork) : (s.startRerun u w).mediaFits :=
  have begun : ((s.withErase { s.erase with
      state := .running, workAge := s.clock,
      rerun := some { unit := u, work := w, phase := .pass 1, sectorsDone := 0, stage := .working } }).aged).mediaFits :=
    h.quiet rfl
  .ite (begun.withErase _ |>.withCipher _) (.ite (begun.rerunFallback _ _) (begun.withErase _))

theorem rerunStep (h : s.mediaFits) (j : EraseJob) (sectors : Nat) (data : List Sector) :
    (s.rerunStep j sectors data).mediaFits := by
  unfold State.rerunStep
  split
  · exact h.rerunFallback _ _
  · exact h.quiet rfl
  · exact h.quiet rfl

theorem rerunCleared (h : s.mediaFits) (u : UnitNo) : (s.rerunCleared u).mediaFits :=
  have unlocked : (if s.unitState u = .erasing then s.unlockErasing u else s).mediaFits := .ite (h.quiet rfl) h
  (unlocked.withErase _).refreshLeds

theorem eraseResult (h : s.mediaFits) (sectors : Nat) (x : MediaResult) : (s.eraseResult sectors x).mediaFits := by
  unfold State.eraseResult
  split
  · exact h
  · have freed : (s.withErase { s.erase with segment := .none }).mediaFits := h.quiet rfl
    dsimp only
    split
    · exact freed.rerunStep _ _ _
    · exact freed.descriptorStep _ _ _
    · exact freed.rerunFallback _ _
    · exact freed.haltDescriptor _

/-! ## The Entry Controller and Unit Control -/

theorem entryGoes (h : s.mediaFits) (c : EntryCtl) : (s.entryGoes c).mediaFits := .ite h (h.quiet rfl)

theorem abandonAny (h : s.mediaFits) (x : AbandonReason) : (s.abandonAny x).mediaFits := by
  unfold State.abandonAny
  split
  · exact h.quiet rfl
  · exact h

theorem enterDisabled (h : s.mediaFits) : s.enterDisabled.mediaFits := by
  unfold State.enterDisabled
  split
  · exact h.quiet rfl
  · exact (h.abandonAny _).quiet rfl
  · exact (h.abandonAny _).quiet rfl
  all_goals exact h.quiet rfl

theorem reevaluate (h : s.mediaFits) : s.reevaluate.mediaFits := .ite (.ite h h.enterDisabled) (.ite (h.quiet rfl) h)

theorem signalDrained (h : s.mediaFits) (u : UnitNo) : (s.signalDrained u).mediaFits :=
  h.ofEngine (((State.engineOnly.refl s).endClose u).claimDrained u)

theorem drainNow (h : s.mediaFits) (u : UnitNo) : (s.drainNow u).mediaFits := .ite (h.signalDrained u) h

theorem closeUnit (h : s.mediaFits) (c : CloseCause) (u : UnitNo) : (s.closeUnit c u).mediaFits :=
  .ite (((h.quiet (by rfl)).endCommands _ _).drainNow u) h

theorem closeUnits (h : s.mediaFits) (c : CloseCause) (us : List UnitNo) : (s.closeUnits c us).mediaFits :=
  foldl (fun u h => h.closeUnit c u) us h

theorem claimUnit (h : s.mediaFits) (c : CloseCause) (u : UnitNo) : (s.claimUnit c u).mediaFits := by
  unfold State.claimUnit
  split
  · exact h
  · dsimp only
    split
    · exact (h.quiet (by rfl)).closeUnit _ _
    · exact h.quiet rfl
    · exact (h.quiet (by rfl)).drainNow _
    · exact ((h.quiet (by rfl)).endCommands _ _).drainNow _
    · exact h.drainNow u

theorem openGrant (h : s.mediaFits) (k : SlotNo) (g : Grant) : (s.openGrant k g).mediaFits := by
  unfold State.openGrant
  split
  · exact h
  · split
    · exact h
    · refine .ite h ?_
      split
      · exact .ite h (h.quiet rfl)
      all_goals exact h.quiet rfl

theorem openRequest (h : s.mediaFits) (k : SlotNo) (gs : List Grant) : (s.openRequest k gs).mediaFits :=
  .ite h (foldl (fun g h => h.openGrant k g) gs h)

theorem closeSession (h : s.mediaFits) : s.closeSession.mediaFits :=
  .ite (.ite ((h.quiet (by rfl)).abandonAny _) (h.quiet rfl)) h

/-! ## Internal erases and key replacements -/

theorem clearCredentials (h : s.mediaFits) : s.clearCredentials.mediaFits :=
  have cleared := foldl (f := fun s k => (s.setCred k .blank).requestWrite (.credential k) []) (fun _ h => (h.quiet rfl))
    (List.finRange 6) h
  ((((cleared.withStore _).withStore _).withEnrolling _).withAttempt _).reevaluate

theorem report (h : s.mediaFits) (x : Requester) : (s.report x).mediaFits := by
  cases x with
  | duress => exact h
  | bruteForce => exact .ite h.clearCredentials h
  | zeroize => exact h.quiet rfl

theorem completeInternal (h : s.mediaFits) : s.completeInternal.mediaFits := by
  unfold State.completeInternal
  split
  · exact h
  · exact .ite (foldl (fun x h => h.report x) _ (h.quiet rfl)) h

theorem claimTarget (h : s.mediaFits) (u : UnitNo) : (s.claimTarget u).mediaFits :=
  .ite (.ite ((h.moveTarget _ _ _).claimUnit _ _) (h.moveTarget _ _ _)) h

theorem requestInternal (h : s.mediaFits) (x : Requester) (us : List UnitNo) : (s.requestInternal x us).mediaFits := by
  have added : (s.addTargets x (s.secureAmong us)).mediaFits := by
    rw [(s.addTargets_spec x _).frame]
    exact h.quiet rfl
  have preempted : (s.addTargets x (s.secureAmong us)).refreshLeds.preempt.mediaFits :=
    .ite (added.quiet rfl) (added.quiet rfl)
  exact (foldl (fun u h => h.claimTarget u) _ preempted.stopNow).completeInternal

theorem targetMarked (h : s.mediaFits) (u : UnitNo) : (s.targetMarked u).mediaFits := .ite ((h.moveTarget _ _ _).quiet rfl) h

theorem targetReplaced (h : s.mediaFits) (u : UnitNo) : (s.targetReplaced u).mediaFits :=
  have moved := h.moveTarget u .replacing .done
  .ite (.ite ((moved.moveTarget _ _ _).quiet rfl) (moved.releaseUnit u).completeInternal) h

theorem replaceKey (h : s.mediaFits) (q : KeyRequest) : (s.replaceKey q).mediaFits :=
  .ite (h.haltDescriptor _) (((((h.withStore _).withDraws _).withStore _).withStore _).withStore _ |>.withCipher _)

theorem takeRequest (h : s.mediaFits) (u : UnitNo) : (s.takeRequest u).mediaFits := by
  unfold State.takeRequest
  split
  · exact h
  · exact .ite ((h.quiet (by rfl)).replaceKey _) h

theorem replaced (h : s.mediaFits) (u : UnitNo) (p : KeyPath) : (s.replaced u p).mediaFits := by
  unfold State.replaced
  split
  · exact h.endGood u
  · split
    · exact .ite (h.quiet rfl) (h.targetReplaced u)
    · exact h.targetReplaced u

theorem replacementWritten (h : s.mediaFits) (u : UnitNo) (p : KeyPath) : (s.replacementWritten u p).mediaFits :=
  ((h.quiet (by rfl)).replaced u p).takeRequest u

theorem startDescriptor (h : s.mediaFits) : s.startDescriptor.mediaFits := by
  unfold State.startDescriptor
  split
  · exact h.haltDescriptor _
  · exact (h.quiet (by rfl)).claimUnit _ _
  · exact h

/-! ## Attempt Control and enrollment -/

theorem attemptIdle (h : s.mediaFits) : s.attemptIdle.mediaFits := (h.quiet (by rfl)).entryGoes _

theorem penaltyExpired (h : s.mediaFits) : s.penaltyExpired.mediaFits :=
  have written : ((s.setAttemptRecord ⟨s.attempt.failed, 0⟩).requestWrite .attempt []).mediaFits := h.quiet rfl
  .ite (((written.withAttempt _).entryGoes _).place _) written.attemptIdle

theorem startBrute (h : s.mediaFits) : s.startBrute.mediaFits :=
  ((h.quiet (by rfl)).closeSession.entryGoes _).requestInternal _ _

theorem startPenalty (h : s.mediaFits) : s.startPenalty.mediaFits := (h.quiet (by rfl)).entryGoes _

theorem failedAttempt (h : s.mediaFits) : s.failedAttempt.mediaFits :=
  have shown : s.showFailure.mediaFits := h.quiet rfl
  .ite shown.startBrute (.ite shown.attemptIdle shown.startPenalty)

theorem duressMatch (h : s.mediaFits) : s.duressMatch.mediaFits :=
  have requested := h.requestInternal .duress s.duressUnits
  .ite ((requested.startBrute.place _).withLeds _) requested.failedAttempt

theorem spendUse (h : s.mediaFits) (k : SlotNo) : (s.spendUse k).mediaFits := by
  unfold State.spendUse
  split
  · exact h
  · exact h.quiet rfl

theorem goodMatch (h : s.mediaFits) (k : SlotNo) : (s.goodMatch k).mediaFits :=
  have spent : (if k = 0 then s else s.spendUse k).mediaFits := .ite h (h.spendUse k)
  have opened := (((spent.withAttempt _).withStore _).withStore _).openRequest k (s.cred k).grants
  ((State.mediaFits.ite (opened.withControl _) opened).withLeds _).attemptIdle

theorem verdict (h : s.mediaFits) : s.verdict.mediaFits := by
  refine .ite ?_ h
  dsimp only
  split
  · exact (h.quiet (by rfl)).failedAttempt
  · exact .ite (h.quiet (by rfl)).duressMatch ((h.quiet (by rfl)).goodMatch _)

theorem longPress (h : s.mediaFits) : s.longPress.mediaFits := by
  refine .ite ?_ h
  split
  · exact h.quiet rfl
  · exact h.quiet rfl

theorem commitWritten (h : s.mediaFits) : s.commitWritten.mediaFits := by
  unfold State.commitWritten
  split
  · have ended : (if s.entry.commitRemoved then s else s.withEnrolling none).mediaFits := .ite h (h.quiet rfl)
    exact (State.mediaFits.ite ((((ended.withEntry _).withLeds _).place _).entryGoes _)
      ((((ended.withEntry _).withLeds _).place _).entryGoes _)).reevaluate
  · exact h

theorem clearingWritten (h : s.mediaFits) : s.clearingWritten.mediaFits := .ite ((h.quiet (by rfl)).attemptIdle.place _) h

/-! ## The Tamper Monitor -/

theorem alarmChanged (h : s.mediaFits) (c : Fin 4) : (s.alarmChanged c).mediaFits := .ite h.reevaluate h

theorem clearAlarm (h : s.mediaFits) (c : Fin 4) (d : ClearDetail) : (s.clearAlarm c d).mediaFits :=
  .ite ((h.quiet (by rfl)).alarmChanged c) h

theorem trip (h : s.mediaFits) (v : Sample) : (s.trip v).mediaFits :=
  have closed := (h.closeUnits .enclosure (List.finRange 8)).closeSession
  have latched := ((((closed.withTamper _).withTamper _).withStore _).withStore _).place (.tamperAlarm 3 v)
  (State.mediaFits.ite (latched.requestInternal _ _) latched).reevaluate

theorem changeLevel (h : s.mediaFits) (c : Fin 4) (v : Sample) (l : Level) : (s.changeLevel c v l).mediaFits := by
  cases l with
  | outOfRange =>
    exact .ite ((h.quiet (by rfl)).trip v) (.ite ((h.quiet (by rfl)).closeUnits _ _) ((h.quiet (by rfl)).alarmChanged c))
  | inRange => exact .ite (h.quiet rfl) ((h.quiet (by rfl)).clearAlarm c _)

theorem sampleChannel (h : s.mediaFits) (c : Fin 4) (v : Sample) : (s.sampleChannel c v).mediaFits := by
  refine .ite ?_ h
  dsimp only
  split
  · exact h.quiet rfl
  · exact (h.quiet (by rfl)).changeLevel c v _

theorem completeRun (h : s.mediaFits) (c : Fin 4) (v : Sample) (l : Level) : (s.completeRun c v l).mediaFits :=
  .ite ((h.quiet (by rfl)).changeLevel c v l) h

theorem applyChannel (h : s.mediaFits) (old : Policy) (c : Fin 4) : (s.applyChannel old c).mediaFits := by
  unfold State.applyChannel
  split
  · exact .ite (h.quiet rfl) ((h.quiet (by rfl)).clearAlarm _ _)
  · exact h.quiet rfl
  · exact h

theorem applyPolicy (h : s.mediaFits) (p : Policy) : (s.applyPolicy p).mediaFits :=
  (foldl (fun c h => h.applyChannel _ c) _ (h.quiet (by rfl))).reevaluate

/-! ## The keypad -/

theorem digitPress (h : s.mediaFits) (d : Digit) : (s.digitPress d).mediaFits :=
  .ite (h.quiet rfl) (.ite (.ite (h.quiet rfl) (h.quiet rfl)) h)

theorem confirmEnds (h : s.mediaFits) : s.confirmEnds.mediaFits := by
  unfold State.confirmEnds
  split
  · split
    · exact ((h.withStore _).withDraws _).withStore _ |>.withEntry _
    · exact h.abandonAny _
  · exact h

theorem keyPress (h : s.mediaFits) : s.keyPress.mediaFits := by
  unfold State.keyPress
  split
  · exact .ite (h.quiet rfl) ((((h.withEntry _).withStore _).withStore _).withAttempt _)
  · exact .ite h (h.quiet rfl)
  · exact .ite h h.confirmEnds
  all_goals exact h

theorem lockPress (h : s.mediaFits) : s.lockPress.mediaFits := by
  have entry : s.lockEntry.mediaFits := by
    unfold State.lockEntry
    split
    · exact h.quiet rfl
    · exact h.abandonAny _
    · exact h.abandonAny _
    all_goals exact h
  exact (entry.closeUnits _ _).closeSession

theorem interKeyExpired (h : s.mediaFits) : s.interKeyExpired.mediaFits := by
  unfold State.interKeyExpired
  split
  · exact h.quiet rfl
  · exact h.quiet rfl
  · exact h.quiet rfl
  all_goals exact h

theorem keyActivity (h : s.mediaFits) : s.keyActivity.mediaFits := .ite (h.quiet rfl) (h.quiet rfl)

theorem holdKey (h : s.mediaFits) (p : PadKey) : (s.holdKey p).mediaFits := by
  cases p with
  | digit d => exact (h.quiet (by rfl)).digitPress d
  | lock => exact (h.quiet (by rfl)).lockPress
  | key => exact h.quiet rfl

theorem takePresses (h : s.mediaFits) (ps : List PadKey) : (s.takePresses ps).mediaFits := by
  unfold State.takePresses
  split
  · exact h
  · exact .ite (h.keyActivity.holdKey _) h.keyActivity
  · exact .ite (h.keyActivity.quiet rfl) h.keyActivity

theorem takeRelease (h : s.mediaFits) (p : PadKey) : (s.takeRelease p).mediaFits :=
  .ite (.ite (h.quiet (by rfl)).keyPress (h.quiet rfl)) h

theorem clearLockout (h : s.mediaFits) : s.clearLockout.mediaFits := .ite h (h.quiet rfl)

theorem sampleKeys (h : s.mediaFits) (keys : BitVec 12) (on : Bool) : (s.sampleKeys keys on).mediaFits :=
  have keyed := ((foldl (fun p h => h.takeRelease p) (s.scanner.recognised keys false)
    (h.withScanner (s.scanner.sampled keys))).takePresses (s.scanner.recognised keys true)).clearLockout
  .ite (.ite (keyed.withScanner _) ((keyed.withScanner _).place _)) (keyed.withScanner _)

/-! ## Start-up -/

theorem finishStartUp (h : s.mediaFits) : s.finishStartUp.mediaFits := (h.quiet (by rfl)).reevaluate

theorem stepSix (h : s.mediaFits) : s.stepSix.mediaFits :=
  .ite (h.quiet (by rfl)).startBrute (.ite (h.quiet (by rfl)).finishStartUp h.finishStartUp)

theorem endReruns (h : s.mediaFits) : s.endReruns.mediaFits :=
  .ite ((h.quiet (by rfl)).requestInternal _ _) (h.quiet (by rfl)).stepSix

theorem advanceStartUp (h : s.mediaFits) (e : s.advanceStartUp = some t) : t.mediaFits := by
  unfold State.advanceStartUp at e
  split at e
  · split at e
    · cases e
    · split at e
      · cases e; exact h.startRerun _ _
      · cases e; exact h.endReruns
  · split at e
    · cases e
    · cases e; exact h.stepSix
  · split at e
    · cases e; exact h.finishStartUp
    · cases e
  all_goals cases e

/-! ## The Management Handler -/

theorem endManagement (h : s.mediaFits) (st : Status) : (s.endManagement st).mediaFits := by
  unfold State.endManagement State.endOrDrop
  split
  · split
    · exact .ite (h.quiet rfl) ((h.quiet (by rfl)).endEntry _ _)
    · exact h.quiet rfl
  · exact h

theorem returnData (h : s.mediaFits) (content : List Byte) : (s.returnData content).mediaFits := by
  unfold State.returnData
  split
  · exact h.quiet rfl
  · exact h

theorem acceptDefine (h : s.mediaFits) (u : UnitNo) (d : UnitDef) : (s.acceptDefine u d).mediaFits := by
  have put : (s.putUnit u (some d)).mediaFits := h.quiet rfl
  unfold State.acceptDefine
  dsimp only
  split
  · exact (((put.withStore _).withDraws _).withStore _).withStore _
  · exact ((put.withStore _).withStore _).withStore _

theorem runUnitDefine (h : s.mediaFits) (b : List Byte) : (s.runUnitDefine b).mediaFits := by
  refine .ite (h.endManagement _) ?_
  split
  · exact h.endManagement _
  · exact .ite (h.endManagement _) (.ite (h.endManagement _) (.ite (h.endManagement _) (h.acceptDefine _ _)))

theorem runUnitDelete (h : s.mediaFits) (b : List Byte) : (s.runUnitDelete b).mediaFits := by
  unfold State.runUnitDelete
  split
  · exact h.endManagement _
  · exact .ite (h.endManagement _) (.ite (h.endManagement _)
      ((((h.withStore _).withUnits _).withStore _).withStore _ |>.withStore _))

theorem runGrantSet (h : s.mediaFits) (b : List Byte) : (s.runGrantSet b).mediaFits := by
  unfold State.runGrantSet
  split
  · exact h.endManagement _
  · exact h.quiet rfl

theorem removeEnrollment (h : s.mediaFits) (k : SlotNo) : (s.removeEnrollment k).mediaFits := by
  unfold State.removeEnrollment
  split
  · exact .ite (.ite (h.quiet rfl) (h.quiet rfl)) h
  · exact h

theorem runCredentialRemove (h : s.mediaFits) (b : List Byte) : (s.runCredentialRemove b).mediaFits := by
  unfold State.runCredentialRemove
  split
  · exact h.endManagement _
  · exact .ite ((h.quiet (by rfl)).removeEnrollment _).closeSession.reevaluate ((h.quiet (by rfl)).removeEnrollment _)

theorem runEnroll (h : s.mediaFits) (b : List Byte) : (s.runEnroll b).mediaFits := by
  unfold State.runEnroll
  split
  · exact h.endManagement _
  · exact .ite ((h.quiet (by rfl)).endManagement _) (h.endManagement _)

theorem runPolicySet (h : s.mediaFits) (b : List Byte) : (s.runPolicySet b).mediaFits := by
  unfold State.runPolicySet
  split
  · exact h.endManagement _
  · exact (h.applyPolicy _).withStore _

theorem runLock (h : s.mediaFits) (b : List Byte) : (s.runLock b).mediaFits :=
  have closed := h.closeUnits .lockCommand ((List.finRange 8).filter (maskNames b))
  (State.mediaFits.ite closed.closeSession closed).endManagement _

theorem runEraseListWrite (h : s.mediaFits) (b : List Byte) : (s.runEraseListWrite b).mediaFits := by
  unfold State.runEraseListWrite
  split
  · exact h.endManagement _
  · exact .ite (h.endManagement _) ((h.quiet (by rfl)).endManagement _)

theorem runEraseTail (h : s.mediaFits) (b : List Byte) : (s.runEraseTail b).mediaFits := by
  unfold State.runEraseTail
  split
  · exact h.endManagement _
  · rename_i p _
    have moved : (s.withErase { s.erase with tail := p }).mediaFits := h.quiet rfl
    dsimp only
    split
    · exact (State.mediaFits.ite moved moved.enterWaiting).endManagement _
    all_goals exact .ite (h.endManagement _) (moved.endManagement _)

theorem runEraseAbort (h : s.mediaFits) : s.runEraseAbort.mediaFits :=
  (State.mediaFits.ite (h.quiet (by rfl)).stopNow h).endManagement _

theorem runEraseClear (h : s.mediaFits) : s.runEraseClear.mediaFits :=
  (State.mediaFits.ite (State.mediaFits.ite (h.quiet (by rfl)) (h.quiet (by rfl)).enterWaiting) h).endManagement _

theorem runTamperClear (h : s.mediaFits) : s.runTamperClear.mediaFits :=
  .ite (h.endManagement _) (.ite (h.endManagement _) (.ite (h.endManagement _)
    ((((h.withTamper _).withStore _).withStore _).place _).reevaluate))

theorem runManagement (h : s.mediaFits) (op : Op) (b : List Byte) : (s.runManagement op b).mediaFits := by
  cases op with
  | status => exact ((h.returnData _).quiet (by rfl)).endManagement _
  | eventRead => exact ((h.returnData _).quiet (by rfl)).endManagement _
  | unitDefine => exact h.runUnitDefine b
  | unitDelete => exact h.runUnitDelete b
  | grantSet => exact h.runGrantSet b
  | credentialRemove => exact h.runCredentialRemove b
  | enroll => exact h.runEnroll b
  | policySet => exact h.runPolicySet b
  | lock => exact h.runLock b
  | eraseListWrite => exact h.runEraseListWrite b
  | eraseTail => exact h.runEraseTail b
  | eraseAbort => exact h.runEraseAbort
  | eraseClear => exact h.runEraseClear
  | tamperClear => exact h.runTamperClear
  | read | write | trim | sync | unitInfo => exact h

theorem takeManagement (h : s.mediaFits) (e : QueueEntry) : (s.takeManagement e).mediaFits := by
  have taken : ((s.withHandler (some e.tag)).updateEntry e.tag fun e => { e with state := .active }).mediaFits := h.quiet rfl
  unfold State.takeManagement State.execute
  split
  · exact taken.endManagement _
  · exact (State.mediaFits.ite (State.mediaFits.ite (taken.quiet (by rfl)) taken) taken).runManagement _ _

/-! ## The Configuration Store -/

theorem answer (h : s.mediaFits) (w : Waiter) : (s.answer w).mediaFits := by
  cases w with
  | management => exact h.endManagement _
  | charge => exact h.verdict
  | clearing => exact h.clearingWritten
  | commit => exact h.commitWritten
  | descriptorMarker => exact h.markerWritten
  | internalMarker u => exact h.targetMarked u
  | replacement u p => exact h.replacementWritten u p
  | rerunClear u => exact h.rerunCleared u

theorem startWrite (h : s.mediaFits) : s.startWrite.mediaFits := by
  unfold State.startWrite
  split
  · exact h
  · exact .ite (h.quiet rfl) h

theorem completeWrite (h : s.mediaFits) : s.completeWrite.mediaFits := by
  unfold State.completeWrite
  split
  · exact h
  · exact foldl (fun w h => h.answer w) _ (h.quiet rfl)

end State.mediaFits

end Sys2Proof.Machine
end

section
/-! The media path's form at the Dispatcher's issues and beginnings, at the link's replies, resets and capacity read, and
at the rail's events (R33, R37, R49 to R55, R59 to R62). -/

namespace Sys2Proof.Machine

/-! ## What the Dispatcher finds -/

/-- Work that some test passes is work (R32). -/
theorem State.findWork_any {s : State} {ok : QueueEntry → Bool} {e : QueueEntry} {q : List QueueEntry} :
    ∀ {earlier : List QueueEntry}, s.findWork ok earlier q = some e →
      (s.findWork (fun _ => true) earlier q).isSome = true := by
  induction q with
  | nil => exact nofun
  | cons x xs ih =>
    intro earlier found
    unfold State.findWork at found ⊢
    split
    · rfl
    · rename_i idle
      refine ih (?_ : s.findWork ok (earlier ++ [x]) xs = some e)
      rwa [if_neg (by simp_all)] at found

theorem State.withRail_findWork (s : State) (r : Rail) (ok : QueueEntry → Bool) (earlier q : List QueueEntry) :
    (s.withRail r).findWork ok earlier q = s.findWork ok earlier q := by
  induction q generalizing earlier with
  | nil => rfl
  | cons x xs ih =>
    simp only [State.findWork, ih]
    rfl

/-- Need is the same once the rail has followed it. -/
theorem State.followNeed_need (s : State) : s.followNeed.need = s.need := by
  simp only [State.need, State.anyWork, State.followNeed, State.withRail_findWork]
  rfl

/-- Without need there is nothing to issue (R58). -/
theorem State.nextIssue_of_no_need {s : State} (h : s.need = false) : s.nextIssue = none := by
  simp only [State.need, Bool.or_eq_false_iff, decide_eq_false_iff_not] at h
  obtain ⟨⟨⟨⟨-, idle⟩, -⟩, stopped⟩, -⟩ := h
  have work : s.findWork s.bufferAvailable [] s.queue = none := by
    by_contra found
    obtain ⟨e, found⟩ := Option.ne_none_iff_exists'.1 found
    cases idle.symm.trans (State.findWork_any found)
  have presented : s.presented = none := by simp [State.presented, stopped]
  simp only [State.nextIssue, work, presented]
  split
  · split <;> rfl
  · rfl

theorem State.fillSlots_of_no_need {s : State} (h : s.need = false) (n : Nat) : State.fillSlots n s = s := by
  cases n with
  | zero => rfl
  | succ n => rw [State.fillSlots, State.nextIssue_of_no_need h]

/-- An issue is that of a command or that of the erase segment, where operations may begin (R33). -/
theorem State.nextIssue_cases {s t : State} (e : s.nextIssue = some t) : s.mediaReady = true ∧
    ∃ n, (∃ x, t = s.issueHost n x) ∨ ∃ j, t = s.issueErase n j := by
  unfold State.nextIssue at e
  split at e
  · rename_i ready
    refine ⟨ready, ?_⟩
    split at e
    · cases e
    · rename_i n _
      refine ⟨n, ?_⟩
      split at e
      · split at e
        · cases e; exact .inr ⟨_, rfl⟩
        · cases e; exact .inl ⟨_, rfl⟩
      · cases e; exact .inl ⟨_, rfl⟩
      · cases e; exact .inr ⟨_, rfl⟩
      · cases e
  · cases e

theorem State.waitingSlot_slot {s : State} {n : Fin 4} {m : MediaSlot} (e : s.waitingSlot = some (n, m)) :
    s.slots[n] = some m := by
  obtain ⟨k, -, found⟩ := List.exists_of_findSome?_eq_some e
  split at found
  · rename_i x slot
    split at found
    · cases found; exact slot
    · cases found
  · cases found

theorem State.intakeSlot_slot {s : State} {n : Fin 4} {m : MediaSlot} {e : QueueEntry} {left : Nat}
    (found : s.intakeSlot = some (n, m, e, left)) : s.slots[n] = some m ∧ m.stage = .intake := by
  unfold State.intakeSlot at found
  split at found
  · split at found
    · obtain ⟨k, -, found⟩ := List.exists_of_findSome?_eq_some found
      split at found
      · rename_i x slot
        split at found
        · rename_i intake
          cases found
          simp only [Bool.and_eq_true, decide_eq_true_eq] at intake
          exact ⟨slot, intake.2⟩
        · cases found
      · cases found
    · cases found
  all_goals cases found

/-- An issued operation has its timeout running exactly where it begins at its issue (R37, R49). -/
theorem QueueEntry.issued_timeout (e : QueueEntry) (buffer : Option (Fin 4)) :
    (e.issued buffer).timeout.isSome = true ↔ (e.issued buffer).stage = .outstanding := by
  by_cases write : e.op = .write <;> simp [QueueEntry.issued, write]

namespace State.mediaFits

variable {s t : State}

/-! ## Issue and beginning -/

theorem beginSlot (h : s.mediaFits) {n : Fin 4} {m x : MediaSlot} (held : s.slots[n] = some x)
    (ready : s.mediaReady = true) : (s.beginSlot n m).mediaFits :=
  h.setSlot n (h.timer_of_slot held) (by simp) fun _ => ready

/-- An issue, which leaves the rail, while no switch-off timer runs. -/
theorem nextIssue (h : s.mediaFits) (timer : s.rail.switchOffTimer = none) (e : s.nextIssue = some t) :
    t.mediaFits ∧ t.rail = s.rail := by
  obtain ⟨ready, n, ⟨x, rfl⟩ | ⟨j, rfl⟩⟩ := State.nextIssue_cases e
  · obtain ⟨port, issued, -⟩ := s.issueHost_spec n x
    rw [issued]
    exact ⟨(h.setSlot n timer (x.issued_timeout s.freeBuffer) fun _ => ready).quiet rfl, rfl⟩
  · exact ⟨(h.setSlot n timer (by simp [State.eraseSlot]) fun _ => ready).withErase _, rfl⟩

theorem fillSlots (n : Nat) : ∀ {s : State}, s.mediaFits → s.rail.switchOffTimer = none →
    (State.fillSlots n s).mediaFits := by
  induction n with
  | zero => exact fun h _ => h
  | succ n ih =>
    intro s h timer
    unfold State.fillSlots
    split
    · obtain ⟨fit, rail⟩ := h.nextIssue timer ‹_›
      exact ih fit (by rw [rail, timer])
    · exact h

/-- The rail has followed need before an issue: with it no switch-off timer runs, and without it nothing is issued. -/
theorem segmentIssue (h : s.mediaFits) : (State.fillSlots 4 s.followNeed).mediaFits := by
  cases need : s.need with
  | false =>
    rw [State.fillSlots_of_no_need (s.followNeed_need.trans need)]
    exact h.followNeed
  | true =>
    refine fillSlots 4 h.followNeed ?_
    rw [State.followNeed, need]
    exact h.rail.follow_need

/-- A WRITE's intake ends, and it waits to begin (R37). -/
theorem endIntake (h : s.mediaFits) {n : Fin 4} {m : MediaSlot} (e : QueueEntry) (left : Nat) (data : List Sector)
    (slot : s.slots[n] = some m) (intake : m.stage = .intake) : (s.endIntake n m e left data).mediaFits := by
  have stopped : ¬ m.timeout.isSome = true := by simp [h.timeouts n m slot, intake]
  exact (h.setSlot n (m := { m with stage := .waiting, data := s.intakeData m.unit (e.segmentLba m.segment) data })
    (h.timer_of_slot slot) (by simpa using stopped) nofun).quiet rfl

/-! ## Results -/

theorem handResult (h : s.mediaFits) (m : MediaSlot) (x : MediaResult) : (s.handResult m x).mediaFits := by
  unfold State.handResult
  split
  · exact h.ofCommand (.hostResult s m _ x)
  · exact h.eraseResult _ _

theorem endSlot (h : s.mediaFits) (n : Fin 4) (x : MediaResult) : (s.endSlot n x).mediaFits := by
  unfold State.endSlot
  split
  · exact (h.freeSlot n).handResult _ x
  · exact h

theorem endOutstanding (h : s.mediaFits) (x : MediaResult) : (s.endOutstanding x).mediaFits :=
  foldl (fun n h => .ite (h.endSlot n x) h) _ h

/-! ## The part's own events -/

theorem nextUnserved (h : s.mediaFits) (e : s.nextUnserved = some t) : t.mediaFits := by
  unfold State.nextUnserved at e
  split at e
  · cases e; exact h.eraseResult _ _
  · split at e
    · split at e
      · cases e; exact h.endSlot _ _
      · split at e
        · cases e; exact h.endEntry _ _
        · split at e
          · cases e; exact h.eraseResult _ _
          · cases e
    · cases e

theorem nextBegin (h : s.mediaFits) (e : s.nextBegin = some t) : t.mediaFits := by
  unfold State.nextBegin at e
  split at e
  · obtain ⟨p, found, rfl⟩ := Option.map_eq_some_iff.1 e
    exact h.beginSlot (State.waitingSlot_slot found) ‹_›
  · cases e

/-- A next event that some condition gives leaves the form where each does. -/
theorem ofOrElse {a b : Option State} (first : a = some t → t.mediaFits) (second : b = some t → t.mediaFits)
    (e : (a <|> b) = some t) : t.mediaFits := by
  cases a with
  | none => exact second (by simpa using e)
  | some x => exact first (by simpa using e)

theorem internal (h : s.mediaFits) (e : s.internal = some t) : t.mediaFits := by
  refine ofOrElse (fun e => ?_) (ofOrElse h.advanceStartUp (ofOrElse h.nextBegin (ofOrElse h.nextUnserved
    (ofOrElse (fun e => ?_) (ofOrElse (fun e => ?_) (ofOrElse (fun e => ?_) fun e => ?_)))))) e
  · obtain ⟨u, -, rfl⟩ := Option.map_eq_some_iff.1 e
    exact h.signalDrained u
  · unfold State.nextFollow at e
    split at e
    · cases e
    · cases e; exact h.followNeed
  · unfold State.nextStart at e
    split at e
    · cases e; exact h.startDescriptor
    · cases e
  · unfold State.nextCommand at e
    split at e
    · obtain ⟨c, -, rfl⟩ := Option.map_eq_some_iff.1 e
      exact h.takeManagement c
    · cases e
  · unfold State.nextTransfer at e
    split at e
    · cases e
    · split at e
      · cases e; exact (h.quiet (by rfl)).takeTransfer _
      · cases e

theorem finish (h : s.mediaFits) : s.finish.mediaFits :=
  (State.settle_induction (P := State.mediaFits) (fun _ _ h e => h.internal e) _ s h).refreshLeds

/-! ## The link -/

/-- Off READY or off ON nothing is outstanding. -/
theorem linkSlot_none (h : s.mediaFits) (other : s.link.state ≠ .ready ∨ s.rail.state ≠ .on) (n : Fin 4) :
    s.linkSlot n = none := by
  by_contra held
  obtain ⟨m, held⟩ := Option.ne_none_iff_exists'.1 held
  obtain ⟨slot, out⟩ := (s.linkSlot_eq_some_iff n m).1 held
  obtain ⟨ready, on⟩ := h.outstanding n m slot out
  exact other.elim (· ready) (· on)

/-- Off SIZING no capacity read is under way. -/
theorem capacityRead_idle (h : s.mediaFits) (other : s.link.state ≠ .sizing) : s.link.capacityRead = .idle := by
  by_contra read
  exact other (h.sizing read)

theorem endReset (h : s.mediaFits) (resetting : s.link.state = .resetting) : s.endReset.mediaFits :=
  have idle := h.capacityRead_idle (by simp [resetting])
  h.withLink (.inl rfl) (absurd idle) (by simp [idle]) (by simp)

theorem startReset (h : s.mediaFits) (ready : s.link.state = .ready) (ended : ∀ n, s.linkSlot n = none) :
    s.startReset.mediaFits :=
  have idle := h.capacityRead_idle (by simp [ready])
  h.withLink (.inr ended) (absurd idle) (by simp [idle]) (by simp)

/-- A timeout ends every outstanding operation before the link is reset (R51). -/
theorem mediaTimeout (h : s.mediaFits) {n : Fin 4} {m : MediaSlot} (held : s.linkSlot n = some m) :
    ((s.endSlot n .timeout).endOutstanding .reset).startReset.mediaFits := by
  obtain ⟨slot, out⟩ := (s.linkSlot_eq_some_iff n m).1 held
  have first : s.endSlot n .timeout = s.endLink .timeout n := (if_pos (by rw [held]; rfl)).symm
  obtain ⟨rest, ended⟩ := (s.endSlot n .timeout).endOutstanding_endsOnly (r := .reset) nofun
  refine ((h.endSlot n _).endOutstanding _).startReset ?_ ended
  rw [rest.link, first, (s.endLink_endsOnly (r := .timeout) nofun n).1.link]
  exact (h.outstanding n m slot out).1

/-- A capacity read under way ends with M or without (R54). -/
theorem endCapacityRead (h : s.mediaFits) (read : s.link.capacityRead ≠ .idle) (m : Option Nat) :
    (s.endCapacityRead m).mediaFits := by
  have sizing := h.sizing read
  have stopped : ¬ s.link.resetTimer.isSome = true := by simp [h.resetting, sizing]
  have ended := h.withLink
    (l := { s.link with state := if m.isSome then .ready else .absent, capacity := m, capacityRead := .idle })
    (.inr (h.linkSlot_none (by simp [sizing]))) (absurd rfl) nofun
    (iff_of_false stopped (by cases m <;> simp))
  obtain ⟨link, rail, -, slots, -, -⟩ := s.endCapacityRead_frame m
  exact ended.quiet (by rw [State.media, slots, link, rail]; rfl)

theorem failCapacityRead (h : s.mediaFits) : s.failCapacityRead.mediaFits := by
  unfold State.failCapacityRead
  split
  · exact h
  · exact h.endCapacityRead ‹_› none

theorem sendCapacityRequest (h : s.mediaFits) (on : s.rail.state = .on) : s.sendCapacityRequest.mediaFits := by
  unfold State.sendCapacityRequest
  split
  · rename_i awaiting
    have read : s.link.capacityRead ≠ .idle := by simp [awaiting]
    have sizing := h.sizing read
    exact h.withLink (.inr (h.linkSlot_none (by simp [sizing]))) (fun _ => ⟨read, sizing⟩) (fun _ => on) h.resetting
  · exact h

/-! ## The rail -/

theorem powerGood (h : s.mediaFits) (ramping : s.rail.state = .ramping) :
    (s.withRail { s.rail with state := .on, retryCount := 0, rampTimer := none }).sendCapacityRequest.mediaFits := by
  obtain ⟨-, retry, timer, -⟩ := (Rail.fits_ramping ramping).1 h.rail
  exact .sendCapacityRequest (h.withRail ((Rail.fits_on rfl).2 ⟨rfl, retry, rfl⟩) (fun _ => .inl rfl)
    (by simp [timer])) rfl

theorem failRamp (h : s.mediaFits) (ramping : s.rail.state = .ramping) : s.failRamp.mediaFits := by
  obtain ⟨-, retry, timer, -⟩ := (Rail.fits_ramping ramping).1 h.rail
  have leaves {p : Prop} (on : s.rail.state = .on) : p := by simp [ramping] at on
  by_cases few : s.rail.retryCount < 2
  · rw [State.failRamp_retries few]
    refine .place (h.withRail ?_ leaves (by simp [timer])) _
    exact (Rail.fits_fault rfl).2 ⟨rfl, rfl, timer, few⟩
  · rw [State.failRamp_fails (Nat.le_of_not_lt few)]
    refine .failCapacityRead (.place (h.withRail ?_ leaves (by simp [timer])) _)
    exact (Rail.fits_failed rfl).2 ⟨rfl, retry, timer, rfl⟩

theorem retryTimer (h : s.mediaFits) (fault : s.rail.state = .fault) :
    (s.withRail (if s.need then { s.rail with state := .ramping, retryTimer := none, rampTimer := some rampTime }
      else { s.rail with state := .off, retryTimer := none })).mediaFits := by
  obtain ⟨ramp, -, timer, count⟩ := (Rail.fits_fault fault).1 h.rail
  have leaves {p : Prop} (on : s.rail.state = .on) : p := by simp [fault] at on
  split
  · exact h.withRail ((Rail.fits_ramping rfl).2 ⟨rfl, rfl, timer, count⟩) leaves (by simp [timer])
  · exact h.withRail ((Rail.fits_off rfl).2 ⟨ramp, rfl, timer, count⟩) leaves (by simp [timer])

theorem switchOff (h : s.mediaFits) (on : s.rail.state = .on) (running : s.rail.switchOffTimer.isSome = true) :
    (s.withRail { s.rail with state := .off, retryCount := 0, switchOffTimer := none }).mediaFits := by
  obtain ⟨ramp, retry, -⟩ := (Rail.fits_on on).1 h.rail
  have free : s.mediaFree := ⟨(h.idle running).1, (h.idle running).2⟩
  exact h.withRail ((Rail.fits_off rfl).2 ⟨ramp, retry, rfl, Nat.zero_le 2⟩) (fun _ => .inr free.packageIdle) nofun

/-- At a loss of power-good the outstanding operations and the capacity read end before the rail is seen off ON (R61). -/
theorem powerGoodLoss (h : s.mediaFits) (on : s.rail.state = .on) :
    ((s.faulted.endOutstanding .power).failCapacityRead).mediaFits := by
  obtain ⟨ramp, -, count⟩ := (Rail.fits_on on).1 h.rail
  obtain ⟨ends, ended⟩ := s.faulted.endOutstanding_endsOnly (r := .power) nofun
  have freed : (s.withSlots (s.faulted.endOutstanding .power).slots).mediaFits :=
    h.withSlots fun n m slot => ⟨m, ends.slot_of_some slot, rfl, rfl⟩
  obtain ⟨link', rail', -, slots', -, -⟩ := (s.faulted.endOutstanding .power).failCapacityRead_frame
  obtain ⟨link, -, -, slots, -, -⟩ := (s.withSlots (s.faulted.endOutstanding .power).slots).failCapacityRead_frame
  have idle : (s.withSlots (s.faulted.endOutstanding .power).slots).failCapacityRead.packageIdle := by
    constructor
    · intro n
      rw [State.linkSlot, slots]
      exact ended n
    · rw [link]
      split <;> simp_all
  have fits : s.faulted.rail.fits := (Rail.fits_fault rfl).2 ⟨ramp, rfl, rfl, count.trans_le (Nat.zero_le 2)⟩
  refine (freed.failCapacityRead.withRail fits (fun _ => .inr idle) nofun).quiet ?_
  rw [State.media, slots', link', rail', ends.link, ends.rail]
  simp only [State.media, State.withRail_slots, State.withRail_link, State.withRail_rail, slots, link]
  rfl

/-! ## Power and the bus -/

/-- The media path without power, or as power comes: nothing is held, the link is SIZING and the rail OFF. -/
theorem ofBlank (slots : ∀ n : Fin 4, s.slots[n] = none) (sizing : s.link.state = .sizing)
    (reset : s.link.resetTimer = none) (request : s.link.capacityRead ≠ .outstanding)
    (off : s.rail.state = .off) (rail : s.rail.fits) : s.mediaFits := by
  obtain ⟨-, -, timer, -⟩ := (Rail.fits_off off).1 rail
  exact ⟨fun n m slot => (by simp [slots] at slot), fun n m slot => (by simp [slots] at slot), rail, by simp [timer],
    fun _ => sizing, fun read => absurd read request, by simp [reset, sizing]⟩

theorem unpoweredOf (s : State) : s.unpoweredOf.mediaFits :=
  ofBlank (fun n => by simp [State.unpoweredOf, State.unpowered]) rfl rfl nofun rfl
    ((Rail.fits_off rfl).2 ⟨rfl, rfl, rfl, Nat.zero_le 2⟩)

theorem powered (s : State) : s.powered.mediaFits := by
  have loaded : s.loadedBlocks.mediaFits :=
    ofBlank (fun n => by simp [State.loadedBlocks, State.unpowered]) rfl rfl nofun rfl
      ((Rail.fits_off rfl).2 ⟨rfl, rfl, rfl, Nat.zero_le 2⟩)
  rw [State.powered_eq]
  exact loaded.followNeed.refreshLeds

/-- Work that a bus reset leaves in a slot is at the stage it was at (R45). -/
theorem resetPath (h : s.mediaFits) : s.resetPath.mediaFits := by
  have kept {x : Option MediaSlot} {m : MediaSlot} (left : resetSlot x = some m) :
      ∃ m', x = some m' ∧ m.stage = m'.stage ∧ m.timeout = m'.timeout := by
    unfold resetSlot at left
    split at left
    · cases left
    · split at left
      · cases left; exact ⟨_, rfl, rfl, rfl⟩
      · split at left
        · cases left; exact ⟨_, rfl, rfl, rfl⟩
        · cases left
  exact (h.withSlots (x := s.slots.map resetSlot) fun n m slot => kept (by simpa using slot)).quiet rfl

/-! ## The commands -/

/-- A command that acts leaves the form where its effect does. -/
theorem ofAct (h : s.mediaFits) {f : State → State} (e : s.act f = .next t) (acts : (f s).mediaFits) : t.mediaFits := by
  unfold State.act at e
  cases e
  exact .ite acts h

/-- A transfer of the host, which is taken or waits. -/
theorem ofTransfer (h : s.mediaFits) {i : Instr} (e : (s.act fun s => s.transfer i fun s => s.takeTransfer i) = .next t) :
    t.mediaFits :=
  h.ofAct e (.ite (h.takeTransfer i).finish (h.quiet rfl))

end State.mediaFits

/-- Every command leaves the media path's form. -/
theorem exec_mediaFits {i : Instr} {s t : State} (h : s.mediaFits) (e : exec i s = .next t) : t.mediaFits := by
  cases i <;> dsimp only [exec] at e
  case read r => exact h.ofTransfer (i := .read r) e
  case write r => exact h.ofTransfer (i := .write r) e
  case trim r => exact h.ofTransfer (i := .trim r) e
  case sync r => exact h.ofTransfer (i := .sync r) e
  case unitInfo r => exact h.ofTransfer (i := .unitInfo r) e
  case status r b => exact h.ofTransfer (i := .status r b) e
  case eventRead r b => exact h.ofTransfer (i := .eventRead r b) e
  case unitDefine r b => exact h.ofTransfer (i := .unitDefine r b) e
  case unitDelete r b => exact h.ofTransfer (i := .unitDelete r b) e
  case grantSet r b => exact h.ofTransfer (i := .grantSet r b) e
  case credentialRemove r b => exact h.ofTransfer (i := .credentialRemove r b) e
  case enroll r b => exact h.ofTransfer (i := .enroll r b) e
  case policySet r b => exact h.ofTransfer (i := .policySet r b) e
  case lock r b => exact h.ofTransfer (i := .lock r b) e
  case eraseListWrite r b => exact h.ofTransfer (i := .eraseListWrite r b) e
  case eraseTail r b => exact h.ofTransfer (i := .eraseTail r b) e
  case eraseAbort r b => exact h.ofTransfer (i := .eraseAbort r b) e
  case eraseClear r b => exact h.ofTransfer (i := .eraseClear r b) e
  case tamperClear r b => exact h.ofTransfer (i := .tamperClear r b) e
  case unknownOp op r => exact h.ofTransfer (i := .unknownOp op r) e
  case discardedTransfer n => exact h.ofTransfer (i := .discardedTransfer n) e
  case refusedStatusSent =>
    refine h.ofAct e ?_
    split
    · exact .ite (h.quiet (by rfl)).finish h
    · exact h
  case returnedDataSent =>
    refine h.ofAct e ?_
    split
    · split
      · exact .ite (h.quiet rfl) h
      · exact h
    · exact h
  case statusRecordSent =>
    refine h.ofAct e ?_
    split
    · exact .ite (h.quiet (by rfl)).finish h
    · exact h
  case dataStageDiscarded => exact h.ofAct e (.ite (h.quiet (by rfl)).finish h)
  case interruptPoll => exact h.ofAct e (.ite (h.quiet rfl) h)
  case readDataSent n =>
    refine h.ofAct e ?_
    split
    · exact h
    · exact .ite (h.quiet (by rfl)).finish h
  case writeIntakeEnd data =>
    refine h.ofAct e ?_
    split
    · rename_i found
      obtain ⟨slot, intake⟩ := State.intakeSlot_slot found
      exact .ite (h.endIntake _ _ data slot intake).finish h
    · exact h
  case segmentIssue => exact h.ofAct e h.segmentIssue.finish
  case operationBegin n =>
    refine h.ofAct e ?_
    split
    · rename_i slot
      split
      · rename_i due
        simp only [Bool.and_eq_true] at due
        exact (h.beginSlot slot due.1).finish
      · exact h
    · exact h
  case mediaCompletion n reply =>
    refine h.ofAct e ?_
    split
    · split
      · exact (h.endSlot _ _).finish
      · exact h
    · exact h
  case mediaTimeoutExpiry n =>
    refine h.ofAct e ?_
    split
    · exact ((h.mediaTimeout ‹_›).place _).finish
    · exact h
  case resetDoneReport =>
    refine h.ofAct e ?_
    split
    · exact (h.endReset ‹_›).finish
    · exact h
  case resetTimerExpiry =>
    refine h.ofAct e ?_
    split
    · rename_i due
      simp only [Bool.and_eq_true, decide_eq_true_eq] at due
      exact (h.endReset due.1).finish
    · exact h
  case capacityReport answer =>
    refine h.ofAct e ?_
    split
    · rename_i out
      exact (h.endCapacityRead (by simp [out]) _).finish
    · exact h
  case capacityCountdownExpiry =>
    refine h.ofAct e ?_
    split
    · rename_i out
      exact (h.endCapacityRead (by simp [out]) _).finish
    · exact h
  case powerGood =>
    refine h.ofAct e ?_
    split
    · exact (h.powerGood ‹_›).finish
    · exact h
  case rampTimerExpiry =>
    refine h.ofAct e ?_
    split
    · rename_i due
      simp only [Bool.and_eq_true, decide_eq_true_eq] at due
      exact (h.failRamp due.1).finish
    · exact h
  case retryTimerExpiry =>
    refine h.ofAct e ?_
    split
    · rename_i due
      simp only [Bool.and_eq_true, decide_eq_true_eq] at due
      exact h.retryTimer due.1
    · exact h
  case powerGoodLoss =>
    refine h.ofAct e ?_
    split
    · exact (h.powerGoodLoss ‹_›).finish
    · exact h
  case switchOffTimerExpiry =>
    refine h.ofAct e ?_
    split
    · rename_i due
      simp only [Bool.and_eq_true, decide_eq_true_eq] at due
      exact (h.switchOff due.1 due.2).finish
    · exact h
  case drained u => exact h.ofAct e (.ite (h.signalDrained u).finish h)
  case idleTimerExpiry u => exact h.ofAct e (.ite (h.closeUnit _ u).finish h)
  case sessionIdleTimerExpiry => exact h.ofAct e (.ite h.closeSession.refreshLeds h)
  case keyReplacement u => exact h.ofAct e (h.takeRequest u).finish
  case writeStart => exact h.ofAct e h.startWrite
  case writeCompletion => exact h.ofAct e (.ite h.completeWrite.finish h)
  case penaltyTimerExpiry => exact h.ofAct e (.ite h.penaltyExpired.refreshLeds h)
  case recognisedPress keys => exact h.ofAct e ((h.withScanner _).takePresses _).finish
  case recognisedRelease p => exact h.ofAct e (.ite ((h.withScanner _).takeRelease p).clearLockout.refreshLeds h)
  case holdTimerExpiry => exact h.ofAct e (.ite (h.withScanner _).longPress.refreshLeds h)
  case recognisedSwitchChange on => exact h.ofAct e (.ite (h.quiet rfl) h)
  case interKeyExpiry => exact h.ofAct e (.ite h.interKeyExpired h)
  case enrollmentWindowExpiry => exact h.ofAct e (.ite (h.abandonAny _).refreshLeds h)
  case transientEnd l =>
    cases l with
    | red | green => exact h.ofAct e (h.withLeds _).refreshLeds
    | blue => exact h.ofAct e h
  case patternPhaseEnd l => cases l <;> exact h.ofAct e (h.withLeds _)
  case restTimerExpiry => exact h.ofAct e (h.withLeds _)
  case alarmRaise c v => exact h.ofAct e (h.completeRun _ v _).finish
  case alarmClear c v => exact h.ofAct e (h.completeRun _ v _).finish
  case enclosureTrip v => exact h.ofAct e (h.completeRun _ v _).finish
  case enclosureLevelIn v => exact h.ofAct e (h.completeRun _ v _)
  case descriptorStart => exact h.ofAct e (.ite h.startDescriptor.finish h)
  case progressDelayExpiry => exact h.ofAct e (.ite ((h.withErase _).place _) h)
  case eraseResume =>
    refine h.ofAct e (.ite ?_ h)
    split
    · exact (h.startRerun _ _).finish
    · exact h
  case owedEnclosureErase => exact h.ofAct e (.ite h.endReruns.finish h)
  case remoteWakeEnable => exact h.ofAct e (h.quiet rfl)
  case remoteWakeDisable => exact h.ofAct e (h.quiet rfl)
  case powerOn => cases e; exact .powered s
  case powerLoss => exact h.ofAct e (.unpoweredOf s)
  case busReset => exact h.ofAct e (h.resetPath.quiet (by rfl)).finish
  case standbyEntry => exact h.ofAct e (.ite h ((h.quiet (by rfl)).closeUnits _ _).finish)
  case standbyExit => exact h.ofAct e (.ite (h.quiet (by rfl)).finish h)
  case scanSample keys on => exact h.ofAct e (h.sampleKeys keys on).finish
  case channelSample samples =>
    exact h.ofAct e (State.mediaFits.foldl (fun p h => h.sampleChannel p.1 p.2) samples h).finish

/-- Settles O7: every command leaves the media path's form, and a step takes one command from the queue or idles. -/
theorem stepKeepsMediaFits : Obligations.StepKeepsMediaFits := by
  intro s t h e
  unfold step at e
  split at e
  · cases e; exact h
  · rename_i i rest _
    exact exec_mediaFits (h.quiet (t := s.withPending rest) rfl) e

end Sys2Proof.Machine
end

section
/-! LOCK: the OPEN units of its mask close, and a full mask closes the session (R70, R141, R142, R148, R152, R154). -/

namespace Sys2Proof.Machine

/-! ## The commands of a unit that closes -/

/-- A storage command of which nothing is outstanding has ended after the close (R42). -/
theorem State.closedEntry_ending {s : State} {e : QueueEntry} (st : Status) (free : s.hasOutstanding e.tag = false) :
    (s.closedEntry st e).state = .ending := by
  unfold State.closedEntry
  cases state : e.state <;> simp [free]
  split <;> simp [state]

/-- The part of an entry that no close changes: the command that it stands for. -/
def QueueEntry.command (e : QueueEntry) : Tag × RecordHead × Op := (e.tag, e.head, e.op)

theorem State.closedQueue_commands (s : State) (u : UnitNo) (st : Status) :
    (s.closedQueue u st).map QueueEntry.command = s.queue.map QueueEntry.command := by
  rw [State.closedQueue, List.map_map]
  refine List.map_congr_left fun e _ => ?_
  obtain ⟨tag, head, op⟩ := s.closedEntry_frame st e
  show QueueEntry.command (if _ then _ else _) = _
  split
  · simp only [QueueEntry.command, tag, head, op]
  · rfl

/-- A close leaves an entry that is no storage command as it is. -/
theorem State.closedQueue_find? (s : State) (u : UnitNo) (st : Status) {t : Tag} {e : QueueEntry}
    (found : s.entryOf t = some e) (other : e.op.usesMedia = false) :
    (s.closedQueue u st).find? (fun e => decide (e.tag = t)) = some e := by
  have tags : (fun e : QueueEntry => decide (e.tag = t)) ∘
      (fun e => if e.names u && e.op.usesMedia then s.closedEntry st e else e) = fun e => decide (e.tag = t) := by
    funext e
    dsimp only [Function.comp]
    split
    · rw [(s.closedEntry_frame st e).1]
    · rfl
  rw [State.closedQueue, List.find?_map, tags, show s.queue.find? (fun e => decide (e.tag = t)) = some e from found]
  simp [other]

theorem State.startClose_unitRun (s : State) (u : UnitNo) (c : CloseCause) :
    (s.startClose u c).unitRun u = { s.unitRun u with state := .closing, idleTimer := none } := by
  simp [State.unitRun, State.startClose, State.setUnit, State.setKeySlot, State.place]

/-! ## What a close leaves alone -/

/-- `m` is `s` but for what closes change: units, key slots, the open order, the Event Queue and the command path, on which every
command stands where it stood, and those that are no storage commands as they were. -/
structure State.closesOnly (s m : State) : Prop where
  frame : ∃ units cipher order events queue port, m = { s with
    units := units, cipher := cipher, control := { s.control with openOrder := order }, events := events, queue := queue,
    port := port }
  commands : m.queue.map QueueEntry.command = s.queue.map QueueEntry.command
  others : ∀ t e, s.entryOf t = some e → e.op.usesMedia = false → m.entryOf t = some e

theorem State.closesOnly.refl (s : State) : s.closesOnly s := ⟨⟨_, _, _, _, _, _, rfl⟩, rfl, fun _ _ found _ => found⟩

theorem State.closesOnly.trans {r s m : State} (a : r.closesOnly s) (b : s.closesOnly m) : r.closesOnly m := by
  obtain ⟨⟨_, _, _, _, _, _, rfl⟩, commands, others⟩ := a
  obtain ⟨⟨_, _, _, _, _, _, rfl⟩, commands', others'⟩ := b
  exact ⟨⟨_, _, _, _, _, _, rfl⟩, commands'.trans commands,
    fun t e found other => others' t e (others t e found other) other⟩

section Unit

variable {s : State} {u : UnitNo} (c : CloseCause) (unclaimed : s.unitState u = .opened → (s.unitRun u).claimPending = false)
include unclaimed

theorem State.closeUnit_closesOnly : s.closesOnly (s.closeUnit c u) := by
  by_cases opened : s.unitState u = .opened
  · obtain ⟨port, ended⟩ := (s.startClose u c).endCommands_port u .locked
    have closing : s.closesOnly ((s.startClose u c).endCommands u .locked) := by
      rw [ended]
      exact ⟨⟨_, _, _, _, _, _, rfl⟩, (s.startClose u c).closedQueue_commands u .locked,
        fun t e found other => (s.startClose u c).closedQueue_find? u .locked found other⟩
    have run : ((s.startClose u c).endCommands u .locked).unitRun u =
        { s.unitRun u with state := .closing, idleTimer := none } := by
      rw [ended]
      exact s.startClose_unitRun u c
    unfold State.closeUnit State.drainNow
    rw [if_pos opened]
    split
    · rw [State.signalDrained_closing (congrArg UnitRun.state run) (by rw [run]; exact unclaimed opened)]
      exact closing.trans ⟨⟨_, _, _, _, _, _, rfl⟩, rfl, fun _ _ found _ => found⟩
    · exact closing
  · rw [State.closeUnit, if_neg opened]
    exact .refl s

theorem State.closeUnit_unitRun_of_ne {v : UnitNo} (other : v ≠ u) : (s.closeUnit c u).unitRun v = s.unitRun v := by
  by_cases opened : s.unitState u = .opened
  · exact ((s.closeUnit_spec c u opened (unclaimed opened)).others v other).1
  · rw [State.closeUnit, if_neg opened]

theorem State.closeUnit_not_opened : (s.closeUnit c u).unitState u ≠ .opened := by
  by_cases opened : s.unitState u = .opened
  · rcases (s.closeUnit_spec c u opened (unclaimed opened)).unit.either with ⟨run, -⟩ | ⟨run, -⟩ <;>
      simp [State.unitState, run]
  · rwa [State.closeUnit, if_neg opened]

end Unit

/-- Nothing of the unit is outstanding: no slot works for it, and none for a storage command of it (R31). -/
def State.idleUnit (s : State) (u : UnitNo) : Prop :=
  s.inFlight u = 0 ∧ ∀ k ∈ s.queue.map QueueEntry.command, k.2.1.unit.toNat = u.val → k.2.2.usesMedia = true →
    s.hasOutstanding k.1 = false

theorem State.closesOnly.idleUnit {s m : State} (h : s.closesOnly m) {u : UnitNo} (idle : s.idleUnit u) :
    m.idleUnit u := by
  obtain ⟨⟨_, _, _, _, _, _, rfl⟩, commands, -⟩ := h
  exact ⟨idle.1, by rw [commands]; exact idle.2⟩

/-- An OPEN unit of which nothing is outstanding is LOCKED at its close (R31, R71). -/
theorem State.closeUnit_locked {s : State} {u : UnitNo} (c : CloseCause) (opened : s.unitState u = .opened)
    (unclaimed : (s.unitRun u).claimPending = false) (idle : s.idleUnit u) : (s.closeUnit c u).unitState u = .locked := by
  obtain ⟨port, ended⟩ := (s.startClose u c).endCommands_port u .locked
  have run : ((s.startClose u c).endCommands u .locked).unitRun u =
      { s.unitRun u with state := .closing, idleTimer := none } := by
    rw [ended]
    exact s.startClose_unitRun u c
  have closing : ((s.startClose u c).endCommands u .locked).unitState u = .closing := congrArg UnitRun.state run
  have commands : ∀ e ∈ ((s.startClose u c).endCommands u .locked).queue, e.head.unit.toNat = u.val →
      e.op.usesMedia = true → e.state = .ending := by
    rw [ended]
    intro y mem named media
    obtain ⟨e, before, rfl⟩ := List.mem_map.1 mem
    by_cases storage : (e.names u && e.op.usesMedia) = true
    · rw [if_pos storage]
      simp only [Bool.and_eq_true, QueueEntry.names, decide_eq_true_eq] at storage
      exact State.closedEntry_ending _ (idle.2 _ (List.mem_map_of_mem before) storage.1 storage.2)
    · rw [if_neg storage] at named media
      exact absurd (by simp [QueueEntry.names, named, media]) storage
  have due : ((s.startClose u c).endCommands u .locked).drainDue u = true :=
    State.drainDue_closing closing (by rw [ended]; exact idle.1) commands
  unfold State.closeUnit State.drainNow
  rw [if_pos opened, if_pos due, State.signalDrained_closing closing (by rw [run]; exact unclaimed)]
  simp [State.unitState, State.unitRun]

/-! ## Closes of several units -/

/-- No OPEN unit is claimed (R135, R144). -/
def State.noneClaimed (s : State) : Prop := ∀ u, s.unitState u = .opened → (s.unitRun u).claimPending = false

theorem State.noneClaimed.closeUnit {s : State} (h : s.noneClaimed) (c : CloseCause) (u : UnitNo) :
    (s.closeUnit c u).noneClaimed := by
  intro v opened
  have other : v ≠ u := by rintro rfl; exact State.closeUnit_not_opened c (h v) opened
  have run := State.closeUnit_unitRun_of_ne c (h u) other
  rw [run]
  exact h v (by rwa [State.unitState, run] at opened)

theorem State.closeUnits_closesOnly (c : CloseCause) (us : List UnitNo) {s : State} (h : s.noneClaimed) :
    s.closesOnly (s.closeUnits c us) := by
  induction us generalizing s with
  | nil => exact .refl s
  | cons u us ih => exact (State.closeUnit_closesOnly c (h u)).trans (ih (h.closeUnit c u))

/-- Of the units that a close cause reaches, an OPEN one of which nothing is outstanding is LOCKED at once (R31, R71). -/
theorem State.closeUnits_locked (c : CloseCause) (us : List UnitNo) {s : State} {u : UnitNo} (h : s.noneClaimed)
    (named : u ∈ us) (opened : s.unitState u = .opened) (idle : s.idleUnit u) :
    (s.closeUnits c us).unitState u = .locked := by
  induction us generalizing s with
  | nil => cases named
  | cons v us ih =>
    show ((s.closeUnit c v).closeUnits c us).unitState u = .locked
    by_cases own : u = v
    · subst own
      have locked := State.closeUnit_locked c opened (h u opened) idle
      rw [State.unitState, State.closeUnits_unitRun c us _ (h.closeUnit c u) (by simp [locked])]
      exact locked
    · refine ih (h.closeUnit c v) ((List.mem_cons.1 named).resolve_left own) ?_
        ((State.closeUnit_closesOnly c (h v)).idleUnit idle)
      rwa [State.unitState, State.closeUnit_unitRun_of_ne c (h v) own]

/-! ## The session's close and the end of the command -/

/-- The close of the session abandons this enrollment: one bound to the session and not committed (R152). -/
def State.abandonsWithSession (s : State) (g : EnrollTarget) : Prop :=
  s.control.session = true ∧ s.entry.target = some g ∧ g.sessionBound = true ∧ s.entry.commitPending = false

/-- `m` is `s` but for Unit Control's session, the enrollment, the indicators and the Event Queue. -/
def State.sessionOnly (s m : State) : Prop :=
  ∃ session timer enrolling entry leds events, m = { s with
    control := { s.control with session := session, sessionTimer := timer }, enrolling := enrolling, entry := entry,
    leds := leds, events := events }

/-- What the close of the session does: it is closed, and the one entry is that of an enrollment it abandons (R152). -/
structure State.closesSession (s m : State) : Prop where
  frame : s.sessionOnly m
  session : m.control.session = false
  event : ∀ g, s.abandonsWithSession g → m.events = s.events.place (.enrollFailed g.slot .session)
  noEvent : (∀ g, ¬ s.abandonsWithSession g) → m.events = s.events

theorem State.closeSession_closesSession (s : State) : s.closesSession s.closeSession := by
  by_cases opened : s.control.session = true
  · by_cases bound : ∃ g, s.abandonsWithSession g
    · obtain ⟨g, abandoned⟩ := bound
      obtain ⟨-, target, bound, uncommitted⟩ := abandoned
      rw [State.closeSession_bound opened target uncommitted bound]
      refine ⟨⟨_, _, _, _, _, _, rfl⟩, rfl, fun g' ⟨_, target', _⟩ => ?_,
        fun none => absurd ⟨opened, target, bound, uncommitted⟩ (none g)⟩
      obtain rfl : g = g' := Option.some.inj (target.symm.trans target')
      rfl
    · have alone : s.closeSession = s.withControl { s.control with session := false, sessionTimer := none } := by
        unfold State.closeSession
        rw [if_pos opened]
        dsimp only
        split
        · next sessionBound =>
          cases target : s.entry.target with
          | none => simp [State.sessionBound, target] at sessionBound
          | some g =>
            have committed : s.entry.commitPending = true := by
              by_contra uncommitted
              exact bound ⟨g, opened, target, by simpa [State.sessionBound, target] using sessionBound,
                Bool.eq_false_of_not_eq_true uncommitted⟩
            simp [State.abandonAny, State.uncommitted, committed]
        · rfl
      rw [alone]
      exact ⟨⟨_, _, _, _, _, _, rfl⟩, rfl, fun g abandoned => absurd ⟨g, abandoned⟩ bound, fun _ => rfl⟩
  · rw [State.closeSession, if_neg opened]
    exact ⟨⟨_, _, _, _, _, _, rfl⟩, Bool.eq_false_of_not_eq_true opened, fun g abandoned => absurd abandoned.1 opened,
      fun _ => rfl⟩

/-- The command in progress ends with its status, and the rest of the command path is all that may change beside (R212). -/
theorem State.endManagement_ends {s : State} {t : Tag} {e : QueueEntry} (st : Status) (handler : s.handler = some t)
    (found : s.entryOf t = some e) (live : e.orphan = false) :
    (∃ queue port, s.endManagement st = { s with handler := none, queue := queue, port := port }) ∧
      (s.endManagement st).endedWith t ⟨st, .none⟩ := by
  have found' : (s.withHandler none).entryOf t = some e := found
  have ends : s.endManagement st = (s.withHandler none).endEntry t ⟨st, .none⟩ := by
    simp [State.endManagement, handler, State.endOrDrop, found', live, Verdict.plain]
  obtain ⟨queue, port, same, -⟩ := State.commandOnly.endEntry (s.withHandler none) t ⟨st, .none⟩
  rw [ends]
  exact ⟨⟨queue, port, same⟩, State.endEntry_endedWith found' _⟩

/-! ## The obligation -/

/-- A record that is taken finds its own entry by its tag. -/
theorem State.inProgress_entryOf {s : State} {t : Tag} (free : s.entryOf t = none) (op : Op) (h : RecordHead)
    (b : List Byte) : (s.inProgress t op h b).entryOf t = some (s.activeEntry t op h b) := by
  show (s.queue ++ [s.activeEntry t op h b]).find? _ = _
  rw [List.find?_append, show s.queue.find? (fun e => decide (e.tag = t)) = none from free]
  simp [State.activeEntry, State.newEntry]

/-- The units that a LOCK block names, in unit number order. -/
def lockMask (b : List Byte) : List UnitNo := (List.finRange 8).filter fun u => (byteAt b 0).testBit u.val

theorem mem_lockMask {b : List Byte} {u : UnitNo} : u ∈ lockMask b ↔ (byteAt b 0).testBit u.val = true := by
  simp [lockMask]

/-- LOCK before it ends: its units are closed, and the session for a full mask. -/
def State.locking (s : State) (b : List Byte) : State :=
  if byteAt b 0 = 255 then (s.closeUnits .lockCommand (lockMask b)).closeSession
  else s.closeUnits .lockCommand (lockMask b)

theorem State.runLock_eq (s : State) (b : List Byte) : s.runLock b = (s.locking b).endManagement .good := by
  simp only [State.runLock, State.locking, maskFull, decide_eq_true_eq]
  rfl

/-- LOCK leaves the session alone unless its mask is full. -/
theorem State.locking_cases (s : State) (b : List Byte) :
    let closed := s.closeUnits .lockCommand (lockMask b)
    closed.sessionOnly (s.locking b) ∧
      (s.locking b).control.session = (closed.control.session && decide (byteAt b 0 ≠ 255)) ∧
      ((∀ g, ¬ (byteAt b 0 = 255 ∧ closed.abandonsWithSession g)) → (s.locking b).events = closed.events) ∧
      ∀ g, byteAt b 0 = 255 ∧ closed.abandonsWithSession g →
        (s.locking b).events = closed.events.place (.enrollFailed g.slot .session) := by
  dsimp only
  unfold State.locking
  by_cases full : byteAt b 0 = 255
  · obtain ⟨frame, session, event, noEvent⟩ := (s.closeUnits .lockCommand (lockMask b)).closeSession_closesSession
    rw [if_pos full]
    exact ⟨frame, by simp [session, full], fun none => noEvent fun g abandoned => none g ⟨full, abandoned⟩,
      fun g abandoned => event g abandoned.2⟩
  · rw [if_neg full]
    exact ⟨⟨_, _, _, _, _, _, rfl⟩, by simp [full], fun _ => rfl, fun g abandoned => absurd abandoned.1 full⟩

/-- What LOCK leaves when it has ended: units, key slots, entries of the Event Queue and session as its closes leave them, and
the other blocks as they were. -/
structure State.locks (s m : State) (t : Tag) (b : List Byte) : Prop where
  units : m.units = (s.closeUnits .lockCommand (lockMask b)).units
  cipher : m.cipher = (s.closeUnits .lockCommand (lockMask b)).cipher
  events : m.events = (s.locking b).events
  session : m.control.session = (s.locking b).control.session
  handler : m.handler = none
  ended : m.endedWith t ⟨.good, .none⟩
  rest : m.store = s.store ∧ m.attempt = s.attempt ∧ m.scanner = s.scanner ∧ m.tamper = s.tamper

theorem State.runLock_locks {s : State} {t : Tag} {e : QueueEntry} (b : List Byte) (unclaimed : s.noneClaimed)
    (handler : s.handler = some t) (found : s.entryOf t = some e) (live : e.orphan = false)
    (other : e.op.usesMedia = false) : s.locks (s.runLock b) t b := by
  obtain ⟨⟨_, _, _, _, _, _, closed⟩, -, others⟩ := State.closeUnits_closesOnly .lockCommand (lockMask b) unclaimed
  obtain ⟨⟨_, _, _, _, _, _, locking⟩, -⟩ := s.locking_cases b
  have found' : (s.locking b).entryOf t = some e := by rw [locking]; exact others t e found other
  have handler' : (s.locking b).handler = some t := by rw [locking, closed]; exact handler
  obtain ⟨⟨queue, port, ends⟩, ended⟩ := State.endManagement_ends .good handler' found' live
  rw [State.runLock_eq]
  refine ⟨?_, ?_, ?_, ?_, ?_, ended, ?_⟩ <;> rw [ends]
  · rw [locking]
  · rw [locking]
  · rw [locking, closed]
    exact ⟨rfl, rfl, rfl, rfl⟩

/-- The enrollments that the session's close abandons are the same after the units' closes. -/
theorem State.closeUnits_abandonsWithSession (c : CloseCause) (us : List UnitNo) {s : State} (unclaimed : s.noneClaimed)
    (g : EnrollTarget) : (s.closeUnits c us).abandonsWithSession g ↔ s.abandonsWithSession g := by
  obtain ⟨⟨_, _, _, _, _, _, closed⟩, -⟩ := State.closeUnits_closesOnly c us unclaimed
  rw [closed]
  rfl

theorem State.handledControl_session (s : State) (op : Op) : (s.handledControl op).session = s.control.session := by
  unfold State.handledControl
  split <;> rfl

/-- A unit of which nothing is outstanding is idle too beside a command in progress that is no storage command. -/
theorem State.idleUnit_inProgress {s : State} {u : UnitNo} (none : s.inFlight u = 0)
    (free : ∀ e ∈ s.queue, e.names u = true → s.hasOutstanding e.tag = false) (t : Tag) {op : Op} (h : RecordHead)
    (b : List Byte) (other : op.usesMedia = false) : (s.inProgress t op h b).idleUnit u := by
  refine ⟨none, fun k mem named media => ?_⟩
  obtain ⟨e, held, rfl⟩ := List.mem_map.1 mem
  rcases List.mem_append.1 held with held | last
  · exact free e held (by simpa [QueueEntry.names, QueueEntry.command] using named)
  · obtain rfl := List.mem_singleton.1 last
    exact absurd media (by simp [QueueEntry.command, State.activeEntry, State.newEntry, other])

/-- Settles O32: the units by the closes' own laws, the session by its close's, and the rest by what LOCK leaves alone. -/
theorem lockClosesNamedUnits : Obligations.LockClosesNamedUnits := by
  intro s h b t fit r
  let run := s.inProgress t .lock h b
  let closed := run.closeUnits .lockCommand (lockMask b)
  have leads := State.management_leads r (.lock h b) b
  have unclaimed : run.noneClaimed := fun _ opened => fit.not_claimed opened
  have abandoned (g : EnrollTarget) : closed.abandonsWithSession g ↔ s.abandonsWithSession g := by
    rw [State.closeUnits_abandonsWithSession _ _ unclaimed, State.abandonsWithSession,
      show run.control.session = s.control.session from s.handledControl_session _]
    rfl
  have session : closed.control.session = s.control.session :=
    (State.keepsControls.closeUnits _ _ _).session.trans (s.handledControl_session _)
  obtain ⟨units, cipher, events, session', handler, ended, rest⟩ := State.runLock_locks b unclaimed rfl
    (State.inProgress_entryOf r.tagFree .lock h b) rfl rfl
  obtain ⟨-, lockedSession, noEvent, event⟩ := run.locking_cases b
  obtain ⟨closes, closedEvents, others, -, -⟩ := run.closeUnits_spec .lockCommand (lockMask b)
    ((List.nodup_finRange 8).filter _) unclaimed
  have unitRun (u : UnitNo) : (run.runLock b).unitRun u = closed.unitRun u := congrArg (·[u]) units
  have stays (u : UnitNo) (closed : s.unitState u ≠ .opened) : (run.runLock b).unitRun u = s.unitRun u :=
    (unitRun u).trans (run.closeUnits_unitRun .lockCommand (lockMask b) unclaimed closed)
  have closesNamed (u : UnitNo) (named : (byteAt b 0).testBit u.val = true) (opened : s.unitState u = .opened) :
      s.closes (run.runLock b) u := by
    obtain ⟨either, outstanding, -⟩ := closes u (mem_lockMask.2 named) opened
    refine ⟨?_, fun busy => ?_, fun none free => ?_⟩
    · rw [unitRun, cipher]
      exact either
    · rw [State.unitState, unitRun]
      exact outstanding busy
    · rw [State.unitState, unitRun]
      exact State.closeUnits_locked .lockCommand (lockMask b) unclaimed (mem_lockMask.2 named) opened
        (State.idleUnit_inProgress none free t h b rfl)
  have notOpened (u : UnitNo) (named : (byteAt b 0).testBit u.val = true) :
      (run.runLock b).unitState u ≠ .opened := by
    by_cases opened : s.unitState u = .opened
    · rcases (closesNamed u named opened).either with ⟨run, -⟩ | ⟨run, -⟩ <;> simp [State.unitState, run]
    · rwa [State.unitState, stays u opened]
  refine ⟨_, _, exec_management (op := .lock) rfl h b r.powered, leads,
    fun u named => ⟨notOpened u named, fun opened => notOpened u named (leads.opensNothing.1 u opened),
      closesNamed u named⟩, ⟨fun none => ?_, fun g abandons => ?_⟩, fun u => ?_, ?_, handler, ended, rest⟩
  · exact events.trans ((noEvent fun g => mt (And.imp_right (abandoned g).1) (none g)).trans closedEvents)
  · exact events.trans ((event g (abandons.imp_right (abandoned g).2)).trans (congrArg (EventQueue.place · _) closedEvents))
  · rintro (unnamed | closed)
    · exact (unitRun u).trans (others u (by simp [mem_lockMask, unnamed])).1
    · exact stays u closed
  · exact session'.trans (lockedSession.trans (by rw [session]))

end Sys2Proof.Machine
end

section
/-! The Erase Engine's unit and descriptor: markers, the release and the hand-over of a unit, and the halt and the good end of
the descriptor in progress (R157, R158, R167, R170 to R176). -/

namespace Sys2Proof.Machine

/-! ## Targets of an internal erase -/

/-- The first target that stands in a stage moves on in its place. -/
theorem advanceTarget_split {u : UnitNo} {a : TargetStage} (b : TargetStage) {before : List Target} (after : List Target)
    (fresh : ⟨u, a⟩ ∉ before) : advanceTarget u a b (before ++ ⟨u, a⟩ :: after) = before ++ ⟨u, b⟩ :: after := by
  induction before with
  | nil => simp [advanceTarget]
  | cons t ts ih =>
    simp only [List.mem_cons, not_or] at fresh
    have other : ¬ (decide (t.unit = u) && decide (t.stage = a)) = true := by
      intro own
      simp only [Bool.and_eq_true, decide_eq_true_eq] at own
      exact fresh.1 (by rw [← own.1, ← own.2])
    simp only [List.cons_append, advanceTarget]
    rw [if_neg other, ih fresh.2]

theorem State.hasTarget_iff {s : State} {i : InternalErase} (record : s.erase.internal = some i) (u : UnitNo)
    (g : TargetStage) : s.hasTarget u g = true ↔ ⟨u, g⟩ ∈ i.targets := by
  simp only [State.hasTarget, record, List.any_eq_true, Bool.and_eq_true, decide_eq_true_eq]
  constructor
  · rintro ⟨⟨v, g'⟩, mem, rfl, rfl⟩
    exact mem
  · exact fun mem => ⟨_, mem, rfl, rfl⟩

theorem State.moveTarget_split {s : State} {i : InternalErase} {u : UnitNo} {a : TargetStage} (b : TargetStage)
    {before after : List Target} (record : s.erase.internal = some i) (targets : i.targets = before ++ ⟨u, a⟩ :: after)
    (fresh : ⟨u, a⟩ ∉ before) : s.moveTarget u a b =
      s.withErase { s.erase with internal := some { i with targets := before ++ ⟨u, b⟩ :: after } } := by
  rw [State.moveTarget, record]
  dsimp only
  rw [targets, advanceTarget_split b after fresh]

/-! ## Markers -/

theorem State.setMarker_unitDef (s : State) (u : UnitNo) (w : Option EraseWork) (v : UnitNo) :
    (s.setMarker u w).unitDef v = if v = u then (s.unitDef u).map fun d => { d with marker := w } else s.unitDef v := by
  show (s.store.image.units.set u _)[v] = _
  rw [Fin.getElem_fin, Vector.getElem_set]
  simp only [← Fin.ext_iff, eq_comm (a := u)]
  rfl

theorem State.setMarker_generation (s : State) (u : UnitNo) (w : Option EraseWork) (v : UnitNo) :
    (s.setMarker u w).generation v = s.generation v := by
  unfold State.generation
  rw [State.setMarker_unitDef]
  by_cases own : v = u
  · subst own
    rw [if_pos rfl]
    cases s.unitDef v <;> rfl
  · rw [if_neg own]

theorem State.setMarker_marker (s : State) (u : UnitNo) (w : Option EraseWork) :
    (s.setMarker u w).marker u = (s.unitDef u).bind fun _ => w := by
  unfold State.marker
  rw [State.setMarker_unitDef, if_pos rfl]
  cases s.unitDef u <;> rfl

/-! ## The unit given up -/

/-- `m` is `s` but for what the engine changes of a unit that it gives up: the units' fields, the indicators, the internal erase
and the unit records with their writes; each generation stays. -/
def State.unitWork (s m : State) : Prop :=
  ∃ units leds internal records pendingSet, m = { s with
      units := units, leds := leds, erase := { s.erase with internal := internal },
      store := { s.store with image := { s.store.image with units := records }, pendingSet := pendingSet } } ∧
    ∀ v, m.generation v = s.generation v

theorem State.unitWork.refl (s : State) : s.unitWork s := ⟨_, _, _, _, _, rfl, fun _ => rfl⟩

theorem State.releaseUnit_unitWork (s : State) (u : UnitNo) : s.unitWork (s.releaseUnit u) := by
  unfold State.releaseUnit
  split
  · dsimp only
    split
    · exact ⟨_, _, _, _, _, rfl, (s.unlockErasing u).setMarker_generation u none⟩
    · exact ⟨_, _, _, _, _, rfl, fun _ => rfl⟩
  · exact .refl s

theorem State.releaseUnit_erase (s : State) (u : UnitNo) : (s.releaseUnit u).erase = s.erase := by
  unfold State.releaseUnit
  split
  · dsimp only
    split <;> rfl
  · rfl

theorem State.markTarget_unitWork (s : State) (u : UnitNo) (g : TargetStage) : s.unitWork (s.markTarget u g) := by
  have moved (t : State) (move : ∃ internal, t = s.withErase { s.erase with internal := internal }) :
      s.unitWork ((t.setMarker u (some .internal)).requestWrite (.unit u) [.internalMarker u]) := by
    obtain ⟨_, rfl⟩ := move
    exact ⟨_, _, _, _, _, rfl, (s.withErase _).setMarker_generation u _⟩
  refine moved _ ?_
  unfold State.moveTarget
  split
  · exact ⟨_, rfl⟩
  · exact ⟨_, rfl⟩

theorem State.giveUp_unitWork (s : State) (u : UnitNo) : s.unitWork (s.giveUp u) := by
  unfold State.giveUp
  split
  · exact s.markTarget_unitWork u _
  · split
    · exact s.markTarget_unitWork u _
    · exact s.releaseUnit_unitWork u

/-- A released unit is LOCKED and has no marker (R170, R171). -/
theorem State.releaseUnit_released {s : State} {u : UnitNo} (erasing : s.unitState u = .erasing) :
    (s.releaseUnit u).unitState u = .locked ∧ (s.releaseUnit u).marker u = none := by
  have unlocked : (s.unlockErasing u).unitState u = .locked := by
    simp [State.unitState, State.unitRun, State.unlockErasing, State.setUnit]
  unfold State.releaseUnit
  rw [if_pos erasing]
  dsimp only
  by_cases marked : (s.marker u).isSome = true
  · rw [if_pos marked]
    refine ⟨unlocked, ((s.unlockErasing u).setMarker_marker u none).trans ?_⟩
    cases (s.unlockErasing u).unitDef u <;> rfl
  · rw [if_neg marked]
    exact ⟨unlocked, Option.not_isSome_iff_eq_none.1 marked⟩

/-- A unit handed over to the internal erase that targets it: its target is MARKING, and its marker that erase's (R175, R176). -/
theorem State.markTarget_marks {s : State} {i : InternalErase} {u : UnitNo} {g : TargetStage} {before after : List Target}
    {d : UnitDef} (record : s.erase.internal = some i) (targets : i.targets = before ++ ⟨u, g⟩ :: after)
    (fresh : ⟨u, g⟩ ∉ before) (defined : s.unitDef u = some d) :
    (s.markTarget u g).erase.internal = some { i with targets := before ++ ⟨u, .marking⟩ :: after } ∧
      (s.markTarget u g).unitState u = s.unitState u ∧ (s.markTarget u g).marker u = some .internal := by
  unfold State.markTarget
  rw [State.moveTarget_split .marking record targets fresh]
  exact ⟨rfl, rfl, ((s.withErase _).setMarker_marker u (some .internal)).trans
    (congrArg (Option.bind · fun _ => some EraseWork.internal) defined)⟩

/-- A unit that the engine gives up is released, or handed over to the internal erase that targets it (R171, R176). -/
theorem State.giveUp_gaveUp (s : State) (u : UnitNo) : s.gaveUp (s.giveUp u) u := by
  constructor
  · intro free erasing
    have none_ (g : TargetStage) (stage : g = .claiming ∨ g = .pending) : ¬ s.hasTarget u g = true := by
      cases record : s.erase.internal with
      | none => simp [State.hasTarget, record]
      | some i =>
        rw [State.hasTarget_iff record]
        intro mem
        rcases stage with rfl | rfl
        · exact (free i record _ mem).1 rfl
        · exact (free i record _ mem).2 rfl
    rw [State.giveUp, if_neg (none_ _ (.inl rfl)), if_neg (none_ _ (.inr rfl))]
    exact State.releaseUnit_released erasing
  · intro i before after d record targets fresh defined
    have claiming : s.hasTarget u .claiming = true := (State.hasTarget_iff record u _).2 (by simp [targets])
    rw [State.giveUp, if_pos claiming]
    exact State.markTarget_marks record targets fresh defined

/-- What a unit given up is stated of: the internal erase, the units' fields and the unit records, before and after. -/
theorem State.gaveUp.congr {s s' m m' : State} {u : UnitNo} (h : s.gaveUp m u)
    (before : s'.erase.internal = s.erase.internal ∧ s'.units = s.units ∧ s'.store.image.units = s.store.image.units)
    (after : m'.erase.internal = m.erase.internal ∧ m'.units = m.units ∧ m'.store.image.units = m.store.image.units) :
    s'.gaveUp m' u := by
  obtain ⟨released, handedOver⟩ := h
  obtain ⟨internal, units, records⟩ := before
  obtain ⟨internal', units', records'⟩ := after
  constructor
  · simpa only [State.unitState, State.unitRun, State.marker, State.unitDef, internal, units, records, units', records']
      using released
  · simpa only [State.unitState, State.unitRun, State.marker, State.unitDef, internal, units, records, internal', units',
      records'] using handedOver

/-! ## The halt of a descriptor -/

/-- The engine enters HALTED: the unit that it holds is given up, and ERASE_HALTED placed with the count, which becomes 0. -/
theorem State.enterHalted_eq (s : State) (u : UnitNo) (o : Outcome) : s.enterHalted (some u) o =
    ((s.giveUp u).withErase { (s.giveUp u).erase with
      state := .halted, stage := .none, kept := none, segment := .none, progress := 0 }).place
        (.eraseHalted (s.currentDescriptor.map Descriptor.unit) (some s.erase.current) o s.erase.progress) := by
  obtain ⟨_, _, _, _, _, given, -⟩ := s.giveUp_unitWork u
  have progress : (s.giveUp u).erase.progress = s.erase.progress := by rw [given]
  simp only [State.enterHalted, progress]

/-- What entering HALTED makes of a state in which the engine holds the unit (R171, R172). -/
structure State.haltsAt (s m : State) (u : UnitNo) (o : Outcome) : Prop where
  list : m.erase.list = s.erase.list
  engine : m.erase.state = .halted ∧ m.erase.stage = .none ∧ m.erase.kept = none ∧ m.erase.segment = .none ∧
    m.erase.progress = 0 ∧ m.erase.current = s.erase.current
  event : m.events = s.events.place
    (.eraseHalted (s.currentDescriptor.map Descriptor.unit) (some s.erase.current) o s.erase.progress)
  unit : s.gaveUp m u

theorem State.enterHalted_haltsAt (s : State) (u : UnitNo) (o : Outcome) : s.haltsAt (s.enterHalted (some u) o) u o := by
  have gaveUp := s.giveUp_gaveUp u
  obtain ⟨_, _, _, _, _, given, -⟩ := s.giveUp_unitWork u
  rw [State.enterHalted_eq]
  refine ⟨?_, ⟨rfl, rfl, rfl, rfl, rfl, ?_⟩, ?_, gaveUp.congr ⟨rfl, rfl, rfl⟩ ⟨rfl, rfl, rfl⟩⟩ <;> rw [given] <;> rfl

/-- A halt changes no key, no generation, no key slot and no request of the Cipher Unit, and draws nothing. -/
structure State.haltKeeps (s m : State) : Prop where
  cipher : m.cipher = s.cipher
  keys : m.store.image.keys = s.store.image.keys
  draws : m.draws = s.draws
  generation : ∀ v, m.generation v = s.generation v
  halted : m.erase.state = .halted

theorem State.enterHalted_keeps (s : State) (held : Option UnitNo) (o : Outcome) : s.haltKeeps (s.enterHalted held o) := by
  cases held with
  | none => exact ⟨rfl, rfl, rfl, fun _ => rfl, rfl⟩
  | some u =>
    obtain ⟨_, _, _, _, _, given, generation⟩ := s.giveUp_unitWork u
    rw [State.enterHalted_eq]
    refine ⟨?_, ?_, ?_, generation, rfl⟩ <;>
      simp only [given, State.place, State.withEvents_cipher, State.withErase_cipher, State.withEvents_store,
        State.withErase_store, State.withEvents_draws, State.withErase_draws]

theorem State.haltDescriptor_keeps (s : State) (o : Outcome) : s.haltKeeps (s.haltDescriptor o) := by
  unfold State.haltDescriptor
  split
  · exact s.enterHalted_keeps _ o
  · obtain ⟨cipher, keys, draws, generation, halted⟩ :=
      (s.setCurrent fun d => { d with done := true, outcome := some o }).enterHalted_keeps s.heldUnit o
    exact ⟨cipher, keys, draws, generation, halted⟩

theorem State.setCurrent_currentDescriptor (s : State) (f : Descriptor → Descriptor) :
    (s.setCurrent f).currentDescriptor = s.currentDescriptor.map f := by
  simp [State.currentDescriptor, State.setCurrent]

/-- The descriptor in progress halts with its outcome, and the engine gives up its unit (R171). -/
theorem State.haltDescriptor_haltsWith {s : State} {d : Descriptor} {o : Outcome} (current : s.currentDescriptor = some d)
    (held : s.heldUnit = some d.unit) (live : o ≠ .stale) : s.haltsWith (s.haltDescriptor o) d o := by
  let ended := s.setCurrent fun d => { d with done := true, outcome := some o }
  have list : ended.erase.list = s.erase.list.set s.erase.current (some { d with done := true, outcome := some o }) := by
    simp only [ended, State.setCurrent, current]
    rfl
  have currentEnded : ended.currentDescriptor = some { d with done := true, outcome := some o } := by
    rw [State.setCurrent_currentDescriptor, current]
    rfl
  have halt : s.haltDescriptor o = ended.enterHalted (some d.unit) o := by rw [State.haltDescriptor, if_neg live, held]
  obtain ⟨list', engine, event, unit⟩ := ended.enterHalted_haltsAt d.unit o
  rw [halt]
  rw [currentEnded] at event
  exact ⟨list'.trans list, engine, event, unit.congr ⟨rfl, rfl, rfl⟩ ⟨rfl, rfl, rfl⟩⟩

/-! ## The good end of a descriptor -/

theorem State.countGood_eq (s : State) :
    s.countGood = { s with erase := { s.erase with progress := s.countAfterGood }, events := s.eventsAfterGood } := by
  unfold State.countGood State.countAfterGood State.eventsAfterGood
  dsimp only
  split <;> rfl

theorem State.keeps_iff (s : State) (u : UnitNo) : s.erase.keeps u = true ↔ s.nextKeeps u := by
  unfold EraseEngine.keeps State.nextKeeps
  cases s.erase.list[s.erase.current + 1] <;> simp

theorem countdown_ite (p n : Nat) : (if 0 < p then countdown n else none) = if p = 0 ∨ n = 0 then none else some n := by
  unfold countdown
  by_cases none_ : p = 0 <;> simp [none_, Nat.pos_iff_ne_zero]

/-- The engine goes on to the next position: IDLE at the tail, and WAITING elsewhere (R158, R173). -/
structure State.goesOn (s m : State) : Prop where
  engine : m.erase.list = s.erase.list ∧ m.erase.current = s.erase.current + 1 ∧ m.erase.progress = s.erase.progress ∧
    m.erase.kept = s.erase.kept
  rest : m.units = s.units ∧ m.cipher = s.cipher ∧ m.store = s.store ∧ m.events = s.events
  tail : s.erase.current + 1 = s.erase.tail → m.erase.state = .idle ∧ m.erase.stage = .none ∧
    m.erase.delayTimer = if s.erase.progress = 0 ∨ s.store.image.policy.delay = 0 then none
      else some s.store.image.policy.delay
  inside : s.erase.current + 1 ≠ s.erase.tail → m.erase.state = s.erase.state ∧ m.erase.stage = .waiting

theorem State.advance_goesOn (s : State) : s.goesOn s.advance := by
  unfold State.advance
  by_cases tail : s.erase.current + 1 = s.erase.tail
  · simp only [if_pos tail]
    exact ⟨⟨rfl, rfl, rfl, rfl⟩, ⟨rfl, rfl, rfl, rfl⟩, fun _ => ⟨rfl, rfl, countdown_ite _ _⟩,
      fun inside => absurd tail inside⟩
  · simp only [if_neg tail]
    exact ⟨⟨rfl, rfl, rfl, rfl⟩, ⟨rfl, rfl, rfl, rfl⟩, fun end_ => absurd end_ tail, fun _ => ⟨rfl, rfl⟩⟩

/-- The descriptor's good end before the engine goes on: done, counted and reported. -/
def State.goodCounted (s : State) : State := (s.setCurrent fun d => { d with done := true, outcome := some .good }).countGood

theorem State.goodCounted_eq {s : State} {d : Descriptor} (current : s.currentDescriptor = some d) :
    s.goodCounted = { s with
      erase := { s.erase with
        list := s.erase.list.set s.erase.current (some { d with done := true, outcome := some .good }),
        progress := s.countAfterGood },
      events := s.eventsAfterGood } := by
  unfold State.goodCounted
  rw [State.countGood_eq, State.setCurrent, current]
  rfl

/-- A good end goes on with the unit kept or released, or halts where a stop request stands. -/
theorem State.endGood_eq (s : State) (u : UnitNo) : s.endGood u =
    if s.erase.stop = .none then
      if s.erase.keeps u then (s.goodCounted.withErase { s.goodCounted.erase with kept := some u }).advance
      else (s.goodCounted.releaseUnit u).advance
    else s.goodCounted.enterHalted (some u) .good := rfl

/-- The descriptor in progress ends GOOD on its unit (R158, R170, R172, R173). -/
theorem State.endGood_endsGood {s : State} {d : Descriptor} (current : s.currentDescriptor = some d) :
    s.endsGood (s.endGood d.unit) d := by
  have counted := State.goodCounted_eq current
  rw [State.endGood_eq]
  by_cases stop : s.erase.stop = .none
  · rw [if_pos stop]
    by_cases keeps : s.nextKeeps d.unit
    · rw [if_pos ((s.keeps_iff _).2 keeps)]
      obtain ⟨⟨list, next, progress, kept⟩, ⟨units, -, store, events⟩, -, inside⟩ :=
        (s.goodCounted.withErase { s.goodCounted.erase with kept := some d.unit }).advance_goesOn
      rw [counted] at *
      refine ⟨list, fun _ => ⟨next, progress, events, fun _ => ⟨kept, ?_, ?_⟩, fun other => absurd keeps other,
        fun tail => absurd tail keeps.1, inside⟩, fun other => absurd stop other⟩
      · rw [State.unitRun, units]
        rfl
      · rw [State.marker, State.unitDef, store]
        rfl
    · rw [if_neg (mt (s.keeps_iff _).1 keeps)]
      have released := State.releaseUnit_released (s := s.goodCounted) (u := d.unit)
      obtain ⟨_, _, _, _, _, given, -⟩ := s.goodCounted.releaseUnit_unitWork d.unit
      obtain ⟨⟨list, next, progress, -⟩, ⟨units, -, store, events⟩, tail, inside⟩ :=
        (s.goodCounted.releaseUnit d.unit).advance_goesOn
      generalize (s.goodCounted.releaseUnit d.unit).advance = m at *
      have freed : s.unitState d.unit = .erasing → m.unitState d.unit = .locked ∧ m.marker d.unit = none := by
        intro erasing
        rw [State.unitState, State.unitRun, units, State.marker, State.unitDef, store]
        exact released (by rw [counted]; exact erasing)
      rw [given, counted] at *
      exact ⟨list, fun _ => ⟨next, progress, events, fun same => absurd same keeps, fun _ => freed, tail, inside⟩,
        fun other => absurd stop other⟩
  · rw [if_neg stop]
    obtain ⟨list, ⟨state, stage, kept, -, progress, position⟩, event, unit⟩ :=
      s.goodCounted.enterHalted_haltsAt d.unit .good
    generalize s.goodCounted.enterHalted (some d.unit) .good = m at *
    have same : s.goodCounted.currentDescriptor = some { d with done := true, outcome := some .good } := by
      rw [counted]
      simp [State.currentDescriptor]
    rw [same, counted] at event
    rw [counted] at list position unit
    exact ⟨list, fun other => absurd other stop, fun _ => ⟨state, stage, kept, progress, position, event,
      unit.congr ⟨rfl, rfl, rfl⟩ ⟨rfl, rfl, rfl⟩⟩⟩

/-- Neither the Cipher Unit nor the store's array and running write enters into a good end. -/
theorem State.endsGood.before {s m : State} {d : Descriptor} {cipher : Cipher} {array : Records}
    {running : Option WriteRequest}
    (h : State.endsGood { s with cipher := cipher, store := { s.store with array := array, running := running } } m d) :
    s.endsGood m d := by
  refine ⟨h.list, h.goesOn, fun stop => ?_⟩
  obtain ⟨state, stage, kept, progress, position, event, unit⟩ := h.stops stop
  exact ⟨state, stage, kept, progress, position, event, unit.congr ⟨rfl, rfl, rfl⟩ ⟨rfl, rfl, rfl⟩⟩

/-- A good end leaves the Cipher Unit alone. -/
theorem State.endGood_cipher (s : State) (u : UnitNo) : (s.endGood u).cipher = s.cipher := by
  have counted : s.goodCounted.cipher = s.cipher := by
    unfold State.goodCounted
    rw [State.countGood_eq]
    rfl
  rw [State.endGood_eq]
  split
  · split
    · exact ((State.advance_goesOn _).rest.2.1).trans counted
    · obtain ⟨_, _, _, _, _, given, -⟩ := s.goodCounted.releaseUnit_unitWork u
      exact ((State.advance_goesOn _).rest.2.1).trans ((congrArg State.cipher given).trans counted)
  · exact (s.goodCounted.enterHalted_keeps _ _).cipher.trans counted

end Sys2Proof.Machine
end

section
/-! Key replacements: what the Cipher Unit takes, what a completion ends, and the reports of an internal erase that completes
(R77 to R80, R99, R168, R170, R171, R175, R177, R188). -/

namespace Sys2Proof.Machine

/-! ## Fresh keys -/

/-- The random source gives a key only once in 2^256 draws (R79). -/
theorem freshKey_injective {n m : Nat} (hn : n < 2 ^ 256) (hm : m < 2 ^ 256) (other : n ≠ m) :
    Config.freshKey n ≠ Config.freshKey m := by
  intro same
  have draw : BitVec.ofNat 256 n = BitVec.ofNat 256 m := Config.keyOrder.injective (CipherKey.mk.inj same)
  have := congrArg BitVec.toNat draw
  rw [BitVec.toNat_ofNat, BitVec.toNat_ofNat, Nat.mod_eq_of_lt hn, Nat.mod_eq_of_lt hm] at this
  exact other this

/-! ## Taking a request -/

theorem removeRequest_split {q : KeyRequest} {before : List KeyRequest} (rest : List KeyRequest)
    (oldest : ∀ r ∈ before, r.unit ≠ q.unit) : removeRequest q.unit (before ++ q :: rest) = before ++ rest := by
  induction before with
  | nil => simp [removeRequest]
  | cons r rs ih =>
    simp only [List.cons_append, removeRequest]
    rw [if_neg (oldest r (by simp)), ih fun x mem => oldest x (by simp [mem])]

theorem State.takeRequest_none {s : State} {u : UnitNo} (none_ : ∀ r ∈ s.cipher.requests, r.unit ≠ u) :
    s.takeRequest u = s := by
  have : s.cipher.requests.find? (fun q => decide (q.unit = u)) = none := List.find?_eq_none.2 (by simpa using none_)
  rw [State.takeRequest, this]

/-- The Cipher Unit's part of a unit that a replacement may be taken for (R77). -/
structure State.canReplace (s : State) (u : UnitNo) (d : UnitDef) : Prop where
  defined : s.unitDef u = some d
  secure : d.kind = .secure
  erasing : s.unitState u = .erasing
  empty : s.cipher.slots[u].state = .empty
  free : u ∉ s.cipher.replacing

theorem State.canReplace.replaceable {s : State} {u : UnitNo} {d : UnitDef} (h : s.canReplace u d) :
    s.replaceable u = true := by
  simpa [State.replaceable, State.isSecure, h.defined, h.secure, h.erasing, h.free] using h.empty

/-- A unit's oldest request is taken where a replacement of it may begin (R77). -/
theorem State.takeRequest_oldest {s : State} {q : KeyRequest} {before rest : List KeyRequest} {d : UnitDef}
    (requests : s.cipher.requests = before ++ q :: rest) (oldest : ∀ r ∈ before, r.unit ≠ q.unit)
    (can : s.canReplace q.unit d) :
    s.takeRequest q.unit = (s.withCipher { s.cipher with requests := before ++ rest }).replaceKey q := by
  have found : s.cipher.requests.find? (fun r => decide (r.unit = q.unit)) = some q := by
    rw [requests, List.find?_append, List.find?_eq_none.2 (by simpa using oldest)]
    simp
  rw [State.takeRequest, found]
  dsimp only
  rw [if_pos can.replaceable, requests, removeRequest_split rest oldest]

/-- A request that is carried out: a fresh key, the generation raised or held at 65,535, and the writes of the key and then the
unit record (R78, R79). -/
theorem State.replaceKey_eq {s : State} {q : KeyRequest} {d : UnitDef} (defined : s.unitDef q.unit = some d)
    (allowed : d.generation < 65535 ∨ q.path = .internal) :
    let new : UnitDef := { d with generation := min 65535 (d.generation + 1) }
    s.replaceKey q = { s with
      cipher := { s.cipher with replacing := s.cipher.replacing ++ [q.unit] },
      draws := s.draws + 1,
      store := { s.store with
        image := { s.store.image with
          units := s.store.image.units.set q.unit (some new),
          keys := s.store.image.keys.set q.unit (some (Config.freshKey s.draws)) },
        pendingSet := joinPending (joinPending s.store.pendingSet ⟨.key q.unit (some (Config.freshKey s.draws)), []⟩)
          ⟨.unit q.unit (some new), [.replacement q.unit q.path]⟩ } } := by
  have carriedOut : ¬ s.genExhausted q = true := by
    have : s.generation q.unit = d.generation := by simp [State.generation, defined]
    simp only [State.genExhausted, this, Bool.and_eq_true, decide_eq_true_eq, not_and_or, Nat.not_le]
    rcases allowed with below | path
    · exact .inr below
    · exact .inl (by simp [path])
  have defined' : ((s.setKey q.unit (some s.freshKey)).drawn).unitDef q.unit = some d := defined
  dsimp only
  rw [State.replaceKey, if_neg carriedOut]
  dsimp only
  rw [defined']
  simp [State.setKey, State.setUnitDef, State.withImage, State.requestWrite, Records.content, State.drawn, State.freshKey,
    State.withStore, State.withDraws, State.withCipher, raised]

/-- A request of the descriptor path at generation 65,535 is refused (R79). -/
theorem State.replaceKey_exhausted {s : State} {q : KeyRequest} {d : UnitDef} (defined : s.unitDef q.unit = some d)
    (full : 65535 ≤ d.generation) (path : q.path = .descriptor) :
    s.replaceKey q = s.haltDescriptor .genExhausted := by
  have refused : s.genExhausted q = true := by simp [State.genExhausted, State.generation, defined, full, path]
  rw [State.replaceKey, if_pos refused]

theorem exec_keyReplacement {s : State} (powered : s.power.vbus = true) (u : UnitNo) :
    exec (.keyReplacement u) s = .next (s.takeRequest u).finish := by
  show execKeyReplacement u s = _
  rw [execKeyReplacement, State.act_powered _ powered]

/-! ## The write for which one waits -/

/-- The store once its running write, of this content, has completed (R196). -/
def State.written (s : State) (c : RecordContent) : State :=
  s.withStore { s.store with array := s.store.array.write c, running := none }

/-- The completion of a write for which one waits answers that one (R199). -/
theorem exec_writeCompletion_one {s : State} {c : RecordContent} {w : Waiter} (powered : s.power.vbus = true)
    (running : s.store.running = some ⟨c, [w]⟩) : exec .writeCompletion s = .next ((s.written c).answer w).finish := by
  show execWriteCompletion s = _
  rw [execWriteCompletion, State.act_powered _ powered, if_pos (by rw [running]; rfl), State.completeWrite, running]
  rfl

/-- The written marker of a target asks for a replacement on the internal path (R175). -/
theorem State.targetMarked_eq {s : State} {i : InternalErase} {u : UnitNo} {before after : List Target}
    (record : s.erase.internal = some i) (targets : i.targets = before ++ ⟨u, .marking⟩ :: after)
    (fresh : ⟨u, .marking⟩ ∉ before) : s.targetMarked u = { s with
      erase := { s.erase with internal := some { i with targets := before ++ ⟨u, .replacing⟩ :: after } },
      cipher := { s.cipher with requests := s.cipher.requests ++ [⟨u, .internal⟩] } } := by
  have marking : s.hasTarget u .marking = true := (State.hasTarget_iff record u _).2 (by simp [targets])
  rw [State.targetMarked, if_pos marking, State.moveTarget_split .replacing record targets fresh]
  rfl

/-- The Cipher Unit has no replacement of the unit in progress any more. -/
def State.replacementOver (s : State) (u : UnitNo) : State :=
  s.withCipher { s.cipher with replacing := s.cipher.replacing.filter fun v => decide (v ≠ u) }

theorem State.not_mem_replacementOver (s : State) (u : UnitNo) : u ∉ (s.replacementOver u).cipher.replacing := by
  simp [State.replacementOver]

/-! ## Reports of an internal erase that completes -/

/-- What a change of the disabling conditions acts on: the Entry Controller, an enrollment, which only ends, the indicators and
the Event Queue. -/
theorem State.reevaluate_entry (s : State) : ∃ enrolling entry leds events,
    s.reevaluate = { s with enrolling := enrolling, entry := entry, leds := leds, events := events } ∧
      (s.enrolling = none → enrolling = none) := by
  have abandoned (r : AbandonReason) : ∃ enrolling entry leds events,
      s.abandonAny r = { s with enrolling := enrolling, entry := entry, leds := leds, events := events } ∧
        (s.enrolling = none → enrolling = none) := by
    unfold State.abandonAny
    split
    · exact ⟨none, _, _, _, rfl, fun _ => rfl⟩
    · exact ⟨_, _, _, _, rfl, id⟩
  unfold State.reevaluate
  split
  · split
    · exact ⟨_, _, _, _, rfl, id⟩
    · unfold State.enterDisabled
      split
      case h_2 | h_3 =>
        obtain ⟨_, _, _, _, same, ends⟩ := abandoned .alarm
        exact ⟨_, _, _, _, by rw [same]; rfl, ends⟩
      all_goals exact ⟨_, _, _, _, rfl, id⟩
  · split <;> exact ⟨_, _, _, _, rfl, id⟩

/-- Clearing the records of credential slots, one after another (R99). -/
theorem State.blankCredentials_eq (ks : List SlotNo) (s : State) : ∃ creds pendingSet,
    ks.foldl (fun s k => (s.setCred k .blank).requestWrite (.credential k) []) s =
      { s with store := { s.store with image := { s.store.image with creds := creds }, pendingSet := pendingSet } } ∧
      ∀ k : SlotNo, (k ∈ ks ∨ s.store.image.creds[k] = CredRecord.blank) → creds[k] = CredRecord.blank := by
  induction ks generalizing s with
  | nil => exact ⟨_, _, rfl, fun k blank => blank.resolve_left (by simp)⟩
  | cons k ks ih =>
    obtain ⟨creds, pendingSet, same, blank⟩ := ih ((s.setCred k .blank).requestWrite (.credential k) [])
    refine ⟨creds, pendingSet, same, fun j h => blank j ?_⟩
    by_cases own : j = k
    · right
      subst own
      show (s.store.image.creds.set j CredRecord.blank)[j] = _
      simp
    · refine h.imp (fun mem => (List.mem_cons.1 mem).resolve_left own) fun old => ?_
      show (s.store.image.creds.set k CredRecord.blank)[j] = _
      rw [Fin.getElem_fin, Vector.getElem_set_ne _ _ fun same => own (Fin.ext same.symm)]
      exact old

/-- The clearing stage of a brute-force erase has begun: F is 0, every credential slot EMPTY and the attempt record 0 (R99). -/
structure State.cleared (s : State) (a : AttemptControl) : Prop where
  attempt : s.attempt = { a with failed := 0, brute := .clearing }
  creds : ∀ k, s.cred k = CredRecord.blank
  record : s.store.image.attempt = ⟨0, 0⟩
  enrolling : s.enrolling = none

theorem State.cleared.factory {s : State} {a : AttemptControl} (h : s.cleared a) : s.factory = true := by
  simp [State.factory, State.provisioningState, h.enrolling, h.creds, CredRecord.blank]

/-- `m` is `s` but for what the reports change: Attempt Control, the Entry Controller with its enrollment, the indicators, the
Event Queue, the Tamper Monitor's debt, and the credential, attempt and latch records with their writes. -/
def State.reportsOnly (s m : State) : Prop :=
  ∃ enrolling attempt entry leds events owed creds record latch pendingSet, m = { s with
    enrolling := enrolling, attempt := attempt, entry := entry, leds := leds, events := events,
    tamper := { s.tamper with zeroizeOwed := owed },
    store := { s.store with
      image := { s.store.image with creds := creds, attempt := record, latch := latch }, pendingSet := pendingSet } }

theorem State.reportsOnly.refl (s : State) : s.reportsOnly s := ⟨_, _, _, _, _, _, _, _, _, _, rfl⟩

theorem State.reportsOnly.trans {r s m : State} (a : r.reportsOnly s) (b : s.reportsOnly m) : r.reportsOnly m := by
  obtain ⟨_, _, _, _, _, _, _, _, _, _, rfl⟩ := a
  obtain ⟨_, _, _, _, _, _, _, _, _, _, rfl⟩ := b
  exact ⟨_, _, _, _, _, _, _, _, _, _, rfl⟩

theorem State.clearCredentials_cleared (s : State) : s.reportsOnly s.clearCredentials ∧
    s.clearCredentials.cleared s.attempt ∧ s.clearCredentials.tamper = s.tamper ∧
    s.clearCredentials.store.image.latch = s.store.image.latch := by
  obtain ⟨creds, pendingSet, blanked, blank⟩ := State.blankCredentials_eq (List.finRange 6) s
  let t : State := { s with
    enrolling := none, attempt := { s.attempt with failed := 0, brute := .clearing },
    store := { s.store with
      image := { s.store.image with creds := creds, attempt := ⟨0, 0⟩ },
      pendingSet := joinPending pendingSet ⟨.attempt ⟨0, 0⟩, [.clearing]⟩ } }
  have entered : s.clearCredentials = t.reevaluate := by
    unfold State.clearCredentials
    rw [blanked]
    rfl
  obtain ⟨enrolling, _, _, _, same, ends⟩ := t.reevaluate_entry
  obtain rfl := ends rfl
  rw [entered, same]
  exact ⟨⟨_, _, _, _, _, _, _, _, _, _, rfl⟩, ⟨rfl, fun k => blank k (.inl (List.mem_finRange k)), rfl, rfl⟩, rfl, rfl⟩

theorem State.report_reportsOnly (s : State) (r : Requester) : s.reportsOnly (s.report r) := by
  cases r with
  | duress => exact .refl s
  | bruteForce =>
    show s.reportsOnly (if s.attempt.brute = .erasing then s.clearCredentials else s)
    split
    · exact s.clearCredentials_cleared.1
    · exact .refl s
  | zeroize => exact ⟨_, _, _, _, _, _, _, _, _, _, rfl⟩

theorem State.reports_reportsOnly (rs : List Requester) (s : State) : s.reportsOnly (rs.foldl State.report s) := by
  induction rs generalizing s with
  | nil => exact .refl s
  | cons r rs ih => exact (s.report_reportsOnly r).trans (ih _)

/-- What one requester's report brings about, and no later report undoes, holds after all of them. -/
theorem State.reports_reach {P Q : State → Prop} {r : Requester} (earlier : ∀ s x, x ≠ r → Q s → Q (s.report x))
    (own : ∀ s, Q s → P (s.report r)) (later : ∀ s x, P s → P (s.report x)) :
    ∀ (rs : List Requester) (s : State), r ∈ rs → Q s → P (rs.foldl State.report s) := by
  have stays (rs : List Requester) : ∀ s, P s → P (rs.foldl State.report s) := by
    induction rs with
    | nil => exact fun _ h => h
    | cons x rs ih => exact fun s h => ih _ (later s x h)
  intro rs
  induction rs with
  | nil => exact fun _ mem => by cases mem
  | cons x rs ih =>
    intro s mem h
    by_cases same : x = r
    · exact stays rs _ (same ▸ own s h)
    · exact ih _ ((List.mem_cons.1 mem).resolve_left (Ne.symm same)) (earlier s x same h)

/-- The report of a brute-force erase begins its clearing stage (R99). -/
theorem State.reports_cleared {rs : List Requester} {s : State} (asked : .bruteForce ∈ rs)
    (erasing : s.attempt.brute = .erasing) : (rs.foldl State.report s).cleared s.attempt := by
  refine State.reports_reach (P := fun m => m.cleared s.attempt) (Q := fun m => m.attempt = s.attempt)
    (r := .bruteForce) ?_ ?_ ?_ rs s asked rfl
  · intro m x other h
    cases x with
    | bruteForce => exact absurd rfl other
    | duress | zeroize => exact h
  · intro m h
    show (if m.attempt.brute = .erasing then m.clearCredentials else m).cleared s.attempt
    rw [if_pos (by rw [h]; exact erasing), ← h]
    exact m.clearCredentials_cleared.2.1
  · intro m x h
    cases x with
    | duress => exact h
    | bruteForce =>
      show (if m.attempt.brute = .erasing then m.clearCredentials else m).cleared s.attempt
      rwa [if_neg (by simp [h.attempt])]
    | zeroize => exact ⟨h.attempt, h.creds, h.record, h.enrolling⟩

/-- The Tamper Monitor's report settles its debt, in its record too (R188). -/
def State.debtSettled (s : State) : Prop := s.tamper.zeroizeOwed = false ∧ s.store.image.latch = ⟨s.latch, false⟩

theorem State.reports_debtSettled {rs : List Requester} (s : State) (asked : .zeroize ∈ rs) :
    (rs.foldl State.report s).debtSettled := by
  refine State.reports_reach (P := State.debtSettled) (Q := fun _ => True) (r := .zeroize) (fun _ _ _ _ => trivial)
    (fun _ _ => ⟨rfl, rfl⟩) ?_ rs s asked trivial
  intro m x h
  cases x with
  | duress => exact h
  | bruteForce =>
    obtain ⟨-, -, tamper, latch⟩ := m.clearCredentials_cleared
    show State.debtSettled (if m.attempt.brute = .erasing then m.clearCredentials else m)
    split
    · rw [State.debtSettled, State.latch, State.channel, tamper, latch]
      exact h
    · exact h
  | zeroize => exact ⟨rfl, rfl⟩

/-! ## The completion of an internal erase -/

theorem State.completeInternal_open {s : State} {i : InternalErase} (record : s.erase.internal = some i)
    (left : ∃ t ∈ i.targets, t.stage ≠ .done) : s.completeInternal = s := by
  rw [State.completeInternal, record]
  dsimp only
  rw [if_neg (by simpa using left)]

/-- What an internal erase that completes leaves: no record of it, and each requester's report (R99, R177, R188). -/
structure State.completes (s m : State) (i : InternalErase) : Prop where
  internal : m.erase.internal = none
  cleared : .bruteForce ∈ i.requesters → s.attempt.brute = .erasing → m.cleared s.attempt
  settled : .zeroize ∈ i.requesters → m.debtSettled

theorem State.completeInternal_eq {s : State} {i : InternalErase} (record : s.erase.internal = some i)
    (done : ∀ t ∈ i.targets, t.stage = .done) : s.completeInternal =
      i.requesters.foldl State.report (s.withErase { s.erase with internal := none }).refreshLeds := by
  rw [State.completeInternal, record]
  dsimp only
  rw [if_pos (by simpa using done)]

theorem State.completeInternal_completes {s : State} {i : InternalErase} (record : s.erase.internal = some i)
    (done : ∀ t ∈ i.targets, t.stage = .done) : s.completes s.completeInternal i := by
  rw [State.completeInternal_eq record done]
  refine ⟨?_, fun asked erasing => State.reports_cleared asked erasing, fun asked => State.reports_debtSettled _ asked⟩
  obtain ⟨_, _, _, _, _, _, _, _, _, _, same⟩ := State.reports_reportsOnly i.requesters
    (s.withErase { s.erase with internal := none }).refreshLeds
  rw [same]
  rfl

/-- The completion of an internal erase changes no unit, no unit record, no key slot and no alarm. -/
theorem State.completeInternal_keeps (s : State) : s.completeInternal.units = s.units ∧
    s.completeInternal.store.image.units = s.store.image.units ∧ s.completeInternal.cipher = s.cipher ∧
    s.completeInternal.latch = s.latch := by
  unfold State.completeInternal
  split
  · exact ⟨rfl, rfl, rfl, rfl⟩
  · next i _ =>
    split
    · obtain ⟨_, _, _, _, _, _, _, _, _, _, same⟩ := State.reports_reportsOnly i.requesters
        (s.withErase { s.erase with internal := none }).refreshLeds
      rw [same]
      exact ⟨rfl, rfl, rfl, rfl⟩
    · exact ⟨rfl, rfl, rfl, rfl⟩

/-! ## A target whose replacement is complete -/

section Target

variable {s : State} {i : InternalErase} {u : UnitNo} {before after : List Target} (record : s.erase.internal = some i)
  (targets : i.targets = before ++ ⟨u, .replacing⟩ :: after) (fresh : ⟨u, .replacing⟩ ∉ before)
  (once : ⟨u, .pending⟩ ∉ before)
include record targets fresh

/-- The target is DONE. -/
theorem State.moveTarget_done : s.moveTarget u .replacing .done =
    s.withErase { s.erase with internal := some { i with targets := before ++ ⟨u, .done⟩ :: after } } :=
  State.moveTarget_split .done record targets fresh

include once

/-- A unit that is targeted no more is released (R175). -/
theorem State.targetReplaced_last (last : ⟨u, .pending⟩ ∉ after) :
    s.targetReplaced u = ((s.withErase { s.erase with
      internal := some { i with targets := before ++ ⟨u, .done⟩ :: after } }).releaseUnit u).completeInternal := by
  have replacing : s.hasTarget u .replacing = true := (State.hasTarget_iff record u _).2 (by simp [targets])
  rw [State.targetReplaced, if_pos replacing, State.moveTarget_done record targets fresh]
  dsimp only
  rw [if_neg]
  rw [State.hasTarget_iff (i := { i with targets := before ++ ⟨u, .done⟩ :: after }) rfl]
  simp [once, last]

/-- A unit that was targeted again asks for its next replacement (R177). -/
theorem State.targetReplaced_again {mid rest : List Target} (split : after = mid ++ ⟨u, .pending⟩ :: rest)
    (first : ⟨u, .pending⟩ ∉ mid) : s.targetReplaced u = { s with
      erase := { s.erase with
        internal := some { i with targets := before ++ ⟨u, .done⟩ :: mid ++ ⟨u, .replacing⟩ :: rest } },
      cipher := { s.cipher with requests := s.cipher.requests ++ [⟨u, .internal⟩] } } := by
  have replacing : s.hasTarget u .replacing = true := (State.hasTarget_iff record u _).2 (by simp [targets])
  have moved : before ++ ⟨u, .done⟩ :: after = before ++ ⟨u, .done⟩ :: mid ++ ⟨u, .pending⟩ :: rest := by simp [split]
  rw [State.targetReplaced, if_pos replacing, State.moveTarget_done record targets fresh, moved]
  dsimp only
  rw [if_pos, State.moveTarget_split (i := { i with targets := before ++ ⟨u, .done⟩ :: mid ++ ⟨u, .pending⟩ :: rest })
    .replacing rfl rfl (by simp [once, first])]
  · rfl
  · rw [State.hasTarget_iff (i := { i with targets := before ++ ⟨u, .done⟩ :: mid ++ ⟨u, .pending⟩ :: rest }) rfl]
    simp

end Target

/-! ## The parts of the obligation -/

/-- The engine holds the unit of the descriptor that it works on. -/
theorem State.heldUnit_working {s : State} {d : Descriptor} (working : s.erase.stage = .working)
    (current : s.currentDescriptor = some d) : s.heldUnit = some d.unit := by
  simp [State.heldUnit, State.claimedUnit, working, current]

/-- A request of the descriptor path at 65,535 halts the descriptor and changes no key (R79, R171). -/
theorem State.keyReplacement_exhausted {s : State} {u : UnitNo} {q : KeyRequest} {before rest : List KeyRequest} {d : UnitDef}
    (powered : s.power.vbus = true) (requests : s.cipher.requests = before ++ q :: rest) (own : q.unit = u)
    (oldest : ∀ r ∈ before, r.unit ≠ u) (can : s.canReplace u d) (full : 65535 ≤ d.generation)
    (path : q.path = .descriptor) :
    ∃ x m : State, exec (.keyReplacement u) s = .next x ∧ m.leads x ∧
      m.store.image.keys = s.store.image.keys ∧ (∀ v, m.generation v = s.generation v) ∧
      m.erase.state = .halted ∧ m.cipher.requests = before ++ rest ∧ m.draws = s.draws ∧
      ∀ c, s.currentDescriptor = some c → c.unit = u → s.erase.stage = .working → s.haltsWith m c .genExhausted := by
  subst own
  let t := s.withCipher { s.cipher with requests := before ++ rest }
  have refused : s.takeRequest q.unit = t.haltDescriptor .genExhausted :=
    (State.takeRequest_oldest requests oldest can).trans (State.replaceKey_exhausted (s := t) can.defined full path)
  obtain ⟨cipher, keys, draws, generation, halted⟩ := t.haltDescriptor_keeps .genExhausted
  refine ⟨_, _, exec_keyReplacement powered q.unit, State.leads_finish _, ?_⟩
  rw [refused]
  refine ⟨keys, generation, halted, by rw [cipher]; rfl, draws, fun c current own working => ?_⟩
  have halts : t.haltsWith _ c .genExhausted :=
    State.haltDescriptor_haltsWith current (State.heldUnit_working (s := t) working current) nofun
  exact ⟨halts.list, halts.engine, halts.event, halts.unit.congr ⟨rfl, rfl, rfl⟩ ⟨rfl, rfl, rfl⟩⟩

/-- The completion of a descriptor's replacement ends the descriptor GOOD (R168, R170). -/
theorem State.replacementWritten_descriptor {s : State} {u : UnitNo} {d : Descriptor} (c : RecordContent)
    (current : s.currentDescriptor = some d) (own : d.unit = u) (alone : ∀ r ∈ s.cipher.requests, r.unit ≠ u) :
    u ∉ ((s.written c).replacementWritten u .descriptor).cipher.replacing ∧
      s.endsGood ((s.written c).replacementWritten u .descriptor) d := by
  let t := (s.written c).replacementOver u
  have cipher := t.endGood_cipher u
  have alone' : ∀ r ∈ (t.endGood u).cipher.requests, r.unit ≠ u := by rw [cipher]; exact alone
  have completed : (s.written c).replacementWritten u .descriptor = t.endGood u := State.takeRequest_none alone'
  rw [completed, cipher]
  subst own
  have ends : t.endsGood (t.endGood d.unit) d := State.endGood_endsGood current
  exact ⟨(s.written c).not_mem_replacementOver d.unit,
    State.endsGood.before (s := s) (cipher := t.cipher) (array := t.store.array) (running := none) ends⟩

section Internal

variable {s : State} {i : InternalErase} {u : UnitNo} {before after : List Target} (c : RecordContent)
  (noRerun : s.erase.rerun = none) (record : s.erase.internal = some i)
  (targets : i.targets = before ++ ⟨u, .replacing⟩ :: after) (fresh : ⟨u, .replacing⟩ ∉ before)
  (once : ⟨u, .pending⟩ ∉ before) (alone : ∀ r ∈ s.cipher.requests, r.unit ≠ u) (erasing : s.unitState u = .erasing)

include noRerun in
/-- Without a rerun, the completion of a replacement on the internal path reaches the target. -/
theorem State.replacementWritten_internal : (s.written c).replacementWritten u .internal =
    (((s.written c).replacementOver u).targetReplaced u).takeRequest u := by
  have noRerun' : ((s.written c).replacementOver u).erase.rerun = none := noRerun
  show (State.replaced ((s.written c).replacementOver u) u .internal).takeRequest u = _
  rw [State.replaced, noRerun']

include noRerun record targets fresh once alone erasing

/-- The last target of a unit is DONE and its unit released; and the last DONE of all ends the internal erase (R99, R175, R177,
R188). -/
theorem State.replacementWritten_last (last : ⟨u, .pending⟩ ∉ after) :
    let m := (s.written c).replacementWritten u .internal
    u ∉ m.cipher.replacing ∧ m.unitState u = .locked ∧ m.marker u = none ∧
      ((∃ t ∈ before ++ after, t.stage ≠ .done) →
        m.erase.internal = some { i with targets := before ++ ⟨u, .done⟩ :: after }) ∧
      ((∀ t ∈ before ++ after, t.stage = .done) → m.erase.internal = none ∧
        (.bruteForce ∈ i.requesters → s.attempt.brute = .erasing → m.cleared s.attempt) ∧
        (.zeroize ∈ i.requesters → m.tamper.zeroizeOwed = false ∧ m.store.image.latch = ⟨s.latch, false⟩)) := by
  let t := (s.written c).replacementOver u
  let moved := t.withErase { t.erase with internal := some { i with targets := before ++ ⟨u, .done⟩ :: after } }
  obtain ⟨_, _, _, _, _, given, -⟩ := moved.releaseUnit_unitWork u
  have cipher : (moved.releaseUnit u).cipher = t.cipher := by rw [given]; rfl
  have attempt : (moved.releaseUnit u).attempt = s.attempt := by rw [given]; rfl
  have latch : (moved.releaseUnit u).latch = s.latch := by rw [given]; rfl
  have internal : (moved.releaseUnit u).erase.internal =
      some { i with targets := before ++ ⟨u, .done⟩ :: after } := by rw [moved.releaseUnit_erase u]; rfl
  obtain ⟨locked, unmarked⟩ := State.releaseUnit_released (s := moved) (u := u) erasing
  obtain ⟨units, records, cipher', latch'⟩ := (moved.releaseUnit u).completeInternal_keeps
  have alone' : ∀ r ∈ (moved.releaseUnit u).completeInternal.cipher.requests, r.unit ≠ u := by
    rw [cipher', cipher]
    exact alone
  have completed : (s.written c).replacementWritten u .internal = (moved.releaseUnit u).completeInternal :=
    (State.replacementWritten_internal c noRerun).trans
      ((congrArg (State.takeRequest · u) (State.targetReplaced_last (s := t) record targets fresh once last)).trans
        (State.takeRequest_none alone'))
  dsimp only
  rw [completed]
  refine ⟨?_, ?_, ?_, fun left => ?_, fun done => ?_⟩
  · rw [cipher', cipher]
    exact (s.written c).not_mem_replacementOver u
  · rw [State.unitState, State.unitRun, units]
    exact locked
  · rw [State.marker, State.unitDef, records]
    exact unmarked
  · rw [State.completeInternal_open internal]
    · exact internal
    · obtain ⟨t, mem, left⟩ := left
      exact ⟨t, by simp only [List.mem_append, List.mem_cons] at mem ⊢; tauto, left⟩
  · have completes := State.completeInternal_completes internal fun t mem => by
      simp only [List.mem_append, List.mem_cons] at mem done
      rcases mem with mem | rfl | mem
      · exact done t (.inl mem)
      · rfl
      · exact done t (.inr mem)
    rw [← attempt, ← latch, ← latch']
    exact ⟨completes.internal, completes.cleared, completes.settled⟩

/-- The request of a unit that was targeted again is taken at once (R77, R78, R177). -/
theorem State.replacementWritten_again {mid rest : List Target} {d : UnitDef} (split : after = mid ++ ⟨u, .pending⟩ :: rest)
    (first : ⟨u, .pending⟩ ∉ mid) (defined : s.unitDef u = some d) (secure : d.kind = .secure)
    (empty : s.cipher.slots[u].state = .empty) :
    let m := (s.written c).replacementWritten u .internal
    m.erase.internal = some { i with targets := before ++ ⟨u, .done⟩ :: mid ++ ⟨u, .replacing⟩ :: rest } ∧
      m.unitState u = .erasing ∧ u ∈ m.cipher.replacing ∧ m.cipher.requests = s.cipher.requests ∧
      m.store.image.keys = s.store.image.keys.set u (some (Config.freshKey s.draws)) ∧ m.draws = s.draws + 1 ∧
      m.generation u = min 65535 (d.generation + 1) := by
  let t := (s.written c).replacementOver u
  let asked : State := { t with
    erase := { t.erase with
      internal := some { i with targets := before ++ ⟨u, .done⟩ :: mid ++ ⟨u, .replacing⟩ :: rest } },
    cipher := { t.cipher with requests := t.cipher.requests ++ [⟨u, .internal⟩] } }
  have taken : asked.takeRequest u =
      (asked.withCipher { asked.cipher with requests := s.cipher.requests ++ [] }).replaceKey ⟨u, .internal⟩ :=
    State.takeRequest_oldest (s := asked) (q := ⟨u, .internal⟩) (before := s.cipher.requests) rfl alone
      ⟨defined, secure, erasing, empty, (s.written c).not_mem_replacementOver u⟩
  have completed : (s.written c).replacementWritten u .internal = _ :=
    (State.replacementWritten_internal c noRerun).trans
      ((congrArg (State.takeRequest · u) (State.targetReplaced_again (s := t) record targets fresh once split first)).trans
        (taken.trans (State.replaceKey_eq
          (s := asked.withCipher { asked.cipher with requests := s.cipher.requests ++ [] }) defined (.inr rfl))))
  dsimp only
  rw [completed]
  refine ⟨rfl, erasing, ?_, List.append_nil _, rfl, rfl, ?_⟩
  · exact List.mem_append_right _ (List.mem_singleton_self u)
  · simp [State.generation, State.unitDef]

end Internal

/-- Settles O49: the Cipher Unit's taking of a request, then each completion by the one that waits for it. -/
theorem keyReplacementIsTaken : Obligations.KeyReplacementIsTaken := by
  refine ⟨fun n m => freshKey_injective, ?_, ?_⟩
  · intro s u q before rest d powered requests own oldest defined secure erasing empty free
    have can : s.canReplace u d := ⟨defined, secure, erasing, empty, free⟩
    refine ⟨fun allowed => ?_, State.keyReplacement_exhausted powered requests own oldest can⟩
    subst own
    rw [exec_keyReplacement powered, State.takeRequest_oldest requests oldest can]
    exact congrArg (fun m => Host.Outcome.next (State.finish m))
      (State.replaceKey_eq (s := s.withCipher { s.cipher with requests := before ++ rest }) defined allowed)
  · intro s u c powered
    refine ⟨fun i before after running record targets fresh => ?_, fun d running current own alone => ?_,
      fun i before after running noRerun record targets fresh once alone erasing => ⟨fun last => ?_,
        fun mid rest d split first defined secure empty => ?_⟩⟩
    · rw [exec_writeCompletion_one powered running]
      exact congrArg (fun m => Host.Outcome.next (State.finish m))
        (State.targetMarked_eq (s := s.written c) record targets fresh)
    · exact ⟨_, _, exec_writeCompletion_one powered running, State.leads_finish _,
        State.replacementWritten_descriptor c current own alone⟩
    · obtain ⟨completed, locked, unmarked, left, done⟩ :=
        State.replacementWritten_last c noRerun record targets fresh once alone erasing last
      refine ⟨_, _, exec_writeCompletion_one powered running, State.leads_finish _, completed, locked, unmarked, left,
        fun all => ?_⟩
      obtain ⟨internal, cleared, settled⟩ := done all
      refine ⟨internal, fun asked stage => ?_, settled⟩
      have cleared := cleared asked stage
      exact ⟨cleared.attempt, cleared.creds, cleared.record, cleared.factory⟩
    · exact ⟨_, _, exec_writeCompletion_one powered running, State.leads_finish _,
        State.replacementWritten_again c noRerun record targets fresh once alone erasing split first defined secure empty⟩

end Sys2Proof.Machine
end

section
/-! The blocks of GRANT SET and ENROLL, and what these two commands leave (R101, R106, R107, R227). -/

namespace Sys2Proof.Machine

/-- Settles O3: every command but a write completion is a chain of moves in which no opening is allowed. -/
theorem onlyVerdictsOpen : Obligations.OnlyVerdictsOpen :=
  fun _ _ _ other step => opensNothing_of_moves (exec_moves .refl step other)

/-! ## Reading a grant block -/

theorem slotOf_eq_some_iff {n : Nat} {k : SlotNo} : slotOf n = some k ↔ n = k.val := by
  unfold slotOf
  split
  · simp [Fin.ext_iff]
  · simp only [reduceCtorEq, false_iff]
    omega

theorem slotOf_eq_none_iff {n : Nat} : slotOf n = none ↔ 6 ≤ n := by
  unfold slotOf
  split <;> simp <;> omega

theorem modeOf_eq_some_iff {n : Nat} {m : Mode} :
    modeOf n = some m ↔ (n = 0 ∧ m = .readOnly) ∨ (n = 1 ∧ m = .readWrite) := by
  match n with
  | 0 => simp [modeOf, eq_comm]
  | 1 => simp [modeOf, eq_comm]
  | n + 2 => simp [modeOf]

theorem grantOf_eq_some_iff {b : List Byte} {n : Nat} {g : Grant} : grantOf b n = some g ↔
    byteAt b (2 + 2 * n) = g.unit.val ∧
      ((byteAt b (3 + 2 * n) = 0 ∧ g.mode = .readOnly) ∨ (byteAt b (3 + 2 * n) = 1 ∧ g.mode = .readWrite)) := by
  simp only [grantOf, Option.bind_eq_bind, Option.bind_eq_some_iff, unitOf_eq_some_iff, modeOf_eq_some_iff,
    Option.some.injEq]
  constructor
  · rintro ⟨u, unit, m, mode, rfl⟩
    exact ⟨unit, mode⟩
  · rintro ⟨unit, mode⟩
    exact ⟨g.unit, unit, g.mode, mode, rfl⟩

/-- A list is read where each of its members is. -/
theorem mapM_eq_some_iff {α β : Type} {f : α → Option β} {l : List α} {r : List β} :
    l.mapM f = some r ↔ List.Forall₂ (fun x y => f x = some y) l r := by
  induction l generalizing r with
  | nil => simp [eq_comm]
  | cons x xs ih =>
    simp only [List.mapM_cons, Option.bind_eq_bind, Option.bind_eq_some_iff, Option.pure_def, Option.some.injEq,
      List.forall₂_cons_left_iff, ih]
    constructor
    · rintro ⟨y, read, ys, rest, rfl⟩
      exact ⟨y, ys, read, rest, rfl⟩
    · rintro ⟨y, ys, read, rest, rfl⟩
      exact ⟨y, read, ys, rest, rfl⟩

/-- The grants of a block are read entry by entry. -/
theorem mapM_grantOf_iff {b : List Byte} {n : Nat} {gs : List Grant} : (List.range n).mapM (grantOf b) = some gs ↔
    n = gs.length ∧ ∀ (i : Nat) (hi : i < gs.length), byteAt b (2 + 2 * i) = gs[i].unit.val ∧
      ((byteAt b (3 + 2 * i) = 0 ∧ gs[i].mode = .readOnly) ∨
        (byteAt b (3 + 2 * i) = 1 ∧ gs[i].mode = .readWrite)) := by
  simp only [mapM_eq_some_iff, List.forall₂_iff_get, List.length_range, List.get_eq_getElem, List.getElem_range,
    grantOf_eq_some_iff]
  constructor
  · rintro ⟨rfl, entries⟩
    exact ⟨rfl, fun i hi => entries i hi hi⟩
  · rintro ⟨rfl, entries⟩
    exact ⟨rfl, fun i hi _ => entries i hi⟩

/-- A GRANT SET block is read as its slot and its grants, at most eight and no unit twice (R106, R227). -/
theorem grantsOf_eq_some_iff {b : List Byte} {k : SlotNo} {gs : List Grant} : grantsOf b = some (k, gs) ↔
    byteAt b 0 = k.val ∧ byteAt b 1 = gs.length ∧ gs.length ≤ 8 ∧ (gs.map Grant.unit).Nodup ∧
      ∀ (n : Nat) (hn : n < gs.length), byteAt b (2 + 2 * n) = gs[n].unit.val ∧
        ((byteAt b (3 + 2 * n) = 0 ∧ gs[n].mode = .readOnly) ∨
          (byteAt b (3 + 2 * n) = 1 ∧ gs[n].mode = .readWrite)) := by
  simp only [grantsOf, Option.bind_eq_bind, Option.bind_eq_some_iff, slotOf_eq_some_iff, Option.ite_none_left_eq_some,
    Option.ite_none_right_eq_some, Option.some.injEq, Prod.mk.injEq, mapM_grantOf_iff, Nat.not_lt]
  constructor
  · rintro ⟨_, slot, few, _, ⟨count, entries⟩, distinct, rfl, rfl⟩
    exact ⟨slot, count, count ▸ few, distinct, entries⟩
  · rintro ⟨slot, count, few, distinct, entries⟩
    exact ⟨k, slot, count ▸ few, gs, ⟨count, entries⟩, distinct, rfl, rfl⟩

/-! ## ENROLL -/

theorem enrollOf_eq_some {b : List Byte} {k : SlotNo} (slot : byteAt b 0 = k.val) (notAdmin : k ≠ 0)
    (duress : k = 5 → byteAt b 1 = 0) : enrollOf b = some (k, byteAt b 1) := by
  rw [enrollOf, slotOf_eq_some_iff.2 slot]
  simp only [Option.bind_eq_bind, Option.bind_some, if_neg notAdmin]
  exact if_neg (by simpa using duress)

theorem enrollOf_eq_none {b : List Byte}
    (refused : byteAt b 0 = 0 ∨ 6 ≤ byteAt b 0 ∨ (byteAt b 0 = 5 ∧ byteAt b 1 ≠ 0)) : enrollOf b = none := by
  rcases refused with admin | above | ⟨duress, counted⟩
  · have slot : slotOf (byteAt b 0) = some 0 := slotOf_eq_some_iff.2 admin
    simp [enrollOf, slot]
  · simp [enrollOf, slotOf_eq_none_iff.2 above]
  · have slot : slotOf (byteAt b 0) = some 5 := slotOf_eq_some_iff.2 duress
    simp [enrollOf, slot, counted]

/-- Settles O29. -/
theorem enrollStartsEnrollment : Obligations.EnrollStartsEnrollment := by
  intro s h b t r
  refine ⟨_, exec_management (op := .enroll) rfl h b r.powered, fun refused => State.management_refused r _ ?_,
    fun k slot notAdmin duress => ?_⟩
  · show State.runEnroll _ b = _
    rw [State.runEnroll, enrollOf_eq_none refused]
  · have run : (s.inProgress t .enroll h b).runManagement .enroll b =
        if s.entry.state = .idle then
          ((s.inProgress t .enroll h b).startEnrolling
            ⟨k, some (byteAt b 1), s.control.session⟩).endManagement .good
        else (s.inProgress t .enroll h b).endManagement .notReady := by
      show State.runEnroll _ b = _
      rw [State.runEnroll, enrollOf_eq_some slot notAdmin duress]
      dsimp only
      rw [show (s.inProgress t .enroll h b).control.session = s.control.session from s.handledControl_session _]
      rfl
    refine ⟨fun busy => State.management_refused r _ (by rw [run, if_neg busy]), fun idle => ?_⟩
    have leads := State.management_leads r (.enroll h b) b
    rw [run, if_pos idle, State.management_ended r.totakesRecord b
      ((s.inProgress t .enroll h b).startEnrolling ⟨k, some (byteAt b 1), s.control.session⟩) .good rfl rfl
      (State.takesNow_iff.1 r.pipe).1, ← r.noCommand] at leads
    exact leads

/-! ## GRANT SET and CREDENTIAL REMOVE -/

/-- A credential record changes in the image, and its write is requested (R195, R197). -/
theorem State.setCred_requestWrite (s : State) (k : SlotNo) (c : CredRecord) (ws : List Waiter) :
    (s.setCred k c).requestWrite (.credential k) ws = { s with
      store := { s.store with
        image := { s.store.image with creds := s.store.image.creds.set k c },
        pendingSet := joinPending s.store.pendingSet ⟨.credential k c, ws⟩ } } := by
  simp [State.requestWrite, State.setCred, State.withImage, Records.content, State.withStore]

theorem State.runGrantSet_read {s : State} {b : List Byte} {k : SlotNo} {gs : List Grant}
    (read : grantsOf b = some (k, gs)) : s.runGrantSet b =
      (s.setCred k { s.cred k with grants := gs }).requestWrite (.credential k) [.management] := by
  rw [State.runGrantSet, read]

theorem State.runCredentialRemove_read {s : State} {b : List Byte} {k : SlotNo} (slot : byteAt b 0 = k.val) :
    s.runCredentialRemove b = (((s.setCred k .blank).requestWrite (.credential k) [.management]).removeEnrollment
      k).removedRole k := by
  rw [State.runCredentialRemove, slotOf_eq_some_iff.2 slot]

section Enrollment

variable {s : State} {k : SlotNo}

/-- The removal of a slot that is not being enrolled leaves the enrollment (R107). -/
theorem State.removeEnrollment_other (other : s.entry.target.map EnrollTarget.slot ≠ some k) :
    s.removeEnrollment k = s := by
  unfold State.removeEnrollment
  split
  · next t target => exact if_neg fun own => other (by rw [target, ← own]; rfl)
  · rfl

theorem State.removeEnrollment_uncommitted (own : s.entry.target.map EnrollTarget.slot = some k)
    (uncommitted : s.entry.commitPending = false) : s.removeEnrollment k = s.abandon k .removed := by
  obtain ⟨t, target, rfl⟩ := Option.map_eq_some_iff.1 own
  simp [State.removeEnrollment, target, uncommitted]

theorem State.removeEnrollment_committed (own : s.entry.target.map EnrollTarget.slot = some k)
    (committed : s.entry.commitPending = true) : s.removeEnrollment k =
      (s.withEntry { s.entry with commitRemoved := true }).withEnrolling none := by
  obtain ⟨t, target, rfl⟩ := Option.map_eq_some_iff.1 own
  simp [State.removeEnrollment, target, committed]

end Enrollment

/-- Settles O28. -/
theorem credentialCommandsAct : Obligations.CredentialCommandsAct := by
  refine ⟨fun b k gs => grantsOf_eq_some_iff, fun s h b t => ⟨fun r => ?_, fun r => ?_⟩⟩
  · refine ⟨_, exec_management (op := .grantSet) rfl h b r.powered, fun refused => State.management_refused r _ ?_,
      fun k gs read => ?_⟩
    · show State.runGrantSet _ b = _
      rw [State.runGrantSet, refused]
    · have leads := State.management_leads r (.grantSet h b) b
      rwa [show State.runManagement _ .grantSet b = _ from State.runGrantSet_read read,
        State.setCred_requestWrite] at leads
  · refine ⟨_, exec_management (op := .credentialRemove) rfl h b r.powered,
      fun refused => State.management_refused r _ ?_, fun k slot => ?_⟩
    · show State.runCredentialRemove _ b = _
      rw [State.runCredentialRemove, slotOf_eq_none_iff.2 refused]
    · have leads := State.management_leads r (.credentialRemove h b) b
      rw [show State.runManagement _ .credentialRemove b = _ from State.runCredentialRemove_read slot] at leads
      refine ⟨fun other => ?_, fun own uncommitted => ?_, fun own committed => ?_⟩
      · rw [State.removeEnrollment_other (s := ((s.inProgress t _ h b).setCred k _).requestWrite _ _) other,
          State.setCred_requestWrite] at leads
        exact leads
      · rw [State.removeEnrollment_uncommitted (s := ((s.inProgress t _ h b).setCred k _).requestWrite _ _) own
          uncommitted, State.setCred_requestWrite] at leads
        exact leads
      · rw [State.removeEnrollment_committed (s := ((s.inProgress t _ h b).setCred k _).requestWrite _ _) own
          committed, State.setCred_requestWrite] at leads
        exact leads

end Sys2Proof.Machine
end

section
/-! Penalty delays (R95), and the policy block with what POLICY SET leaves (R108, R109, R191, R216, R217, R227). -/

namespace Sys2Proof.Machine

/-! ## Changes given to the Entry Controller -/

/-- DISABLED stands, and any other state gives way (R121, R126). -/
theorem State.entryGoes_eq (s : State) (c : EntryCtl) : s.entryGoes c =
    s.withEntry { s.entry with state := if s.entry.state = .disabled then .disabled else c } := by
  unfold State.entryGoes
  split
  · next disabled => rw [← disabled]; rfl
  · rfl

/-! ## Penalty delays -/

theorem penaltyDelay_capped {p : Policy} {f : Nat} (late : 12 ≤ f - p.freeAttempts - 1) : p.penaltyDelay f = p.cap :=
  if_pos late

theorem penaltyDelay_early {p : Policy} {f : Nat} (early : ¬ 12 ≤ f - p.freeAttempts - 1) :
    p.penaltyDelay f = min p.cap (p.baseDelay * 2 ^ (f - p.freeAttempts - 1)) := if_neg early

/-- From the exponent 12 on, the product of R95 is above every cap. -/
theorem cap_lt_product {p : Policy} (fit : p.fits) {e : Nat} (late : 12 ≤ e) : p.cap < p.baseDelay * 2 ^ e :=
  calc p.cap ≤ 3600 := fit.cap.2
    _ < 2 ^ 12 := by norm_num
    _ ≤ 2 ^ e := Nat.pow_le_pow_right (by norm_num) late
    _ ≤ p.baseDelay * 2 ^ e := Nat.le_mul_of_pos_left _ fit.base.1

/-- Up to the exponent 11, the product of R95 stays in 17 bits. -/
theorem product_le {p : Policy} (fit : p.fits) {e : Nat} (early : e ≤ 11) : p.baseDelay * 2 ^ e ≤ 122880 :=
  calc p.baseDelay * 2 ^ e ≤ 60 * 2 ^ 11 :=
      Nat.mul_le_mul fit.base.2 (Nat.pow_le_pow_right (by norm_num) early)
    _ = 122880 := by norm_num

theorem penaltyDelay_eq {p : Policy} (fit : p.fits) (f : Nat) : p.penaltyDelay f =
    if p.cap < p.baseDelay * 2 ^ (f - p.freeAttempts - 1) then p.cap
    else p.baseDelay * 2 ^ (f - p.freeAttempts - 1) := by
  by_cases late : 12 ≤ f - p.freeAttempts - 1
  · rw [penaltyDelay_capped late, if_pos (cap_lt_product fit late)]
  · rw [penaltyDelay_early late, Nat.min_def]
    split <;> split <;> omega

/-- Settles O53. -/
theorem penaltyDelayIsCapped : Obligations.PenaltyDelayIsCapped := by
  refine ⟨fun s => ?_, fun p f fit _ below => ?_⟩
  · rw [State.startPenalty, State.entryGoes_eq]
    rfl
  · have formula := penaltyDelay_eq fit f
    have positive : 1 ≤ p.baseDelay * 2 ^ (f - p.freeAttempts - 1) :=
      Nat.mul_pos fit.base.1 (Nat.two_pow_pos _)
    have early := fun e => product_le (e := e) fit
    obtain ⟨limit, free, -, base, cap, -⟩ := fit
    refine ⟨formula, by omega, penaltyDelay_capped, early _, ?_, ?_⟩ <;>
      rw [formula] <;> split <;> omega

/-! ## Reading a policy block -/

theorem yesNo_eq_some_iff {n : Nat} {v : Bool} : yesNo n = some v ↔ n = if v then 1 else 0 := by
  match n with
  | 0 => cases v <;> simp [yesNo]
  | 1 => cases v <;> simp [yesNo]
  | n + 2 => cases v <;> simp [yesNo]

theorem actionOf_eq_some_iff {n : Nat} {a : EnclosureAction} :
    actionOf n = some a ↔ n = match a with | .lockOnly => 0 | .zeroize => 1 := by
  match n with
  | 0 => cases a <;> simp [actionOf]
  | 1 => cases a <;> simp [actionOf]
  | n + 2 => cases a <;> simp [actionOf]

theorem clampTo_eq_ite {lo hi : Nat} (order : lo ≤ hi) (n : Nat) :
    clampTo lo hi n = if n < lo then lo else if hi < n then hi else n := by
  unfold clampTo
  split <;> [omega; split <;> omega]

theorem channelPolicyOf_eq_some_iff {b : List Byte} {n : Nat} {c : ChannelPolicy} : channelPolicyOf b n = some c ↔
    c.low = fieldAt b (10 + 5 * n) 2 ∧ c.high = fieldAt b (12 + 5 * n) 2 ∧ c.low ≤ c.high ∧ c.high ≤ 4095 ∧
      byteAt b (14 + 5 * n) = if c.enabled then 1 else 0 := by
  obtain ⟨low, high, enabled⟩ := c
  simp only [channelPolicyOf, Option.bind_eq_bind, Option.bind_eq_some_iff, yesNo_eq_some_iff,
    Option.ite_none_left_eq_some, Option.some.injEq, ChannelPolicy.mk.injEq, Bool.or_eq_true, decide_eq_true_eq,
    not_or, Nat.not_lt]
  constructor
  · rintro ⟨_, flag, ⟨⟨_, top⟩, order⟩, rfl, rfl, rfl⟩
    exact ⟨rfl, rfl, order, top, flag⟩
  · rintro ⟨rfl, rfl, order, top, flag⟩
    exact ⟨enabled, flag, ⟨⟨order.trans top, top⟩, order⟩, rfl, rfl, rfl⟩

theorem attemptFieldsFit_iff {f l q p m : Nat} : attemptFieldsFit f l q p m = true ↔
    4 ≤ l ∧ l ≤ 50 ∧ 1 ≤ q ∧ q + 1 < l ∧ q + 1 ≤ p ∧ p + 1 ≤ l ∧ f < l ∧ 6 ≤ m ∧ m ≤ 12 := by
  simp only [attemptFieldsFit, Bool.and_eq_true, decide_eq_true_eq]
  omega

theorem vector4_eta {α : Type} (v : Vector α 4) : #v[v[0], v[1], v[2], v[3]] = v := by
  ext i hi
  match i with
  | 0 | 1 | 2 | 3 => rfl

/-- A policy block is taken where its refusals do not hold and its parts can be read, each field by itself (R108, R216). -/
theorem policyOf_eq_some_iff {stored p : Policy} {f : Nat} {b : List Byte} : policyOf stored f b = some p ↔
    attemptFieldsFit f (byteAt b 0) (byteAt b 1) (byteAt b 2) (byteAt b 6) = true ∧
    (p.attemptLimit = byteAt b 0 ∧ p.freeAttempts = byteAt b 1 ∧ p.replugPoint = byteAt b 2 ∧ p.minPin = byteAt b 6) ∧
    p.baseDelay = clampTo 1 60 (byteAt b 3) ∧ p.cap = clampTo p.baseDelay 3600 (fieldAt b 4 2) ∧
    p.adminIdle = clampTo 1 60 (byteAt b 7) ∧
    p.threshold = (if byteAt b 8 = 0 then stored.threshold else min 32 (byteAt b 8)) ∧ p.delay = byteAt b 9 ∧
    (∀ c : Fin 4, channelPolicyOf b c.val = some p.channels[c]) ∧ actionOf (byteAt b 30) = some p.action := by
  simp only [policyOf, Option.bind_eq_bind, Option.bind_eq_some_iff, Option.ite_none_right_eq_some, Option.some.injEq]
  constructor
  · rintro ⟨c0, h0, c1, h1, c2, h2, c3, h3, action, code, attempts, rfl⟩
    refine ⟨attempts, ⟨rfl, rfl, rfl, rfl⟩, rfl, rfl, rfl, rfl, rfl, fun c => ?_, code⟩
    match c with
    | 0 => exact h0
    | 1 => exact h1
    | 2 => exact h2
    | 3 => exact h3
  · obtain ⟨limit, free, replug, base, cap, minPin, idle, threshold, delay, channels, action⟩ := p
    dsimp only
    rintro ⟨attempts, ⟨rfl, rfl, rfl, rfl⟩, rfl, rfl, rfl, rfl, rfl, rows, code⟩
    refine ⟨_, rows 0, _, rows 1, _, rows 2, _, rows 3, _, code, attempts, ?_⟩
    congr 1
    exact vector4_eta channels

/-! ## The block of a policy -/

section Bytes

variable (p : Policy)

theorem Policy.channel_standsAt (c : Fin 4) : standsAt p.channels[c].bytes (10 + 5 * c.val) p.bytes := by
  have row := standsAt_flatMap (f := ChannelPolicy.bytes) (k := 5) (fun _ => rfl) p.channels.toList (i := c.val) (by simp)
  rw [Vector.getElem_toList] at row
  refine row.trans ?_
  rw [Policy.bytes, List.append_assoc, List.append_assoc]
  exact .middle rfl _ _

theorem Policy.action_byte : byteAt p.bytes 30 = p.action.code.toNat := by
  have channels : (p.channels.toList.flatMap ChannelPolicy.bytes).length = 20 := by
    simp [length_flatMap_of (f := ChannelPolicy.bytes) (k := 5) fun _ => rfl]
  have action := (standsAt.middle channels [p.action.code] (reserved 1)).behind (n := 10)
    (a := [byteOf p.attemptLimit, byteOf p.freeAttempts, byteOf p.replugPoint, byteOf p.baseDelay] ++ fieldOf 2 p.cap ++
      [byteOf p.minPin, byteOf p.adminIdle, byteOf p.threshold, byteOf p.delay]) rfl
  rw [Policy.bytes, List.append_assoc, List.append_assoc]
  exact action.byte (i := 0) (by simp)

end Bytes

/-- A field of two bytes at the start reads back (R224). -/
theorem fieldAt_fieldOf_two {v : Nat} (small : v < 65536) (rest : List Byte) : fieldAt (fieldOf 2 v ++ rest) 0 2 = v := by
  rw [fieldAt_append_left rest (by simp [fieldOf]), fieldAt_fieldOf_mod, Nat.mod_eq_of_lt (by simpa using small)]

/-- A channel's five bytes are read back where they stand (R227). -/
theorem channelPolicyOf_bytes {c : ChannelPolicy} {n : Nat} {b : List Byte} (fit : c.fits)
    (part : standsAt c.bytes (10 + 5 * n) b) : channelPolicyOf b n = some c := by
  obtain ⟨order, top⟩ := fit
  have low : fieldAt b (10 + 5 * n) 2 = c.low :=
    (part.field (i := 0) (by simp [ChannelPolicy.bytes, fieldOf])).trans
      (fieldAt_fieldOf_two (v := c.low) (by omega) (fieldOf 2 c.high ++ [flagOf c.enabled]))
  have high : fieldAt b (10 + 5 * n + 2) 2 = c.high :=
    (part.field (by simp [ChannelPolicy.bytes, fieldOf])).trans
      ((fieldAt_append (a := fieldOf 2 c.low) (b := fieldOf 2 c.high ++ [flagOf c.enabled]) (i := 0) rfl 2).trans
        (fieldAt_fieldOf_two (v := c.high) (by omega) [flagOf c.enabled]))
  have flag : byteAt b (10 + 5 * n + 4) = (flagOf c.enabled).toNat :=
    part.byte (i := 4) (by simp [ChannelPolicy.bytes, fieldOf])
  rw [channelPolicyOf_eq_some_iff, show 12 + 5 * n = 10 + 5 * n + 2 by omega, show 14 + 5 * n = 10 + 5 * n + 4 by omega]
  exact ⟨low.symm, high.symm, order, top, flag.trans (toNat_flagOf _)⟩

theorem actionOf_code (a : EnclosureAction) : actionOf a.code.toNat = some a := by cases a <;> rfl

/-- A field that is in its bounds is its own clamp. -/
theorem clampTo_of_within {lo hi n : Nat} (low : lo ≤ n) (high : n ≤ hi) : clampTo lo hi n = n := by
  rw [clampTo, Nat.min_eq_right high, Nat.max_eq_right low]

/-- The block of a policy that fits spells it (R108, R216). -/
theorem policyOf_bytes {p stored : Policy} {f : Nat} (fit : p.fits) (below : f < p.attemptLimit) :
    policyOf stored f p.bytes = some p := by
  obtain ⟨limit, free, replug, base, cap, minPin, idle, threshold, delay, channels⟩ := fit
  have b0 : byteAt p.bytes 0 = p.attemptLimit := toNat_byteOf (by omega)
  have b1 : byteAt p.bytes 1 = p.freeAttempts := toNat_byteOf (by omega)
  have b2 : byteAt p.bytes 2 = p.replugPoint := toNat_byteOf (by omega)
  have b3 : byteAt p.bytes 3 = p.baseDelay := toNat_byteOf (by omega)
  have b4 : fieldAt p.bytes 4 2 = p.cap := fieldAt_fieldOf_two (by omega) []
  have b6 : byteAt p.bytes 6 = p.minPin := toNat_byteOf (by omega)
  have b7 : byteAt p.bytes 7 = p.adminIdle := toNat_byteOf (by omega)
  have b8 : byteAt p.bytes 8 = p.threshold := toNat_byteOf (by omega)
  have b9 : byteAt p.bytes 9 = p.delay := toNat_byteOf (by omega)
  rw [policyOf_eq_some_iff, attemptFieldsFit_iff, b0, b1, b2, b3, b4, b6, b7, b8, b9, p.action_byte,
    clampTo_of_within base.1 base.2, clampTo_of_within cap.1 cap.2, clampTo_of_within idle.1 idle.2,
    if_neg (by omega), Nat.min_eq_right threshold.2]
  exact ⟨by omega, ⟨rfl, rfl, rfl, rfl⟩, rfl, rfl, rfl, rfl, rfl,
    fun c => channelPolicyOf_bytes (channels c) (p.channel_standsAt c), actionOf_code _⟩

/-- Settles O30. -/
theorem policyBlockReadsBack : Obligations.PolicyBlockReadsBack := by
  refine ⟨fun p stored f b => ?_, fun p stored f fit below => policyOf_bytes fit below⟩
  have base : p.baseDelay = clampTo 1 60 (byteAt b 3) → p.baseDelay ≤ 3600 := by
    unfold clampTo
    omega
  have threshold : (if byteAt b 8 = 0 then stored.threshold else min 32 (byteAt b 8)) =
      if byteAt b 8 = 0 then stored.threshold else if 32 < byteAt b 8 then 32 else byteAt b 8 := by
    split <;> [rfl; split <;> omega]
  have idle : clampTo 1 60 (byteAt b 7) = if byteAt b 7 = 0 then 1 else if 60 < byteAt b 7 then 60 else byteAt b 7 := by
    simp only [clampTo_eq_ite (show 1 ≤ 60 by omega), Nat.lt_one_iff]
  rw [policyOf_eq_some_iff, attemptFieldsFit_iff, threshold, idle, actionOf_eq_some_iff]
  simp only [channelPolicyOf_eq_some_iff]
  refine and_congr_right' (and_congr_right' ?_)
  rw [← clampTo_eq_ite (show 1 ≤ 60 by omega)]
  exact and_congr_right fun delay => and_congr (by rw [clampTo_eq_ite (base delay)]) Iff.rfl

/-! ## What a policy does to the Tamper Monitor (R191, R217) -/

/-- A policy change acts, besides the records, on the channels and on what a change of the disabling conditions acts on. -/
def State.monitorOnly (s t : State) : Prop :=
  ∃ enrolling entry leds events channels,
    t = { s with enrolling := enrolling, entry := entry, leds := leds, events := events,
                 tamper := { s.tamper with channels := channels } }

/-- A channel after its enable went from one value to another (R191). -/
def Channel.enableChanged (k : Channel) (c : Fin 4) (was is : Bool) : Channel :=
  match was, is with
  | true, false =>
    if c = 3 then { k with outRun := 0, inRun := 0, level := if k.alarm then .outOfRange else .inRange }
    else { k with outRun := 0, inRun := 0, level := .inRange, alarm := false }
  | false, true => { k with outRun := 0, inRun := 0 }
  | _, _ => k

namespace State.monitorOnly

variable {s t u : State}

theorem refl (s : State) : s.monitorOnly s := ⟨_, _, _, _, _, rfl⟩

theorem trans (first : s.monitorOnly t) (rest : t.monitorOnly u) : s.monitorOnly u := by
  obtain ⟨_, _, _, _, _, rfl⟩ := first
  obtain ⟨_, _, _, _, _, rfl⟩ := rest
  exact ⟨_, _, _, _, _, rfl⟩

theorem reevaluate (s : State) : s.monitorOnly s.reevaluate := by
  obtain ⟨_, _, _, _, same, -⟩ := s.reevaluate_entry
  exact ⟨_, _, _, _, s.tamper.channels, same⟩

theorem setChannel (s : State) (c : Fin 4) (k : Channel) : s.monitorOnly (s.setChannel c k) := ⟨_, _, _, _, _, rfl⟩

theorem policy (same : s.monitorOnly t) (c : Fin 4) : t.channelPolicy c = s.channelPolicy c := by
  obtain ⟨_, _, _, _, _, rfl⟩ := same
  rfl

end State.monitorOnly

theorem State.channel_setChannel (s : State) (c : Fin 4) (k : Channel) : (s.setChannel c k).channel c = k :=
  Vector.getElem_set_self c.isLt

theorem State.channel_setChannel_ne (s : State) {c d : Fin 4} (other : d ≠ c) (k : Channel) :
    (s.setChannel c k).channel d = s.channel d :=
  Vector.getElem_set_ne c.isLt d.isLt fun same => other (Fin.ext same.symm)

theorem State.channel_reevaluate (s : State) (c : Fin 4) : s.reevaluate.channel c = s.channel c := by
  obtain ⟨_, _, _, _, same, -⟩ := s.reevaluate_entry
  rw [same]
  rfl

theorem State.channel_alarmChanged (s : State) (c d : Fin 4) : (s.alarmChanged c).channel d = s.channel d := by
  unfold State.alarmChanged
  split
  · exact s.channel_reevaluate d
  · rfl

/-- A clear leaves the channel's alarm down, and the other channels (R183). -/
theorem State.clearAlarm_spec (s : State) (c : Fin 4) (why : ClearDetail) : s.monitorOnly (s.clearAlarm c why) ∧
    (s.clearAlarm c why).channel c = { s.channel c with alarm := false } ∧
    ∀ d, d ≠ c → (s.clearAlarm c why).channel d = s.channel d := by
  unfold State.clearAlarm
  split
  · refine ⟨?_, ?_, fun d other => ?_⟩
    · have cleared : s.monitorOnly ((s.setChannel c { s.channel c with alarm := false }).place (.tamperClear c why)) :=
        ⟨_, _, _, _, _, rfl⟩
      unfold State.alarmChanged
      split
      · exact cleared.trans (.reevaluate _)
      · exact cleared
    · rw [State.channel_alarmChanged]
      exact s.channel_setChannel c _
    · rw [State.channel_alarmChanged]
      exact s.channel_setChannel_ne other _
  · next standing => exact ⟨.refl s, by rw [← eq_false_of_ne_true standing], fun _ _ => rfl⟩

theorem State.setChannel_spec (s : State) (c : Fin 4) (k : Channel) : s.monitorOnly (s.setChannel c k) ∧
    (s.setChannel c k).channel c = k ∧ ∀ d, d ≠ c → (s.setChannel c k).channel d = s.channel d :=
  ⟨.setChannel s c k, s.channel_setChannel c k, fun _ other => s.channel_setChannel_ne other k⟩

theorem State.disableChannel_spec (s : State) (c : Fin 4) : s.monitorOnly (s.disableChannel c) ∧
    (s.disableChannel c).channel c = (s.channel c).enableChanged c true false ∧
    ∀ d, d ≠ c → (s.disableChannel c).channel d = s.channel d := by
  unfold State.disableChannel Channel.enableChanged
  by_cases enclosure : c = 3
  · simp only [if_pos enclosure]
    exact s.setChannel_spec c _
  · simp only [if_neg enclosure]
    obtain ⟨set, own, others⟩ := s.setChannel_spec c { s.channel c with outRun := 0, inRun := 0, level := .inRange }
    obtain ⟨clear, cleared, left⟩ := (s.setChannel c { s.channel c with
      outRun := 0, inRun := 0, level := .inRange }).clearAlarm_spec c .disabled
    refine ⟨set.trans clear, cleared.trans ?_, fun d other => (left d other).trans (others d other)⟩
    rw [own]

/-- A new policy acts on a channel by the change of its enable, and leaves the other channels. -/
theorem State.applyChannel_spec (s : State) (old : Policy) (c : Fin 4) : s.monitorOnly (s.applyChannel old c) ∧
    (s.applyChannel old c).channel c =
      (s.channel c).enableChanged c old.channels[c].enabled (s.channelPolicy c).enabled ∧
    ∀ d, d ≠ c → (s.applyChannel old c).channel d = s.channel d := by
  unfold State.applyChannel
  generalize old.channels[c].enabled = was
  generalize (s.channelPolicy c).enabled = is
  match was, is with
  | true, false => exact s.disableChannel_spec c
  | false, true => exact s.setChannel_spec c _
  | true, true | false, false => exact ⟨.refl s, rfl, fun _ _ => rfl⟩

/-- A new policy acts on channels one after another, on each by itself. -/
theorem State.applyChannels_spec (old : Policy) (cs : List (Fin 4)) (once : cs.Nodup) (s : State) :
    s.monitorOnly (cs.foldl (fun t c => t.applyChannel old c) s) ∧
    (∀ c ∈ cs, (cs.foldl (fun t c => t.applyChannel old c) s).channel c =
      (s.channel c).enableChanged c old.channels[c].enabled (s.channelPolicy c).enabled) ∧
    ∀ c, c ∉ cs → (cs.foldl (fun t c => t.applyChannel old c) s).channel c = s.channel c := by
  induction cs generalizing s with
  | nil => exact ⟨.refl s, fun c within => absurd within List.not_mem_nil, fun _ _ => rfl⟩
  | cons d ds ih =>
    obtain ⟨fresh, once⟩ := List.nodup_cons.1 once
    obtain ⟨only, own, others⟩ := s.applyChannel_spec old d
    obtain ⟨rest, applied, kept⟩ := ih once (s.applyChannel old d)
    refine ⟨only.trans rest, fun c within => ?_, fun c outside => ?_⟩
    · rcases List.mem_cons.1 within with rfl | later
      · exact (kept c fresh).trans own
      · have other : c ≠ d := fun same => fresh (same ▸ later)
        exact (applied c later).trans (by rw [others c other, only.policy])
    · obtain ⟨other, later⟩ := not_or.1 (mt List.mem_cons.2 outside)
      exact (kept c later).trans (others c other)

/-- An accepted policy stands in the image, and acts on the four channels (R191, R217). -/
theorem State.applyPolicy_spec (s : State) (p : Policy) : (s.setPolicy p).monitorOnly (s.applyPolicy p) ∧
    ∀ c : Fin 4, (s.applyPolicy p).channel c =
      (s.channel c).enableChanged c (s.channelPolicy c).enabled p.channels[c].enabled := by
  obtain ⟨only, applied, -⟩ := State.applyChannels_spec s.store.image.policy (List.finRange 4)
    (List.nodup_finRange 4) (s.setPolicy p)
  exact ⟨only.trans (.reevaluate _),
    fun c => (State.channel_reevaluate _ c).trans (applied c (List.mem_finRange c))⟩

/-! ## POLICY SET -/

theorem State.runPolicySet_read {s : State} {b : List Byte} {p : Policy}
    (read : policyOf s.store.image.policy s.attempt.failed b = some p) :
    s.runPolicySet b = (s.applyPolicy p).requestWrite .policy [.management] := by
  rw [State.runPolicySet, read]

theorem State.runPolicySet_refused {s : State} {b : List Byte}
    (refused : policyOf s.store.image.policy s.attempt.failed b = none) : s.runPolicySet b = s.endManagement .invalid := by
  rw [State.runPolicySet, refused]

/-- Settles O31. -/
theorem policySetActs : Obligations.PolicySetActs := by
  intro s h b t r
  refine ⟨_, exec_management (op := .policySet) rfl h b r.powered,
    fun refused => State.management_refused r _ (State.runPolicySet_refused refused), fun p read => ?_⟩
  obtain ⟨attempts, -⟩ := policyOf_eq_some_iff.1 read
  obtain ⟨-, -, -, -, -, -, below, -⟩ := attemptFieldsFit_iff.1 attempts
  obtain ⟨⟨limit, -⟩, -⟩ := (policyOf_eq_some_iff.1 read).2
  have leads := State.management_leads r (.policySet h b) b
  have run : (s.inProgress t .policySet h b).runManagement .policySet b = _ :=
    State.runPolicySet_read (s := s.inProgress t .policySet h b) read
  rw [run] at leads
  refine ⟨limit ▸ below, _, leads, ?_⟩
  obtain ⟨⟨_, _, _, _, _, applied⟩, channels⟩ := (s.inProgress t .policySet h b).applyPolicy_spec p
  refine ⟨?_, ?_, ?_, ?_, ?_, ?_, ?_, fun c => (channels c).trans ?_⟩
  case refine_8 =>
    unfold Channel.enableChanged
    by_cases enclosure : c = 3
    · subst enclosure
      rfl
    · simp only [if_neg enclosure]
      rfl
  all_goals rw [applied]; rfl

end Sys2Proof.Machine
end

section
/-! The timers of the entry and of the indicators (R105, R119, R125, R129, R131 to R133). -/

namespace Sys2Proof.Machine

/-! ## Indicators -/

theorem Display.shown_take (d : Display) (w : Option LedRequest) : (d.take w).shown = w := by
  unfold Display.take
  split
  · assumption
  · rfl

/-- After a refresh every LED shows its winner (R131). -/
theorem State.shown_refreshLeds (s : State) (l : Led) : (s.refreshLeds.leds.display l).shown = s.winner l := by
  cases l <;> exact Display.shown_take _ _

/-- Outside standby red shows FAIL while that transient runs (R131). -/
theorem State.winner_red_fail {s : State} (awake : s.port.standby = false) (fail : s.leds.fail = true) :
    s.winner .red = some .failFeedback := by
  rw [State.winner, if_neg (ne_true_of_eq_false awake)]
  exact List.find?_cons_of_pos fail

/-- Without a FAIL, red shows the highest of the latch, a wait and rest (R130, R131). -/
theorem State.winner_red_standing {s : State} (awake : s.port.standby = false) (quiet : s.leds.fail = false) :
    s.winner .red =
      if s.latch then some .latch
      else if s.entry.state = .penalty ∨ s.entry.state = .replugWait then some .attemptWait
      else if s.anyErasing ∨ s.erase.internal.isSome ∨ s.control.session ∨ s.anyOpen then none
      else some .rest := by
  simp only [State.winner, awake, ledRequests, List.find?_cons, List.find?_nil, State.stands, quiet]
  by_cases latch : s.latch = true
  · simp [latch]
  · by_cases waits : s.entry.state = .penalty ∨ s.entry.state = .replugWait
    · rw [if_neg latch, if_pos waits]
      rcases waits with waits | waits <;> simp [latch, waits]
    · obtain ⟨penalty, replug⟩ := not_or.1 waits
      by_cases busy : s.anyErasing = true ∨ s.erase.internal.isSome = true ∨ s.control.session = true ∨ s.anyOpen = true
      · rw [if_neg latch, if_neg waits, if_pos busy]
        rcases busy with busy | busy | busy | busy <;> simp [latch, penalty, replug, busy]
      · simp only [not_or] at busy
        simp [latch, penalty, replug, busy]

/-- Without a transient, green shows an open unit (R130, R131). -/
theorem State.winner_green_standing {s : State} (awake : s.port.standby = false) (quiet : s.leds.green = none) :
    s.winner .green = if s.anyOpen then some .unitOpen else none := by
  simp only [State.winner, awake, ledRequests, List.find?_cons, List.find?_nil, State.stands, quiet]
  cases s.anyOpen <;> rfl

/-- A phase's end leaves the request that an LED shows (R129). -/
theorem Display.shown_nextPhase (d : Display) : d.nextPhase.shown = d.shown := by
  unfold Display.nextPhase
  split <;> rfl

/-- The parity of a blinking display turns over at the end of a phase, but for FAIL's last (R129). -/
theorem Display.phase_nextPhase {d : Display} {r : LedRequest} (shown : d.shown = some r)
    (blinks : ((r.pattern = .slow ∨ r.pattern = .fast) ∧ d.phase < 2) ∨ (r.pattern = .fail ∧ d.phase < 5)) :
    d.nextPhase.phase % 2 = (d.phase + 1) % 2 := by
  unfold Display.nextPhase
  rw [shown, Option.map_some]
  rcases blinks with ⟨slow | fast, -⟩ | ⟨fail, early⟩
  · rw [slow]
    exact Nat.mod_mod _ _
  · rw [fast]
    exact Nat.mod_mod _ _
  · rw [fail]
    exact congrArg (· % 2) (Nat.min_eq_right early)

theorem State.lit_of_blinks {s : State} {l : Led} {r : LedRequest} (shown : (s.leds.display l).shown = some r)
    (blinks : r.pattern = .slow ∨ r.pattern = .fast ∨ r.pattern = .fail) :
    s.lit l = decide ((s.leds.display l).phase % 2 = 0) := by
  unfold State.lit
  rw [shown]
  rcases blinks with slow | fast | fail
  · simp only [slow]
  · simp only [fast]
  · simp only [fail]

/-- The part after a phase of one LED has ended. -/
def State.phaseEnded (s : State) : Led → State
  | .red => s.withLeds { s.leds with redDisplay := s.leds.redDisplay.nextPhase }
  | .green => s.withLeds { s.leds with greenDisplay := s.leds.greenDisplay.nextPhase }
  | .blue => s.withLeds { s.leds with blueDisplay := s.leds.blueDisplay.nextPhase }

theorem exec_patternPhaseEnd {s : State} (powered : s.power.vbus = true) (l : Led) :
    exec (.patternPhaseEnd l) s = .next (s.phaseEnded l) := by
  show execPatternPhaseEnd l s = _
  rw [execPatternPhaseEnd, State.act_powered _ powered]
  cases l <;> rfl

theorem State.display_phaseEnded (s : State) (l : Led) :
    (s.phaseEnded l).leds.display l = (s.leds.display l).nextPhase := by cases l <;> rfl

theorem State.display_phaseEnded_ne (s : State) {l k : Led} (other : k ≠ l) :
    (s.phaseEnded l).leds.display k = s.leds.display k := by
  cases l with
  | red => cases k with
    | red => exact absurd rfl other
    | green | blue => rfl
  | green => cases k with
    | green => exact absurd rfl other
    | red | blue => rfl
  | blue => cases k with
    | blue => exact absurd rfl other
    | red | green => rfl

/-- The LED whose phase ends turns over (R129). -/
theorem State.lit_phaseEnded {s : State} {l : Led} {r : LedRequest} (shown : (s.leds.display l).shown = some r)
    (blinks : ((r.pattern = .slow ∨ r.pattern = .fast) ∧ (s.leds.display l).phase < 2) ∨
      (r.pattern = .fail ∧ (s.leds.display l).phase < 5)) : (s.phaseEnded l).lit l = !s.lit l := by
  have pattern : r.pattern = .slow ∨ r.pattern = .fast ∨ r.pattern = .fail := by tauto
  have after : ((s.phaseEnded l).leds.display l).shown = some r := by
    rw [State.display_phaseEnded, Display.shown_nextPhase, shown]
  rw [State.lit_of_blinks shown pattern, State.lit_of_blinks after pattern, State.display_phaseEnded,
    Display.phase_nextPhase shown blinks, ← decide_not]
  exact decide_eq_decide.2 (by omega)

/-- A rest request lights its LED while the rest timer runs (R133). -/
theorem State.lit_rest {s : State} {l : Led} (shown : (s.leds.display l).shown = some .rest) :
    s.lit l = s.leds.restTimer.isSome := by
  unfold State.lit
  rw [shown]
  rfl

/-! ## The timers of the entry -/

/-- An uncommitted enrollment is abandoned where anything abandons it (R105). -/
theorem State.abandonAny_uncommitted {s : State} {g : EnrollTarget} (target : s.entry.target = some g)
    (uncommitted : s.entry.commitPending = false) (r : AbandonReason) : s.abandonAny r = s.abandon g.slot r := by
  simp [State.abandonAny, State.uncommitted, uncommitted, target]

theorem exec_interKeyExpiry {s : State} (powered : s.power.vbus = true) (runs : s.entry.interKeyTimer.isSome = true) :
    exec .interKeyExpiry s = .next s.interKeyExpired := by
  show execInterKeyExpiry s = _
  rw [execInterKeyExpiry, State.act_powered _ powered, if_pos runs]

theorem State.interKeyExpired_collecting {s : State} (collecting : s.entry.state = .collecting) :
    s.interKeyExpired = { s with entry := { s.entry with state := .idle, buffer := [], interKeyTimer := none } } := by
  rw [State.interKeyExpired, collecting]
  rfl

theorem State.interKeyExpired_enrolling {s : State} (enrolling : s.entry.state = .enrollFirst ∨ s.entry.state = .enrollConfirm) :
    s.interKeyExpired = { s with entry := { s.entry with buffer := [], interKeyTimer := none } } := by
  rcases enrolling with first | confirm
  · rw [State.interKeyExpired, first]
    rfl
  · rw [State.interKeyExpired, confirm]
    rfl

theorem exec_enrollmentWindowExpiry {s : State} (powered : s.power.vbus = true) (runs : s.entry.window.isSome = true) :
    exec .enrollmentWindowExpiry s = .next (s.abandonAny .timeout).refreshLeds := by
  show execEnrollmentWindowExpiry s = _
  rw [execEnrollmentWindowExpiry, State.act_powered _ powered, if_pos runs]

/-- The part after a transient of an LED has ended. -/
def State.transientEnded (s : State) : Led → State
  | .red => (s.withLeds { s.leds with fail := false }).refreshLeds
  | .green => (s.withLeds { s.leds with green := none }).refreshLeds
  | .blue => s

theorem exec_transientEnd {s : State} (powered : s.power.vbus = true) (l : Led) :
    exec (.transientEnd l) s = .next (s.transientEnded l) := by
  show execTransientEnd l s = _
  rw [execTransientEnd, State.act_powered _ powered]
  cases l <;> rfl

theorem exec_restTimerExpiry {s : State} (powered : s.power.vbus = true) :
    exec .restTimerExpiry s = .next (s.withLeds { s.leds with restTimer := none }) := by
  show execRestTimerExpiry s = _
  rw [execRestTimerExpiry, State.act_powered _ powered]

/-- Settles O56. -/
theorem entryAndLightTimersExpire : Obligations.EntryAndLightTimersExpire := by
  intro s powered
  refine ⟨fun runs => ⟨fun collecting => ?_, fun enrolling => ?_⟩, fun g runs target uncommitted => ?_, ?_, ?_,
    exec_transientEnd powered .blue, fun l r shown blinks => ?_, exec_restTimerExpiry powered, fun l shown => ?_⟩
  · rw [exec_interKeyExpiry powered runs, State.interKeyExpired_collecting collecting]
  · rw [exec_interKeyExpiry powered runs, State.interKeyExpired_enrolling enrolling]
  · refine ⟨_, exec_enrollmentWindowExpiry powered runs, ?_⟩
    rw [State.abandonAny_uncommitted target uncommitted]
    exact ⟨rfl, rfl, rfl, rfl, rfl, fun awake => (State.shown_refreshLeds _ .red).trans
      (State.winner_red_fail (s := s.abandon g.slot .timeout) awake rfl)⟩
  · exact ⟨_, exec_transientEnd powered .red, rfl, rfl, fun awake => (State.shown_refreshLeds _ .red).trans
      (State.winner_red_standing (s := s.withLeds _) awake rfl)⟩
  · exact ⟨_, exec_transientEnd powered .green, rfl, rfl, fun awake => (State.shown_refreshLeds _ .green).trans
      (State.winner_green_standing (s := s.withLeds _) awake rfl)⟩
  · exact ⟨_, exec_patternPhaseEnd powered l, by rw [State.display_phaseEnded, Display.shown_nextPhase, shown],
      State.lit_phaseEnded shown blinks, fun k other => s.display_phaseEnded_ne other⟩
  · rw [State.lit_rest shown]

end Sys2Proof.Machine
end

section
/-! Releases of keys: what a KEY press ends (R89, R99, R103, R104, R112 to R114, R118, R124, R125), and salts (R85). -/

namespace Sys2Proof.Machine

/-! ## Salts -/

theorem freshSalt_injective {n m : Nat} (hn : n < 2 ^ 128) (hm : m < 2 ^ 128) (other : n ≠ m) :
    Config.freshSalt n ≠ Config.freshSalt m := by
  intro same
  have := congrArg BitVec.toNat (Config.saltOrder.injective same)
  rw [BitVec.toNat_ofNat, BitVec.toNat_ofNat, Nat.mod_eq_of_lt hn, Nat.mod_eq_of_lt hm] at this
  exact other this

/-- The salt is the lower part of the number that it and a PIN spell (R85). -/
theorem pinNumber_mod (salt : Salt) (pin : List Digit) : pinNumber salt pin % 2 ^ 128 = salt.toNat := by
  rw [pinNumber, Nat.add_mul_mod_self_left, Nat.mod_eq_of_lt salt.isLt]

/-- A PIN has another verifier under another salt (R85). -/
theorem verifierOf_ne {a b : Salt} (other : a ≠ b) (pin : List Digit) : verifierOf a pin ≠ verifierOf b pin := by
  intro same
  have number : pinNumber a pin = pinNumber b pin := Config.digest.injective same
  refine other (BitVec.eq_of_toNat_eq ?_)
  rw [← pinNumber_mod a pin, number, pinNumber_mod]

/-! ## Lockout -/

theorem exists_padIndex : ∀ i : Fin 12, ∃ p ∈ allKeys, padIndex p = i := by decide

theorem anyDown_eq_false_iff (k : Scanner) : allKeys.any k.isDown = false ↔ ∀ i : Fin 12, k.down[i] = false := by
  simp only [List.any_eq_false, Bool.not_eq_true]
  constructor
  · intro up i
    obtain ⟨p, key, rfl⟩ := exists_padIndex i
    exact up p key
  · exact fun up p _ => up (padIndex p)

/-- Lockout clears once every key is up, and stands until then (R113). -/
theorem State.clearLockout_eq (s : State) : s.clearLockout = s.withScanner { s.scanner with
    lockout := if ∀ i : Fin 12, s.scanner.down[i] = false then false else s.scanner.lockout } := by
  unfold State.clearLockout
  by_cases up : ∀ i : Fin 12, s.scanner.down[i] = false
  · rw [if_pos up, if_neg (ne_true_of_eq_false ((anyDown_eq_false_iff _).2 up))]
  · rw [if_neg up, if_pos (eq_true_of_ne_false fun none => up ((anyDown_eq_false_iff _).1 none))]
    rfl

/-! ## Releases -/

section TakeRelease

variable {s : State} {p : PadKey}

theorem State.takeRelease_unheld (unheld : s.scanner.held ≠ some p) : s.takeRelease p = s := if_neg unheld

theorem State.takeRelease_held (held : s.scanner.held = some p) (nothing : p ≠ .key ∨ s.scanner.holdTimer = none) :
    s.takeRelease p = s.withScanner { s.scanner with held := none, holdTimer := none } := by
  rw [State.takeRelease, if_pos held]
  refine if_neg ?_
  rcases nothing with other | expired
  · simp [other]
  · simp [expired]

theorem State.takeRelease_key (held : s.scanner.held = some .key) (early : s.scanner.holdTimer.isSome = true) :
    s.takeRelease .key = (s.withScanner { s.scanner with held := none, holdTimer := none }).keyPress := by
  rw [State.takeRelease, if_pos held]
  exact if_pos early

end TakeRelease

/-- The part with a key up. -/
def State.keyUp (s : State) (p : PadKey) : State := s.withScanner (s.scanner.setLevel p false)

/-- The part with a key up, and none held (R112). -/
def State.letGo (s : State) (p : PadKey) : State :=
  s.withScanner { s.scanner.setLevel p false with held := none, holdTimer := none }

section Release

variable {s : State} {p : PadKey} (powered : s.power.vbus = true)

include powered

theorem exec_recognisedRelease (down : s.scanner.isDown p = true) {m : State} (taken : (s.keyUp p).takeRelease p = m) :
    exec (.recognisedRelease p) s = .next m.clearLockout.refreshLeds := by
  show execRecognisedRelease p s = _
  rw [execRecognisedRelease, State.act_powered _ powered, if_pos down, ← taken]
  rfl

/-- A release of a key that is not held delivers nothing (R112). -/
theorem exec_release_unheld (down : s.scanner.isDown p = true) (unheld : s.scanner.held ≠ some p) :
    exec (.recognisedRelease p) s = .next (s.keyUp p).clearLockout.refreshLeds :=
  exec_recognisedRelease powered down (State.takeRelease_unheld (s := s.keyUp p) unheld)

/-- A release of the held key that is not KEY within its 3 s lets it go (R112, R114). -/
theorem exec_release_held (down : s.scanner.isDown p = true) (held : s.scanner.held = some p)
    (nothing : p ≠ .key ∨ s.scanner.holdTimer = none) :
    exec (.recognisedRelease p) s = .next (s.letGo p).clearLockout.refreshLeds :=
  exec_recognisedRelease powered down (State.takeRelease_held (s := s.keyUp p) held nothing)

/-- A release of KEY within its 3 s delivers a KEY press (R114). -/
theorem exec_release_key (down : s.scanner.isDown .key = true) (held : s.scanner.held = some .key)
    (early : s.scanner.holdTimer.isSome = true) :
    exec (.recognisedRelease .key) s = .next (s.letGo .key).keyPress.clearLockout.refreshLeds :=
  exec_recognisedRelease powered down (State.takeRelease_key (s := s.keyUp .key) held early)

end Release

/-! ## KEY presses -/

section KeyPress

variable {s : State}

theorem State.keyPress_charges (collecting : s.entry.state = .collecting)
    (long : s.store.image.policy.minPin ≤ s.entry.buffer.length) : s.keyPress =
      (s.withEntry { s.entry with state := .verifying, interKeyTimer := none }).charge := by
  rw [State.keyPress, collecting]
  exact if_neg (Nat.not_lt.2 long)

theorem State.keyPress_discards (collecting : s.entry.state = .collecting)
    (short : s.entry.buffer.length < s.store.image.policy.minPin) : s.keyPress =
      (s.withEntry { s.entry with state := .idle, buffer := [], interKeyTimer := none }).showFail := by
  rw [State.keyPress, collecting]
  exact if_pos short

/-- A KEY press is ignored where nothing is typed (R118, R124). -/
theorem State.keyPress_ignored (notCollecting : s.entry.state ≠ .collecting)
    (nothing : (s.entry.state ≠ .enrollFirst ∧ s.entry.state ≠ .enrollConfirm) ∨ s.entry.buffer = []) :
    s.keyPress = s := by
  unfold State.keyPress
  cases state : s.entry.state with
  | collecting => exact absurd state notCollecting
  | enrollFirst => exact if_pos (List.isEmpty_iff.2 (nothing.resolve_left fun other => other.1 state))
  | enrollConfirm => exact if_pos (List.isEmpty_iff.2 (nothing.resolve_left fun other => other.2 state))
  | disabled | idle | verifying | penalty | replugWait => rfl

theorem State.keyPress_keepsFirst (first : s.entry.state = .enrollFirst) (typed : s.entry.buffer ≠ []) :
    s.keyPress = s.firstEntryEnds := by
  rw [State.keyPress, first]
  exact if_neg (by simpa using typed)

theorem State.keyPress_confirms (confirm : s.entry.state = .enrollConfirm) (typed : s.entry.buffer ≠ []) :
    s.keyPress = s.confirmEnds := by
  rw [State.keyPress, confirm]
  exact if_neg (by simpa using typed)

section Confirm

variable {first : List Digit} {g : EnrollTarget} (kept : s.entry.first = some first) (target : s.entry.target = some g)

include kept target

theorem State.confirmEnds_commits (passes : s.enrollCheck first s.entry.buffer = none) :
    s.confirmEnds = s.commit g s.entry.buffer := by
  unfold State.confirmEnds
  rw [kept, target]
  dsimp only
  rw [passes]

theorem State.confirmEnds_abandons {r : AbandonReason} (fails : s.enrollCheck first s.entry.buffer = some r) :
    s.confirmEnds = s.abandonAny r := by
  unfold State.confirmEnds
  rw [kept, target]
  dsimp only
  rw [fails]

end Confirm

/-- An entry matches an ACTIVE slot where one accepts it (R90). -/
theorem State.isSome_matchingSlot (digits : List Digit) : (s.matchingSlot digits).isSome = true ↔
    ∃ k, s.isActive k = true ∧ (s.cred k).matches digits = true := by
  simp [State.matchingSlot, List.find?_isSome]

/-- The checks on two entries take each reason in order (R103). -/
theorem State.enrollCheck_eq_some {first second : List Digit} {r : AbandonReason}
    (fails : ((first.length < s.store.image.policy.minPin ∨ second.length < s.store.image.policy.minPin) ∧ r = .short) ∨
      (¬ (first.length < s.store.image.policy.minPin ∨ second.length < s.store.image.policy.minPin) ∧
        first ≠ second ∧ r = .mismatch) ∨
      (¬ (first.length < s.store.image.policy.minPin ∨ second.length < s.store.image.policy.minPin) ∧
        first = second ∧ (∃ k, s.isActive k = true ∧ (s.cred k).matches second = true) ∧ r = .pinInUse)) :
    s.enrollCheck first second = some r := by
  simp only [State.enrollCheck, Bool.or_eq_true, decide_eq_true_eq, State.isSome_matchingSlot]
  rcases fails with ⟨short, rfl⟩ | ⟨long, differ, rfl⟩ | ⟨long, same, inUse, rfl⟩
  · exact if_pos short
  · rw [if_neg long, if_pos differ]
  · rw [if_neg long, if_neg (not_not.2 same), if_pos inUse]

theorem State.enrollCheck_eq_none {first second : List Digit}
    (long : ¬ (first.length < s.store.image.policy.minPin ∨ second.length < s.store.image.policy.minPin))
    (same : first = second) (unused : ¬ ∃ k, s.isActive k = true ∧ (s.cred k).matches second = true) :
    s.enrollCheck first second = none := by
  simp only [State.enrollCheck, Bool.or_eq_true, decide_eq_true_eq, State.isSome_matchingSlot]
  rw [if_neg long, if_neg (not_not.2 same), if_neg unused]

/-- A commit draws a salt, and its credential record is requested (R104, R125). -/
theorem State.commit_eq (g : EnrollTarget) (pin : List Digit) : s.commit g pin = { s with
    draws := s.draws + 1,
    entry := { s.entry with
      state := .verifying, buffer := [], first := none, commitPending := true, commitRemoved := false,
      interKeyTimer := none, window := none },
    store := { s.store with
      image := { s.store.image with creds := s.store.image.creds.set g.slot (s.committedRecord g pin) },
      pendingSet := joinPending s.store.pendingSet ⟨.credential g.slot (s.committedRecord g pin), [.commit]⟩ } } := by
  have requested := s.setCred_requestWrite g.slot (s.committedRecord g pin) [.commit]
  exact congrArg (fun m : State => m.drawn.withEntry { s.entry with
    state := .verifying, buffer := [], first := none, commitPending := true, commitRemoved := false,
    interKeyTimer := none, window := none }) requested

/-- The disabling conditions on an entry that is not being typed (R126, R127). -/
theorem State.reevaluate_resting (rests : s.entry.state = .idle ∨ s.entry.state = .disabled) :
    ∃ c, s.reevaluate = s.withEntry { s.entry with state := c } ∧
      (s.entry.state = .idle → c = if s.entryDisabled then .disabled else .idle) := by
  unfold State.reevaluate
  by_cases cut : s.entryDisabled = true
  · rw [if_pos cut]
    rcases rests with idle | disabled
    · rw [if_neg (by simp [idle]), State.enterDisabled, idle]
      exact ⟨.disabled, rfl, fun _ => (if_pos cut).symm⟩
    · rw [if_pos disabled]
      exact ⟨s.entry.state, rfl, fun idle => absurd (idle.symm.trans disabled) (by decide)⟩
  · rw [if_neg cut]
    rcases rests with idle | disabled
    · rw [if_neg (by simp [idle])]
      exact ⟨s.entry.state, rfl, fun _ => idle.trans (if_neg cut).symm⟩
    · rw [if_pos disabled]
      exact ⟨_, rfl, fun idle => absurd (idle.symm.trans disabled) (by decide)⟩

end KeyPress

/-! ## The commit's write -/

/-- An entry that goes to IDLE does so unless a disabling condition holds (R121, R126). -/
theorem State.idles_spec (t : State) : ∃ c, (t.entryGoes .idle).reevaluate = t.withEntry { t.entry with state := c } ∧
    (t.entry.state ≠ .disabled → c = if t.entryDisabled then .disabled else .idle) := by
  rw [State.entryGoes_eq]
  obtain ⟨c, settled, state⟩ := State.reevaluate_resting (s := t.withEntry { t.entry with
    state := if t.entry.state = .disabled then .disabled else .idle })
      (ite_eq_or_eq (t.entry.state = .disabled) EntryCtl.disabled .idle).symm
  exact ⟨c, settled, fun enabled => state (if_neg enabled)⟩

section Commit

variable {s : State} {g : EnrollTarget} (pending : s.entry.commitPending = true) (target : s.entry.target = some g)

include pending target

/-- The commit's write ends an enrollment whose slot was removed since (R107). -/
theorem State.commitWritten_removed (removed : s.entry.commitRemoved = true) :
    ∃ c, s.commitWritten = { s with
        entry := { s.entry with state := c, commitPending := false, commitRemoved := false, target := none },
        leds := s.showFail.leds, events := s.events.place (.enrollFailed g.slot .removed) } ∧
      (s.entry.state ≠ .disabled → c = if s.entryDisabled then .disabled else .idle) := by
  rw [State.commitWritten, pending, target]
  dsimp only
  rw [if_pos removed, if_pos removed]
  exact State.idles_spec _

/-- The commit's write ends an enrollment, and its slot is ACTIVE (R104, R125). -/
theorem State.commitWritten_committed (stands : s.entry.commitRemoved = false) :
    ∃ c, s.commitWritten = { s with
        enrolling := none,
        entry := { s.entry with state := c, commitPending := false, commitRemoved := false, target := none },
        leds := s.showOk.leds, events := s.events.place (.enrollDone g.slot) } ∧
      (s.entry.state ≠ .disabled → c = if (s.withEnrolling none).entryDisabled then .disabled else .idle) := by
  rw [State.commitWritten, pending, target]
  dsimp only
  rw [if_neg (ne_true_of_eq_false stands), if_neg (ne_true_of_eq_false stands)]
  exact State.idles_spec _

end Commit

/-! ## Releases end entries -/

/-- A charge raises F, and requests the attempt record (R89, R99). -/
theorem State.charge_eq (s : State) : s.charge = { s with
    attempt := { s.attempt with
      failed := s.attempt.failed + 1, phase := .charging,
      brute := if s.store.image.policy.attemptLimit ≤ s.attempt.failed + 1 then .pending else s.attempt.brute },
    store := { s.store with
      image := { s.store.image with attempt := ⟨s.attempt.failed + 1, 0⟩ },
      pendingSet := joinPending s.store.pendingSet ⟨.attempt ⟨s.attempt.failed + 1, 0⟩, [.charge]⟩ } } := rfl

/-- The scanner with a key up and none held, and lockout as the keys leave it (R112, R113). -/
def Scanner.letGo (k : Scanner) (p : PadKey) : Scanner :=
  { k with
    down := k.down.set (padIndex p) false, run := k.run.set (padIndex p) 0, held := none, holdTimer := none,
    lockout := if ∀ i : Fin 12, (k.down.set (padIndex p) false)[i] = false then false else k.lockout }

/-- What leaves the scanner as it stands leaves lockout to the keys (R113). -/
theorem State.clearLockout_letGo {s m : State} {p : PadKey} (same : m.scanner = (s.letGo p).scanner) :
    m.clearLockout = m.withScanner (s.scanner.letGo p) := by
  rw [State.clearLockout_eq, same]
  rfl

/-- An abandoned enrollment leaves the entry at rest (R105). -/
theorem State.abandon_eq (s : State) (k : SlotNo) (r : AbandonReason) : s.abandon k r = { s with
    enrolling := none,
    entry := { s.entry with
      state := if s.entryDisabled then .disabled else .idle, buffer := [], first := none, target := none,
      interKeyTimer := none, window := none },
    leds := s.showFail.leds,
    events := s.events.place (.enrollFailed k r) } := rfl

section Early

variable {s : State} (powered : s.power.vbus = true) (down : s.scanner.isDown .key = true)
  (held : s.scanner.held = some .key) (early : s.scanner.holdTimer.isSome = true)

include powered down held early

/-- A KEY press that leaves the scanner acts on the entry beside it. -/
theorem exec_release_press {m : State} (press : (s.letGo .key).keyPress = m)
    (same : m.scanner = (s.letGo .key).scanner) :
    exec (.recognisedRelease .key) s = .next (m.withScanner (s.scanner.letGo .key)).refreshLeds := by
  rw [exec_release_key powered down held early, press, State.clearLockout_letGo same]

end Early

/-- Settles O51. -/
theorem keyReleaseEndsEntry : Obligations.KeyReleaseEndsEntry := by
  refine ⟨fun n m pin hn hm other => ?_, fun s p powered down => ⟨fun held nothing => ?_, fun unheld => ?_⟩,
    fun s powered down held early => ⟨fun collecting => ⟨fun long => ?_, fun short => ?_⟩, fun notCollecting nothing => ?_,
      fun first typed => ?_, fun first g confirm typed kept target uncommitted => ⟨fun r fails => ?_,
        fun long same unused => ?_⟩⟩, fun s c g powered running pending target => ?_⟩
  · have salts := freshSalt_injective hn hm other
    exact ⟨salts, verifierOf_ne salts pin⟩
  · rw [exec_release_held powered down held nothing, State.clearLockout_letGo rfl]
    rfl
  · rw [exec_release_unheld powered down unheld, State.clearLockout_eq]
    rfl
  · rw [exec_release_press powered down held early (State.keyPress_charges (s := s.letGo .key) collecting long) rfl,
      State.charge_eq]
    rfl
  · exact exec_release_press powered down held early (State.keyPress_discards (s := s.letGo .key) collecting short) rfl
  · rw [exec_release_press powered down held early (State.keyPress_ignored (s := s.letGo .key) notCollecting nothing) rfl]
    rfl
  · exact exec_release_press powered down held early (State.keyPress_keepsFirst (s := s.letGo .key) first typed) rfl
  · have check : (s.letGo .key).enrollCheck first s.entry.buffer = some r := State.enrollCheck_eq_some (by
      rcases fails with short | mismatch | ⟨long, same, inUse, rfl⟩
      · exact .inl short
      · exact .inr (.inl mismatch)
      · exact .inr (.inr ⟨long, same, inUse, rfl⟩))
    have press : (s.letGo .key).keyPress = (s.letGo .key).abandon g.slot r := by
      rw [State.keyPress_confirms (s := s.letGo .key) confirm typed,
        State.confirmEnds_abandons (s := s.letGo .key) kept target check,
        State.abandonAny_uncommitted (s := s.letGo .key) target uncommitted]
    rw [exec_release_press powered down held early press rfl, State.abandon_eq]
    exact ⟨_, rfl, rfl, rfl, rfl, rfl, rfl, rfl, rfl, rfl⟩
  · have check : (s.letGo .key).enrollCheck first s.entry.buffer = none :=
      State.enrollCheck_eq_none long same unused
    have press : (s.letGo .key).keyPress = (s.letGo .key).commit g first := by
      rw [State.keyPress_confirms (s := s.letGo .key) confirm typed,
        State.confirmEnds_commits (s := s.letGo .key) kept target check, same]
      rfl
    rw [exec_release_press powered down held early press rfl, State.commit_eq]
    rfl
  · refine ⟨_, _, exec_writeCompletion_one powered running, State.leads_finish _, ?_⟩
    by_cases removed : s.entry.commitRemoved = true
    · obtain ⟨c, written, state⟩ := State.commitWritten_removed (s := s.written c) pending target removed
      rw [show (s.written _).answer .commit = _ from written]
      exact ⟨rfl, rfl, rfl, rfl, state, fun stands => absurd (removed.symm.trans stands) (by decide),
        fun _ => ⟨rfl, rfl, rfl⟩⟩
    · have stands := eq_false_of_ne_true removed
      obtain ⟨c, written, state⟩ := State.commitWritten_committed (s := s.written c) pending target stands
      rw [show (s.written _).answer .commit = _ from written]
      exact ⟨rfl, rfl, rfl, rfl, state, fun _ => ⟨rfl, rfl, rfl⟩, fun gone => absurd gone removed⟩

end Sys2Proof.Machine
end

section
/-! Presses of keys, LOCK with its closes, long presses and the switch (R102, R112 to R115, R120, R123, R128, R133, R141, R142,
R147). -/

namespace Sys2Proof.Machine

/-! ## Key activity -/

/-- The first press of a standby period signals resume where remote wake is enabled (R128). -/
def Port.activity (p : Port) : Port :=
  if p.standby = true ∧ p.pressSeen = false then { p with pressSeen := true, resumeSignalled := p.remoteWake } else p

/-- A press restarts the rest timer beside (R133). -/
theorem State.keyActivity_eq (s : State) : s.keyActivity =
    { s with port := s.port.activity, leds := { s.leds with restTimer := some 30 } } := by
  unfold State.keyActivity Port.activity
  by_cases first : s.port.standby = true ∧ s.port.pressSeen = false
  · rw [if_pos first, if_pos (by simp [first])]
    rfl
  · rw [if_neg first, if_neg (by simpa using first)]
    rfl

/-! ## Presses -/

/-- The part with the levels of some keys changed to DOWN. -/
def State.keysDown (s : State) (ps : List PadKey) : State := s.withScanner (ps.foldl Scanner.pressed s.scanner)

theorem exec_recognisedPress {s : State} (powered : s.power.vbus = true) {ps : List PadKey}
    (up : ∀ p ∈ ps, s.scanner.isDown p = false) :
    exec (.recognisedPress ps) s = .next ((s.keysDown ps).takePresses ps).finish := by
  show execRecognisedPress ps s = _
  have fresh : (ps.filter fun p => !s.scanner.isDown p) = ps := List.filter_eq_self.2 (by simpa using up)
  rw [execRecognisedPress, State.act_powered _ powered]
  dsimp only
  rw [fresh]
  rfl

/-- Presses leave the held key and lockout to what takes them. -/
theorem foldl_pressed (ps : List PadKey) (k : Scanner) :
    (ps.foldl Scanner.pressed k).held = k.held ∧ (ps.foldl Scanner.pressed k).lockout = k.lockout := by
  induction ps generalizing k with
  | nil => exact ⟨rfl, rfl⟩
  | cons p ps ih => exact ih (k.pressed p)

section Presses

variable {s : State}

/-- A press with no key held and lockout clear makes its key the held one (R112). -/
theorem State.takePresses_single (held : s.scanner.held = none) (clear : s.scanner.lockout = false) (p : PadKey) :
    s.takePresses [p] = s.keyActivity.holdKey p := if_pos (by simp [held, clear])

/-- With a key held or in lockout, presses are key activity alone (R112, R113). -/
theorem State.takePresses_ignored (busy : s.scanner.held ≠ none ∨ s.scanner.lockout = true) {ps : List PadKey}
    (some_ : ps ≠ []) : s.takePresses ps = s.keyActivity := by
  have cond : ¬ (decide (s.scanner.held = none) && !s.scanner.lockout) = true := by
    rcases busy with held | lockout
    · simp [held]
    · simp [lockout]
  match ps with
  | [] => exact absurd rfl some_
  | [p] => exact if_neg cond
  | _ :: _ :: _ => exact if_neg cond

/-- Two or more presses in one sample set lockout (R113). -/
theorem State.takePresses_several (held : s.scanner.held = none) (clear : s.scanner.lockout = false) {ps : List PadKey}
    (several : 2 ≤ ps.length) :
    s.takePresses ps = s.keyActivity.withScanner { s.keyActivity.scanner with lockout := true } := by
  match ps with
  | [] | [_] => simp at several
  | _ :: _ :: _ => exact if_pos (by simp [held, clear])

end Presses

/-! ## LOCK -/

/-- `m` is `s` but for what keys change beside closes: the scanner, the port, the enrollment, the entry, the indicators and the
Event Queue. -/
def State.keypadOnly (s m : State) : Prop :=
  ∃ scanner port enrolling entry leds events, m = { s with
    scanner := scanner, port := port, enrolling := enrolling, entry := entry, leds := leds, events := events }

section KeypadOnly

variable {s e m : State}

theorem State.keypadOnly.noneClaimed (only : s.keypadOnly e) (unclaimed : s.noneClaimed) : e.noneClaimed := by
  obtain ⟨_, _, _, _, _, _, rfl⟩ := only
  exact unclaimed

theorem State.keypadOnly.closes (only : s.keypadOnly e) {u : UnitNo} (closes : e.closes m u) : s.closes m u := by
  obtain ⟨_, _, _, _, _, _, rfl⟩ := only
  exact ⟨closes.either, closes.outstanding, closes.drained⟩

theorem State.keypadOnly.unitRun (only : s.keypadOnly e) (u : UnitNo) : e.unitRun u = s.unitRun u := by
  obtain ⟨_, _, _, _, _, _, rfl⟩ := only
  rfl

theorem State.keypadOnly.eventsAfterCloses (only : s.keypadOnly e) (c : CloseCause) (us : List UnitNo) (q : EventQueue) :
    e.eventsAfterCloses c us q = s.eventsAfterCloses c us q := by
  obtain ⟨_, _, _, _, _, _, rfl⟩ := only
  rfl

theorem State.keypadOnly.store (only : s.keypadOnly e) : e.store = s.store := by
  obtain ⟨_, _, _, _, _, _, rfl⟩ := only
  rfl

end KeypadOnly

/-- What closes leave has every close of its own, whatever the blocks beside hold. -/
theorem State.closes.congr {s m n : State} {u : UnitNo} (closes : s.closes m u) (units : n.units = m.units)
    (cipher : n.cipher = m.cipher) : s.closes n u := by
  have run : n.unitRun u = m.unitRun u := congrArg (·[u]) units
  refine ⟨?_, fun busy => ?_, fun none free => ?_⟩
  · rw [run, cipher]
    exact closes.either
  · rw [State.unitState, run]
    exact closes.outstanding busy
  · rw [State.unitState, run]
    exact closes.drained none free

/-- The state of the entry in which LOCK abandons an enrollment (R120). -/
def Entry.lockAbandons (e : Entry) : Prop :=
  (e.state = .enrollFirst ∨ e.state = .enrollConfirm) ∧ e.commitPending = false

section LockEntry

variable {s : State}

theorem State.lockEntry_collecting (collecting : s.entry.state = .collecting) :
    s.lockEntry = s.withEntry { s.entry with state := .idle, buffer := [], interKeyTimer := none } := by
  rw [State.lockEntry, collecting]
  rfl

theorem State.lockEntry_abandons {g : EnrollTarget} (abandons : s.entry.lockAbandons)
    (target : s.entry.target = some g) : s.lockEntry = s.abandon g.slot .lock := by
  obtain ⟨first | confirm, uncommitted⟩ := abandons
  · rw [State.lockEntry, first]
    exact State.abandonAny_uncommitted target uncommitted .lock
  · rw [State.lockEntry, confirm]
    exact State.abandonAny_uncommitted target uncommitted .lock

theorem State.lockEntry_other (typing : s.entry.state ≠ .collecting)
    (kept : s.entry.target = none ∨ ¬ s.entry.lockAbandons) : s.lockEntry = s := by
  have nothing (enrolls : s.entry.state = .enrollFirst ∨ s.entry.state = .enrollConfirm) :
      s.abandonAny .lock = s := by
    rcases kept with free | kept
    · simp [State.abandonAny, State.uncommitted, free]
    · have committed : s.entry.commitPending = true := by
        by_contra uncommitted
        exact kept ⟨enrolls, eq_false_of_ne_true uncommitted⟩
      simp [State.abandonAny, State.uncommitted, committed]
  unfold State.lockEntry
  cases state : s.entry.state with
  | collecting => exact absurd state typing
  | enrollFirst => exact nothing (.inl state)
  | enrollConfirm => exact nothing (.inr state)
  | disabled | idle | verifying | penalty | replugWait => rfl

/-- LOCK leaves the Event Queue to the closes unless it abandons an enrollment. -/
theorem State.lockEntry_events (kept : s.entry.target = none ∨ ¬ s.entry.lockAbandons) :
    s.lockEntry.events = s.events := by
  by_cases collecting : s.entry.state = .collecting
  · rw [State.lockEntry_collecting collecting]
    rfl
  · rw [State.lockEntry_other collecting kept]

theorem State.lockEntry_keypadOnly (s : State) : s.keypadOnly s.lockEntry := by
  by_cases collecting : s.entry.state = .collecting
  · rw [State.lockEntry_collecting collecting]
    exact ⟨_, _, _, _, _, _, rfl⟩
  · by_cases abandons : s.entry.lockAbandons
    · cases target : s.entry.target with
      | none =>
        rw [State.lockEntry_other collecting (.inl target)]
        exact ⟨_, _, _, _, _, _, rfl⟩
      | some g =>
        rw [State.lockEntry_abandons abandons target]
        exact ⟨_, _, _, _, _, _, rfl⟩
    · rw [State.lockEntry_other collecting (.inr abandons)]
      exact ⟨_, _, _, _, _, _, rfl⟩

/-- An entry with no target stays so. -/
theorem State.lockEntry_free (free : s.entry.target = none) : s.lockEntry.entry.target = none := by
  by_cases collecting : s.entry.state = .collecting
  · rw [State.lockEntry_collecting collecting]
    exact free
  · rw [State.lockEntry_other collecting (.inl free)]
    exact free

end LockEntry

/-- With no enrollment under way the session closes alone (R152). -/
theorem State.closeSession_free {s : State} (free : s.entry.target = none) :
    s.closeSession.entry = s.entry ∧ s.closeSession.enrolling = s.enrolling ∧ s.closeSession.events = s.events := by
  by_cases opened : s.control.session = true
  · rw [State.closeSession_alone opened free]
    exact ⟨rfl, rfl, rfl⟩
  · rw [State.closeSession, if_neg opened]
    exact ⟨rfl, rfl, rfl⟩

/-- What a LOCK press leaves, where `e` is what it leaves of the entry before the closes (R120, R147). -/
structure State.lockPressed (s e m : State) : Prop where
  closes : ∀ u, s.unitState u = .opened → s.closes m u
  closed : ∀ u, m.unitState u ≠ .opened
  others : ∀ u, s.unitState u ≠ .opened → m.unitRun u = s.unitRun u
  session : m.control.session = false
  store : m.store = s.store
  free : e.entry.target = none → m.entry = e.entry ∧ m.enrolling = e.enrolling ∧
    m.events = s.eventsAfterCloses .lockKey (List.finRange 8) e.events
  events : (s.eventsAfterCloses .lockKey (List.finRange 8) e.events).keeps m.events

/-- Every unit is closed by a cause that reaches all (R141, R142). -/
theorem State.closeAll_closed {s : State} (c : CloseCause) (unclaimed : s.noneClaimed) (u : UnitNo) :
    (s.closeAll c).unitState u ≠ .opened := by
  by_cases opened : s.unitState u = .opened
  · obtain ⟨closes, -⟩ := s.closeUnits_spec c (List.finRange 8) (List.nodup_finRange 8) unclaimed
    rcases (closes u (List.mem_finRange u) opened).either with ⟨run, -⟩ | ⟨run, -⟩
    · exact fun still => by cases (congrArg UnitRun.state run).symm.trans still
    · exact fun still => by cases (congrArg UnitRun.state run).symm.trans still
  · rwa [State.unitState, State.closeAll, s.closeUnits_unitRun c _ unclaimed opened]

/-- The closes and the session's close that follow what LOCK makes of the entry. -/
theorem State.keypadOnly.lockPressed {s e : State} (only : s.keypadOnly e) (unclaimed : s.noneClaimed) :
    s.lockPressed e (e.closeAll .lockKey).closeSession := by
  have unclaimed := only.noneClaimed unclaimed
  have closed := State.closeAll_closed .lockKey unclaimed
  obtain ⟨closes, events, -, -, -⟩ := e.closeUnits_spec .lockKey (List.finRange 8) (List.nodup_finRange 8) unclaimed
  have others := fun u => e.closeUnits_unitRun .lockKey (List.finRange 8) (v := u) unclaimed
  obtain ⟨⟨_, _, _, _, _, _, closesOnly⟩, -, -⟩ := State.closeUnits_closesOnly .lockKey (List.finRange 8) unclaimed
  have entry := (State.keepsControls.closeUnits .lockKey (List.finRange 8) e).entry
  have store := congrArg State.store closesOnly
  have enrolling := congrArg State.enrolling closesOnly
  rw [only.eventsAfterCloses] at events
  rw [State.closeAll] at *
  generalize e.closeUnits .lockKey (List.finRange 8) = c at *
  obtain ⟨⟨_, _, _, _, _, _, frame⟩, session, event, noEvent⟩ := c.closeSession_closesSession
  have units : c.closeSession.units = c.units := (congrArg State.units frame).trans rfl
  have run (u : UnitNo) : c.closeSession.unitRun u = c.unitRun u := congrArg (·[u]) units
  refine ⟨fun u opened => ?_, fun u => ?_, fun u other => ?_, session, ?_, fun free => ?_, ?_⟩
  · exact only.closes ((closes u (List.mem_finRange u) (by rwa [State.unitState, only.unitRun])).congr units
      ((congrArg State.cipher frame).trans rfl))
  · rw [State.unitState, run]
    exact closed u
  · rw [run, ← only.unitRun]
    exact others u (by rwa [State.unitState, only.unitRun])
  · exact ((congrArg State.store frame).trans store).trans only.store
  · obtain ⟨entry', enrolling', placed⟩ := State.closeSession_free (s := c) (by rwa [entry])
    exact ⟨entry'.trans entry, enrolling'.trans enrolling, placed.trans events⟩
  · rw [← events]
    by_cases bound : ∃ g, c.abandonsWithSession g
    · obtain ⟨g, bound⟩ := bound
      rw [event g bound]
      exact .place _ _
    · rw [noEvent (not_exists.1 bound)]
      exact .refl _

/-- A part that fits and has no unit OPEN has an empty open order (R138). -/
theorem State.unitsFit.openOrder_nil {s : State} (fit : s.unitsFit) (closed : ∀ u, s.unitState u ≠ .opened) :
    s.control.openOrder = [] :=
  List.eq_nil_iff_forall_not_mem.2 fun u listed => closed u ((fit.units u).order.1 listed)

/-- The part with a single key down and held, before the key is delivered (R112, R114). -/
def State.holding (s : State) (p : PadKey) : State := { s with
  scanner := { s.scanner.pressed p with held := some p, holdTimer := if p = .key then some 3 else none }
  port := s.port.activity, leds := { s.leds with restTimer := some 30 } }

section Single

variable {s : State} {p : PadKey} (powered : s.power.vbus = true) (up : s.scanner.isDown p = false)
  (held : s.scanner.held = none) (clear : s.scanner.lockout = false)

include powered up held clear

theorem exec_press_single : exec (.recognisedPress [p]) s = .next
    (match p with
    | .digit d => (s.holding p).digitPress d
    | .lock => (s.holding p).lockPress
    | .key => s.holding p).finish := by
  rw [exec_recognisedPress powered (ps := [p]) (by simpa using up),
    State.takePresses_single (s := s.keysDown [p]) held clear, State.keyActivity_eq]
  cases p <;> rfl

end Single

section Several

variable {s : State} (powered : s.power.vbus = true) {ps : List PadKey} (up : ∀ p ∈ ps, s.scanner.isDown p = false)

include powered up

theorem exec_press_ignored (some_ : ps ≠ []) (busy : s.scanner.held ≠ none ∨ s.scanner.lockout = true) :
    exec (.recognisedPress ps) s = .next (State.finish { s with
      scanner := ps.foldl Scanner.pressed s.scanner, port := s.port.activity,
      leds := { s.leds with restTimer := some 30 } }) := by
  obtain ⟨held, lockout⟩ := foldl_pressed ps s.scanner
  have busy' : (s.keysDown ps).scanner.held ≠ none ∨ (s.keysDown ps).scanner.lockout = true :=
    busy.imp (fun busy => held ▸ busy) lockout.trans
  rw [exec_recognisedPress powered up, State.takePresses_ignored busy' some_, State.keyActivity_eq]
  rfl

theorem exec_press_several (several : 2 ≤ ps.length) (none_ : s.scanner.held = none)
    (clear : s.scanner.lockout = false) :
    exec (.recognisedPress ps) s = .next (State.finish { s with
      scanner := { ps.foldl Scanner.pressed s.scanner with lockout := true }, port := s.port.activity,
      leds := { s.leds with restTimer := some 30 } }) := by
  obtain ⟨held, lockout⟩ := foldl_pressed ps s.scanner
  rw [exec_recognisedPress powered up, State.takePresses_several (s := s.keysDown ps) (held.trans none_)
    (lockout.trans clear) several, State.keyActivity_eq]
  rfl

end Several

/-! ## Long presses -/

/-- The part with KEY held for 3 s (R114). -/
def State.heldLong (s : State) : State := s.withScanner { s.scanner with holdTimer := none }

section LongPress

variable {s : State}

theorem exec_holdTimerExpiry (powered : s.power.vbus = true) (runs : s.scanner.holdTimer.isSome = true)
    (held : s.scanner.held = some .key) : exec .holdTimerExpiry s =
      .next s.heldLong.longPress.refreshLeds := by
  show execHoldTimerExpiry s = _
  rw [execHoldTimerExpiry, State.act_powered _ powered, if_pos (by simp [runs, held])]
  rfl

theorem State.longPress_ignored (busy : s.entry.state ≠ .idle) : s.longPress = s := if_neg busy

theorem State.longPress_enrolls (idle : s.entry.state = .idle) {g : EnrollTarget} (target : s.longPressTarget = some g) :
    s.longPress = s.startEnrolling g := by
  rw [State.longPress, if_pos idle, target]

theorem State.longPress_fails (idle : s.entry.state = .idle) (target : s.longPressTarget = none) :
    s.longPress = s.showFail := by
  rw [State.longPress, if_pos idle, target]

/-- ADMIN's session with a unit that ADMIN opened (R102). -/
def State.adminOpen (s : State) : Prop :=
  s.control.session = true ∧ ∃ u, s.unitState u = .opened ∧ (s.unitRun u).opener = some (0 : SlotNo)

theorem State.adminOpen_iff : s.adminOpen ↔ (s.control.session && (List.finRange 8).any fun u =>
    decide (s.unitState u = .opened) && decide ((s.unitRun u).opener = some 0)) = true := by
  simp [State.adminOpen]

theorem State.longPressTarget_factory (factory : s.factory = true) : s.longPressTarget = some ⟨0, none, false⟩ :=
  if_pos factory

section Provisioned

variable (provisioned : s.factory = false)

include provisioned

theorem State.longPressTarget_admin (admin : s.adminOpen) : s.longPressTarget = some ⟨0, none, true⟩ := by
  rw [State.longPressTarget, if_neg (ne_true_of_eq_false provisioned), if_pos (State.adminOpen_iff.1 admin)]

variable (user : ¬ s.adminOpen)

include user

/-- With no unit OPEN, a long press selects no slot (R102). -/
theorem State.longPressTarget_closed (closed : s.control.openOrder = []) : s.longPressTarget = none := by
  rw [State.longPressTarget, if_neg (ne_true_of_eq_false provisioned), if_neg (mt State.adminOpen_iff.2 user), closed]
  rfl

/-- Without ADMIN's session, a long press selects the opener of the unit opened last, an ACTIVE USER slot (R102). -/
theorem State.longPressTarget_last {before : List UnitNo} {u : UnitNo} {k : SlotNo}
    (order : s.control.openOrder = before ++ [u]) (opener : (s.unitRun u).opener = some k) : s.longPressTarget =
      if k ≠ 0 ∧ k ≠ 5 ∧ s.isActive k = true then some { slot := k, uses := none, sessionBound := false } else none := by
  rw [State.longPressTarget, if_neg (ne_true_of_eq_false provisioned), if_neg (mt State.adminOpen_iff.2 user), order,
    List.getLast?_concat, Option.bind_some, opener]
  simp [and_assoc]

end Provisioned

end LongPress

/-! ## The obligation -/

/-- A LOCK press acts on the part with LOCK held. -/
theorem State.holding_keypadOnly (s : State) (p : PadKey) : s.keypadOnly (s.holding p) := ⟨_, _, _, _, _, _, rfl⟩

theorem State.keypadOnly.trans {s e m : State} (a : s.keypadOnly e) (b : e.keypadOnly m) : s.keypadOnly m := by
  obtain ⟨_, _, _, _, _, _, rfl⟩ := a
  obtain ⟨_, _, _, _, _, _, rfl⟩ := b
  exact ⟨_, _, _, _, _, _, rfl⟩

theorem State.holding_lockPressed {s : State} (unclaimed : s.noneClaimed) :
    s.lockPressed (s.holding .lock).lockEntry (s.holding .lock).lockPress :=
  ((s.holding_keypadOnly .lock).trans (s.holding .lock).lockEntry_keypadOnly).lockPressed unclaimed

/-- Parts alike in the outer blocks hold the same keys and resume requests. -/
theorem State.keys_of_outer {s t : State} (same : t.outer = s.outer) : t.port.pressSeen = s.port.pressSeen ∧
    t.port.resumeSignalled = s.port.resumeSignalled ∧ t.scanner = s.scanner :=
  ⟨congrArg Outer.pressSeen same, congrArg Outer.resumeSignalled same, congrArg Outer.scanner same⟩

theorem State.lockPress_outer (s : State) : s.lockPress.outer = s.outer := outer_of_acts State.Acts.refl.lockPress

theorem State.holding_unitsFit {s : State} (fit : s.unitsFit) (p : PadKey) : (s.holding p).unitsFit :=
  unitsFit_of_moves (o := False) fit (.other .refl rfl rfl rfl rfl)

/-- LOCK in an enrollment that it abandons leaves the entry at rest (R105, R120). -/
theorem State.abandon_rest (s : State) (k : SlotNo) (r : AbandonReason) : (s.abandon k r).enrolling = none ∧
    (s.abandon k r).entry.target = none ∧
    (s.abandon k r).entry.state = (if s.entryDisabled then .disabled else .idle) ∧
    (s.abandon k r).events = s.events.place (.enrollFailed k r) := by
  rw [State.abandon_eq]
  exact ⟨rfl, rfl, rfl, rfl⟩

section LockPress

variable {s : State} (powered : s.power.vbus = true) (fit : s.unitsFit) (up : s.scanner.isDown .lock = false)
  (held : s.scanner.held = none) (clear : s.scanner.lockout = false)

include powered up held clear

theorem exec_press_lock : exec (.recognisedPress [.lock]) s = .next (s.holding .lock).lockPress.finish :=
  exec_press_single powered up held clear

end LockPress

/-- Settles O55. -/
theorem keysActByState : Obligations.KeysActByState := by
  intro s powered
  refine ⟨fun fit up held clear => ?_, fun up held clear => exec_press_single (p := .key) powered up held clear,
    fun ps some_ _ up => ⟨exec_press_ignored powered up some_, exec_press_several powered up⟩,
    fun runs held => ⟨fun busy => ?_, fun idle => ⟨fun factory => ?_, fun provisioned admin => ?_,
      fun provisioned user before u k order opener => ⟨fun notAdmin notDuress active => ?_, fun unfit => ?_⟩,
      fun provisioned user closed => ?_⟩⟩, fun on sampled other => ?_⟩
  · obtain ⟨closes, closed, others, session, store, free, events⟩ :=
      State.holding_lockPressed fun u opened => fit.not_claimed opened
    have fits := unitsFit_of_moves (State.holding_unitsFit fit .lock) (State.Moves.refl (o := False)).lockPress
    have leads := (s.holding .lock).lockPress.leads_finish
    obtain ⟨pressSeen, resume, -⟩ := State.keys_of_outer (s.holding .lock).lockPress_outer
    obtain ⟨-, -, scanner⟩ := State.keys_of_outer (leads.outer.trans (s.holding .lock).lockPress_outer)
    have opens := leads.opensNothing
    refine ⟨_, _, exec_press_lock powered up held clear, leads, ?_⟩
    have kept := State.lockEntry_events (s := s.holding .lock)
    have typing := State.lockEntry_collecting (s := s.holding .lock)
    have abandons := fun g => State.lockEntry_abandons (s := s.holding .lock) (g := g)
    have unaffected := State.lockEntry_free (s := s.holding .lock)
    generalize (s.holding .lock).lockPress = m at *
    generalize m.finish = x at *
    generalize (s.holding .lock).lockEntry = e at *
    refine ⟨pressSeen, resume, fun u opened => closed u (opens.1 u opened), ?_, fits.openOrder_nil closed, closes,
      fun none_ => ?_, fun g target abandoned => ?_, fun kept_ => ?_, scanner, store, others,
      fun collecting none_ => ?_, fun g enrolls target uncommitted => ?_⟩
    · exact eq_false_of_ne_true fun still => Bool.noConfusion (session.symm.trans (opens.2 still))
    · rw [(free (unaffected none_)).2.2, kept (.inl none_)]
      rfl
    · obtain ⟨_, target', _, placed⟩ := State.abandon_rest (s.holding .lock) g.slot .lock
      rw [← abandons g abandoned target] at target' placed
      rw [(free target').2.2, placed]
      rfl
    · rw [kept (.inr kept_)] at events
      exact events
    · rw [(free (unaffected none_)).1, typing collecting]
      rfl
    · obtain ⟨enrolling, target', state, _⟩ := State.abandon_rest (s.holding .lock) g.slot .lock
      rw [← abandons g ⟨enrolls, uncommitted⟩ target] at enrolling target' state
      obtain ⟨entry, enrolling', _⟩ := free target'
      rw [entry, enrolling', enrolling]
      by_cases cut : s.entryDisabled = true
      · exact .inr cut
      · exact .inl ⟨rfl, target', state.trans (if_neg cut)⟩
  · rw [exec_holdTimerExpiry powered runs held, State.longPress_ignored (s := s.heldLong) busy]
    rfl
  · rw [exec_holdTimerExpiry powered runs held, State.longPress_enrolls (s := s.heldLong) idle
      (State.longPressTarget_factory (s := s.heldLong) factory)]
    rfl
  · rw [exec_holdTimerExpiry powered runs held, State.longPress_enrolls (s := s.heldLong) idle
      (State.longPressTarget_admin (s := s.heldLong) provisioned admin)]
    rfl
  · have target := State.longPressTarget_last (s := s.heldLong) provisioned user order opener
    rw [if_pos ⟨notAdmin, notDuress, active⟩] at target
    rw [exec_holdTimerExpiry powered runs held, State.longPress_enrolls (s := s.heldLong) idle target]
    rfl
  · have target := State.longPressTarget_last (s := s.heldLong) provisioned user order opener
    have none_ : ¬ (k ≠ 0 ∧ k ≠ 5 ∧ s.isActive k = true) := by
      rintro ⟨notAdmin, notDuress, active⟩
      rcases unfit with admin | duress | inactive
      · exact notAdmin admin
      · exact notDuress duress
      · exact Bool.noConfusion (active.symm.trans inactive)
    rw [exec_holdTimerExpiry powered runs held, State.longPress_fails (s := s.heldLong) idle (target.trans (if_neg none_))]
    rfl
  · rw [exec_holdTimerExpiry powered runs held, State.longPress_fails (s := s.heldLong) idle
      (State.longPressTarget_closed (s := s.heldLong) provisioned user closed)]
    rfl
  · show execRecognisedSwitchChange on s = _
    rw [execRecognisedSwitchChange, State.act_powered _ powered, if_pos (by simpa [sampled] using other)]
    rfl

end Sys2Proof.Machine
end

section
/-! Requests of an internal erase: what preempting, claiming and draining one unit after another leave of the targets, the units
and the engine (R142, R144, R171, R174, R175, R177). -/

namespace Sys2Proof.Machine

/-! ## Targets that move on -/

/-- What stays of a target while it moves on among PENDING, CLAIMING and MARKING: its unit, and whether it is DONE or REPLACING
(R175). -/
def Target.key (t : Target) : UnitNo × Bool × Bool := (t.unit, decide (t.stage = .done), decide (t.stage = .replacing))

/-- The stages before a target's marker is written. -/
def TargetStage.early (g : TargetStage) : Prop := g ≠ .done ∧ g ≠ .replacing

theorem TargetStage.early.pending : TargetStage.early .pending := ⟨nofun, nofun⟩
theorem TargetStage.early.claiming : TargetStage.early .claiming := ⟨nofun, nofun⟩
theorem TargetStage.early.marking : TargetStage.early .marking := ⟨nofun, nofun⟩

theorem advanceTarget_keys (u : UnitNo) {a b : TargetStage} (ha : a.early) (hb : b.early) (ts : List Target) :
    (advanceTarget u a b ts).map Target.key = ts.map Target.key := by
  induction ts with
  | nil => rfl
  | cons t ts ih =>
    unfold advanceTarget
    split
    · next own =>
      simp only [Bool.and_eq_true, decide_eq_true_eq] at own
      have key : ({ t with stage := b } : Target).key = t.key := by
        simp [Target.key, own.2, ha.1, ha.2, hb.1, hb.2]
      rw [List.map_cons, List.map_cons, key]
    · rw [List.map_cons, List.map_cons, ih]

theorem advanceTarget_any_ne {u v : UnitNo} (other : v ≠ u) (a b g : TargetStage) (ts : List Target) :
    ((advanceTarget u a b ts).any fun t => decide (t.unit = v) && decide (t.stage = g)) =
      ts.any fun t => decide (t.unit = v) && decide (t.stage = g) := by
  induction ts with
  | nil => rfl
  | cons t ts ih =>
    unfold advanceTarget
    split
    · next own =>
      simp only [Bool.and_eq_true, decide_eq_true_eq] at own
      simp [own.1, other.symm]
    · rw [List.any_cons, List.any_cons, ih]

/-- The internal erase in progress goes on: its requesters stay, and what stays of its targets. -/
def State.targetsGoOn (s m : State) : Prop := ∀ i, s.erase.internal = some i →
  ∃ j, m.erase.internal = some j ∧ j.requesters = i.requesters ∧ j.targets.map Target.key = i.targets.map Target.key

theorem State.targetsGoOn.of_eq {s m : State} (same : m.erase.internal = s.erase.internal) : s.targetsGoOn m :=
  fun i record => ⟨i, same.trans record, rfl, rfl⟩

theorem State.targetsGoOn.trans {r s m : State} (a : r.targetsGoOn s) (b : s.targetsGoOn m) : r.targetsGoOn m := by
  intro i record
  obtain ⟨j, record, requesters, targets⟩ := a i record
  obtain ⟨k, record, requesters', targets'⟩ := b j record
  exact ⟨k, record, requesters'.trans requesters, targets'.trans targets⟩

theorem State.hasTarget_congr {s m : State} (same : m.erase.internal = s.erase.internal) (u : UnitNo) (g : TargetStage) :
    m.hasTarget u g = s.hasTarget u g := by rw [State.hasTarget, State.hasTarget, same]

/-! ## Work on one unit -/

/-- `m` is `s` but for what claims and halts change: the command path, units, the open order, the Cipher Unit, the indicators, the
Erase Engine, unit records with the pending set, and later events. -/
def State.claimsOnly (s m : State) : Prop :=
  ∃ port queue units order cipher leds erase records pendingSet events, s.events.keeps events ∧ m = { s with
    port := port, queue := queue, units := units, control := { s.control with openOrder := order }, cipher := cipher,
    leds := leds, erase := erase,
    store := { s.store with image := { s.store.image with units := records }, pendingSet := pendingSet }, events := events }

theorem State.claimsOnly.refl (s : State) : s.claimsOnly s := ⟨_, _, _, _, _, _, _, _, _, _, .refl _, rfl⟩

theorem State.claimsOnly.trans {r s m : State} (a : r.claimsOnly s) (b : s.claimsOnly m) : r.claimsOnly m := by
  obtain ⟨_, _, _, _, _, _, _, _, _, _, keeps, rfl⟩ := a
  obtain ⟨_, _, _, _, _, _, _, _, _, _, later, rfl⟩ := b
  exact ⟨_, _, _, _, _, _, _, _, _, _, keeps.trans later, rfl⟩

/-- No stop request is left that could act at once, and a RUNNING engine has one (R172, R175). -/
def State.stopped (s : State) : Prop :=
  (s.erase.state = .running → s.erase.stop ≠ .none) ∧
    (s.erase.stop ≠ .none → s.erase.stage ≠ .waiting ∧ ¬ (s.erase.stage = .working ∧ s.erase.segment = .presented))

/-- `m` is what work on a unit's claim makes of `s`: other units, their records and their targets stay, and the targets move on. -/
structure State.worksOn (u : UnitNo) (s m : State) : Prop where
  frame : s.claimsOnly m
  secure : ∀ v, m.isSecure v = s.isSecure v
  targets : s.targetsGoOn m
  others : ∀ v, v ≠ u → m.unitRun v = s.unitRun v ∧ m.unitDef v = s.unitDef v ∧ ∀ g, m.hasTarget v g = s.hasTarget v g
  stopped : s.stopped → m.stopped

namespace State.worksOn

variable {r s m : State} {u : UnitNo}

theorem refl (s : State) : State.worksOn u s s :=
  ⟨.refl s, fun _ => rfl, .of_eq rfl, fun _ _ => ⟨rfl, rfl, fun _ => rfl⟩, id⟩

theorem trans (a : State.worksOn u r s) (b : State.worksOn u s m) : State.worksOn u r m := by
  refine ⟨a.frame.trans b.frame, fun v => (b.secure v).trans (a.secure v), a.targets.trans b.targets, fun v other => ?_,
    b.stopped ∘ a.stopped⟩
  obtain ⟨run, record, target⟩ := a.others v other
  obtain ⟨run', record', target'⟩ := b.others v other
  exact ⟨run'.trans run, record'.trans record, fun g => (target' g).trans (target g)⟩

/-- What leaves the engine and the unit records alone. -/
theorem ofUnits (frame : s.claimsOnly m) (erase : m.erase = s.erase) (records : m.store.image.units = s.store.image.units)
    (others : ∀ v, v ≠ u → m.unitRun v = s.unitRun v) : State.worksOn u s m := by
  have record (v : UnitNo) : m.unitDef v = s.unitDef v := by rw [State.unitDef, records]; rfl
  refine ⟨frame, fun v => by rw [State.isSecure, State.isSecure, record], .of_eq (by rw [erase]),
    fun v other => ⟨others v other, record v, State.hasTarget_congr (by rw [erase]) v⟩, fun stopped => ?_⟩
  rw [State.stopped, erase]
  exact stopped

/-- What changes of the engine neither its targets nor what a stop request needs. -/
theorem withErase (s : State) {e : EraseEngine} (internal : e.internal = s.erase.internal)
    (stopped : s.stopped → (s.withErase e).stopped) : State.worksOn u s (s.withErase e) :=
  ⟨⟨_, _, _, _, _, _, _, _, _, _, .refl _, rfl⟩, fun _ => rfl, .of_eq internal,
    fun v _ => ⟨rfl, rfl, State.hasTarget_congr (s := s) (m := s.withErase e) internal v⟩, stopped⟩

theorem place (s : State) (e : Event) : State.worksOn u s (s.place e) :=
  .ofUnits ⟨_, _, _, _, _, _, _, _, _, _, .place _ _, rfl⟩ rfl rfl fun _ _ => rfl

theorem refreshLeds (s : State) : State.worksOn u s s.refreshLeds :=
  .ofUnits ⟨_, _, _, _, _, _, _, _, _, _, .refl _, rfl⟩ rfl rfl fun _ _ => rfl

theorem requestWrite (s : State) (id : RecordId) (ws : List Waiter) : State.worksOn u s (s.requestWrite id ws) :=
  .ofUnits ⟨_, _, _, _, _, _, _, _, _, _, .refl _, rfl⟩ rfl rfl fun _ _ => rfl

theorem setUnit (s : State) (u : UnitNo) (x : UnitRun) : State.worksOn u s (s.setUnit u x) :=
  .ofUnits ⟨_, _, _, _, _, _, _, _, _, _, .refl _, rfl⟩ rfl rfl fun v other => s.unitRun_setUnit_ne u v other

theorem setMarker (s : State) (u : UnitNo) (w : Option EraseWork) : State.worksOn u s (s.setMarker u w) := by
  refine ⟨⟨_, _, _, _, _, _, _, _, _, _, .refl _, rfl⟩, fun v => ?_, .of_eq rfl,
    fun v other => ⟨rfl, by rw [State.setMarker_unitDef, if_neg other], fun _ => rfl⟩, id⟩
  rw [State.isSecure, State.isSecure, State.setMarker_unitDef]
  by_cases own : v = u
  · subst own
    rw [if_pos rfl]
    cases s.unitDef v <;> rfl
  · rw [if_neg own]

theorem moveTarget (s : State) (u : UnitNo) {a b : TargetStage} (ha : a.early) (hb : b.early) :
    State.worksOn u s (s.moveTarget u a b) := by
  cases record : s.erase.internal with
  | none =>
    rw [State.moveTarget, record]
    exact .refl s
  | some i =>
    rw [State.moveTarget, record]
    refine ⟨⟨_, _, _, _, _, _, _, _, _, _, .refl _, rfl⟩, fun _ => rfl, fun k same => ?_,
      fun v other => ⟨rfl, rfl, fun g => ?_⟩, id⟩
    · obtain rfl := Option.some.inj (record.symm.trans same)
      exact ⟨_, rfl, rfl, advanceTarget_keys u ha hb _⟩
    · have after : State.hasTarget (s.withErase { s.erase with
          internal := some { i with targets := advanceTarget u a b i.targets } }) v g =
            (advanceTarget u a b i.targets).any fun t => decide (t.unit = v) && decide (t.stage = g) := rfl
      have before : s.hasTarget v g = i.targets.any fun t => decide (t.unit = v) && decide (t.stage = g) := by
        rw [State.hasTarget, record]
      exact after.trans ((advanceTarget_any_ne other a b g i.targets).trans before.symm)

theorem markTarget (s : State) (u : UnitNo) {g : TargetStage} (early : g.early) : State.worksOn u s (s.markTarget u g) :=
  ((State.worksOn.moveTarget s u early .marking).trans (.setMarker _ u _)).trans (.requestWrite _ _ _)

/-! ## Halts -/

theorem releaseUnit (s : State) (u : UnitNo) : State.worksOn u s (s.releaseUnit u) := by
  have unlocked : State.worksOn u s (s.unlockErasing u) := .setUnit s u _
  unfold State.releaseUnit
  split
  · dsimp only
    split
    · exact ((unlocked.trans (.setMarker _ u _)).trans (.requestWrite _ _ _)).trans (.refreshLeds _)
    · exact unlocked.trans (.refreshLeds _)
  · exact .refl s

theorem giveUp (s : State) (u : UnitNo) : State.worksOn u s (s.giveUp u) := by
  unfold State.giveUp
  split
  · exact .markTarget s u .claiming
  · split
    · exact .markTarget s u .pending
    · exact .releaseUnit s u

/-- An engine that halts holds no unit of its list any more. -/
theorem halted (s : State) (e : Event) : State.worksOn u s ((s.withErase { s.erase with
    state := .halted, stage := .none, kept := none, segment := .none, progress := 0 }).place e) :=
  (State.worksOn.withErase s (e := { s.erase with
    state := .halted, stage := .none, kept := none, segment := .none, progress := 0 }) rfl
    fun _ => ⟨(fun h => nomatch h), fun _ => ⟨(fun h => nomatch h), (fun h => nomatch h.1)⟩⟩).trans (.place _ e)

theorem enterHalted (s : State) {held : Option UnitNo} (own : ∀ v, held = some v → v = u) (o : Outcome) :
    State.worksOn u s (s.enterHalted held o) := by
  cases held with
  | none => exact .halted s _
  | some v =>
    obtain rfl := own v rfl
    exact (State.worksOn.giveUp s v).trans (.halted _ _)

theorem setCurrent (s : State) (f : Descriptor → Descriptor) : State.worksOn u s (s.setCurrent f) :=
  .withErase s (e := { s.erase with list := s.erase.list.set s.erase.current (s.currentDescriptor.map f) }) rfl id

theorem haltDescriptor (s : State) (own : ∀ v, s.heldUnit = some v → v = u) (o : Outcome) :
    State.worksOn u s (s.haltDescriptor o) := by
  unfold State.haltDescriptor
  split
  · exact .enterHalted s own o
  · exact (State.worksOn.setCurrent s _).trans (.enterHalted _ own o)

/-! ## The drained signal -/

theorem endClose (s : State) (u : UnitNo) : State.worksOn u s (s.endClose u) := by
  unfold State.endClose
  split
  · exact (State.worksOn.setUnit s u _).trans
      (.ofUnits ⟨_, _, _, _, _, _, _, _, _, _, .refl _, rfl⟩ rfl rfl fun _ _ => rfl)
  · exact .refl s

theorem descriptorDrained {s : State} {d : Descriptor} (held : s.heldUnit = some d.unit) :
    State.worksOn d.unit s (s.descriptorDrained d) := by
  unfold State.descriptorDrained
  split
  · exact .haltDescriptor s (fun v own => Option.some.inj (own.symm.trans held)) _
  · have marking : State.worksOn d.unit s (s.withErase { s.erase with stage := .marking }) :=
      .withErase s rfl fun stopped => ⟨stopped.1, fun _ => ⟨(fun h => nomatch h), (fun h => nomatch h.1)⟩⟩
    exact (marking.trans (.setMarker _ _ _)).trans (.requestWrite _ _ _)

/-- The descriptor in CLAIMING holds its unit. -/
theorem heldUnit_claiming {s : State} {d : Descriptor} (claiming : s.erase.stage = .claiming)
    (current : s.currentDescriptor = some d) : s.heldUnit = some d.unit := by
  simp [State.heldUnit, State.claimedUnit, claiming, current]

theorem claimDrained (s : State) (u : UnitNo) : State.worksOn u s (s.claimDrained u) := by
  have target : State.worksOn u s (if s.hasTarget u .claiming then s.markTarget u .claiming else s) := by
    split
    · exact .markTarget s u .claiming
    · exact .refl s
  unfold State.claimDrained
  split
  · split
    · next d current =>
      split
      · next own =>
        simp only [Bool.and_eq_true, decide_eq_true_eq] at own
        obtain ⟨claiming, rfl⟩ := own
        exact .descriptorDrained (heldUnit_claiming claiming current)
      · exact target
    · exact target
  · exact .refl s

theorem drainNow (s : State) (u : UnitNo) : State.worksOn u s (s.drainNow u) := by
  unfold State.drainNow
  split
  · exact (State.worksOn.endClose s u).trans (.claimDrained _ u)
  · exact .refl s

/-! ## Closes and claims -/

theorem startClose (s : State) (u : UnitNo) (c : CloseCause) : State.worksOn u s (s.startClose u c) :=
  .ofUnits ⟨_, _, _, _, _, _, _, _, _, _, .place _ _, rfl⟩ rfl rfl fun v other => s.unitRun_setUnit_ne u v other

theorem endCommands (s : State) (u : UnitNo) (st : Status) : State.worksOn u s (s.endCommands u st) := by
  obtain ⟨_, ended⟩ := s.endCommands_port u st
  rw [ended]
  exact .ofUnits ⟨_, _, _, _, _, _, _, _, _, _, .refl _, rfl⟩ rfl rfl fun _ _ => rfl

theorem closeUnit (s : State) (c : CloseCause) (u : UnitNo) : State.worksOn u s (s.closeUnit c u) := by
  unfold State.closeUnit
  split
  · exact ((State.worksOn.startClose s u c).trans (.endCommands _ u _)).trans (.drainNow _ u)
  · exact .refl s

theorem claimUnit (s : State) (c : CloseCause) (u : UnitNo) : State.worksOn u s (s.claimUnit c u) := by
  unfold State.claimUnit
  split
  · exact .refl s
  · dsimp only
    split
    · exact (State.worksOn.setUnit s u _).trans (.closeUnit _ c u)
    · exact .setUnit s u _
    · exact (State.worksOn.setUnit s u _).trans (.drainNow _ u)
    · exact ((State.worksOn.setUnit s u _).trans (.endCommands _ u _)).trans (.drainNow _ u)
    · exact .drainNow s u

/-- A PENDING target of a SECURE unit is claimed (R175). -/
theorem claimTarget (s : State) {u : UnitNo} (secure : s.hasTarget u .pending = true → s.isSecure u = true) :
    State.worksOn u s (s.claimTarget u) := by
  unfold State.claimTarget
  split
  · next pending =>
    simp only [Bool.and_eq_true] at pending
    rw [if_pos (secure pending.1)]
    exact (State.worksOn.moveTarget s u .pending .claiming).trans (.claimUnit _ _ u)
  · exact .refl s

end State.worksOn

end Sys2Proof.Machine
end

section
/-! What a request of an internal erase leaves: every unit that it targets claimed, and the record with its targets (R142, R144,
R174, R175, R177). -/

namespace Sys2Proof.Machine

/-! ## The unit of a claim -/

theorem advanceTarget_any_self {u : UnitNo} {a : TargetStage} (b : TargetStage) {ts : List Target}
    (stands : (ts.any fun t => decide (t.unit = u) && decide (t.stage = a)) = true) :
    ((advanceTarget u a b ts).any fun t => decide (t.unit = u) && decide (t.stage = b)) = true := by
  induction ts with
  | nil => exact absurd stands Bool.false_ne_true
  | cons t ts ih =>
    unfold advanceTarget
    split
    · next own =>
      simp only [Bool.and_eq_true, decide_eq_true_eq] at own
      simp [own.1]
    · next other =>
      rw [List.any_cons, Bool.or_eq_true] at stands ⊢
      exact .inr (ih (stands.resolve_left other))

/-- A target that moves on stands in its next stage. -/
theorem State.hasTarget_moveTarget {s : State} {u : UnitNo} {a : TargetStage} (b : TargetStage)
    (stands : s.hasTarget u a = true) : (s.moveTarget u a b).hasTarget u b = true := by
  cases record : s.erase.internal with
  | none => simp [State.hasTarget, record] at stands
  | some i =>
    rw [State.hasTarget, record] at stands
    rw [State.moveTarget, record]
    exact advanceTarget_any_self b stands

theorem State.markTarget_units (s : State) (u : UnitNo) (g : TargetStage) : (s.markTarget u g).units = s.units := by
  rw [State.markTarget, s.moveTarget_frame]
  rfl

/-- A unit that is handed over to its target keeps its fields (R176). -/
theorem State.giveUp_units {s : State} {u : UnitNo} (target : s.hasTarget u .claiming = true ∨ s.hasTarget u .pending = true) :
    (s.giveUp u).units = s.units := by
  unfold State.giveUp
  split
  · exact s.markTarget_units u _
  · next unclaimed =>
    rw [if_pos (target.resolve_left unclaimed)]
    exact s.markTarget_units u _

theorem State.enterHalted_units {s : State} {u : UnitNo}
    (target : s.hasTarget u .claiming = true ∨ s.hasTarget u .pending = true) (o : Outcome) :
    (s.enterHalted (some u) o).units = s.units := State.giveUp_units target

theorem State.haltDescriptor_units {s : State} {u : UnitNo} (held : s.heldUnit = some u)
    (target : s.hasTarget u .claiming = true ∨ s.hasTarget u .pending = true) (o : Outcome) :
    (s.haltDescriptor o).units = s.units := by
  unfold State.haltDescriptor
  rw [held]
  split
  · exact State.enterHalted_units target o
  · exact State.enterHalted_units (s := s.setCurrent _) target o

theorem State.claimDrained_units {s : State} {u : UnitNo} (target : s.hasTarget u .claiming = true) :
    (s.claimDrained u).units = s.units := by
  unfold State.claimDrained
  rw [if_pos target]
  split
  · split
    · next d current =>
      split
      · next own =>
        simp only [Bool.and_eq_true, decide_eq_true_eq] at own
        obtain ⟨claiming, rfl⟩ := own
        unfold State.descriptorDrained
        split
        · exact State.haltDescriptor_units (State.worksOn.heldUnit_claiming claiming current) (.inl target) _
        · rfl
      · exact s.markTarget_units u _
    · exact s.markTarget_units u _
  · rfl

/-- A unit is claimed and not yet LOCKED again: ERASING, or CLOSING with the claim to follow (R144). -/
def State.underClaim (s : State) (u : UnitNo) : Prop :=
  s.unitState u = .erasing ∨ (s.unitState u = .closing ∧ (s.unitRun u).claimPending = true)

/-- The close of a unit that is under claim ends with it ERASING (R71, R144). -/
theorem State.endClose_erasing {s : State} {u : UnitNo} (claim : s.underClaim u) : (s.endClose u).unitState u = .erasing := by
  rcases claim with erasing | ⟨closing, pending⟩
  · rw [State.endClose, if_neg (by simp [erasing])]
    exact erasing
  · rw [State.endClose, if_pos closing, pending]
    simp [State.unitState, State.unitRun, State.setKeySlot, State.setUnit]

theorem State.hasTarget_endClose (s : State) (u v : UnitNo) (g : TargetStage) :
    (s.endClose u).hasTarget v g = s.hasTarget v g := by
  unfold State.endClose
  split <;> rfl

/-- A unit under claim that may be drained is CLOSING or ERASING after. -/
theorem State.drainNow_claimed {s : State} {u : UnitNo} (claim : s.underClaim u) (target : s.hasTarget u .claiming = true) :
    (s.drainNow u).unitState u = .closing ∨ (s.drainNow u).unitState u = .erasing := by
  unfold State.drainNow
  split
  · have units : ((s.endClose u).claimDrained u).units = (s.endClose u).units :=
      State.claimDrained_units ((s.hasTarget_endClose u u _).trans target)
    refine .inr ?_
    rw [State.signalDrained, State.unitState, State.unitRun, units]
    exact State.endClose_erasing claim
  · exact claim.elim .inr fun closing => .inl closing.1

/-- A unit that the internal erase claims is CLOSING or ERASING (R144). -/
theorem State.claimUnit_claimed {s : State} {u : UnitNo} (secure : s.isSecure u = true)
    (target : s.hasTarget u .claiming = true) (c : CloseCause) :
    (s.claimUnit c u).unitState u = .closing ∨ (s.claimUnit c u).unitState u = .erasing := by
  unfold State.claimUnit
  cases defined : s.unitDef u with
  | none => simp [State.isSecure, defined] at secure
  | some d =>
    have kind : d.kind = .secure := by simpa [State.isSecure, defined] using secure
    dsimp only
    split
    · next _ opened =>
      have run : (s.setUnit u { s.unitRun u with claimPending := true }).unitRun u =
        { s.unitRun u with claimPending := true } := s.unitRun_setUnit u _
      generalize hm : s.setUnit u { s.unitRun u with claimPending := true } = m at run
      have open_ : m.unitState u = .opened := (congrArg UnitRun.state run).trans opened
      obtain ⟨_, ended⟩ := (m.startClose u c).endCommands_port u .locked
      have closing : ((m.startClose u c).endCommands u .locked).unitRun u =
          { m.unitRun u with state := .closing, idleTimer := none } := by
        rw [ended]
        exact m.startClose_unitRun u c
      rw [State.closeUnit, if_pos open_]
      refine State.drainNow_claimed (.inr ⟨congrArg UnitRun.state closing, ?_⟩) ?_
      · rw [closing, run]
      · rw [ended, ← hm]
        exact target
    · next _ closing =>
      left
      rw [State.unitState, State.unitRun_setUnit]
      exact closing
    · refine State.drainNow_claimed (.inl ?_) target
      rw [State.unitState, State.unitRun_setUnit]
    · next clear => exact absurd (kind.symm.trans clear) (by decide)
    · next _ erasing => exact State.drainNow_claimed (.inl erasing) target

/-- The claim of a PENDING target leaves its unit CLOSING or ERASING (R175). -/
theorem State.claimTarget_claimed {s : State} {u : UnitNo} (secure : s.isSecure u = true)
    (pending : s.hasTarget u .pending = true) (single : s.hasTarget u .replacing = false) :
    (s.claimTarget u).unitState u = .closing ∨ (s.claimTarget u).unitState u = .erasing := by
  rw [State.claimTarget, if_pos (by simp [pending, State.replacingTarget, single]), if_pos secure]
  refine State.claimUnit_claimed ?_ (State.hasTarget_moveTarget _ pending) _
  rw [(State.worksOn.moveTarget s u .pending .claiming).secure]
  exact secure

theorem State.claimTarget_none {s : State} {u : UnitNo} (none_ : s.hasTarget u .pending = false) : s.claimTarget u = s :=
  if_neg (by simp [none_])

/-! ## The claims of a request -/

/-- `m` is what the claims of the targets on some units make of `s`. -/
structure State.claimsAll (vs : List UnitNo) (s m : State) : Prop where
  frame : s.claimsOnly m
  secure : ∀ v, m.isSecure v = s.isSecure v
  targets : s.targetsGoOn m
  stopped : s.stopped → m.stopped
  others : ∀ v, v ∉ vs ∨ s.hasTarget v .pending = false → m.unitRun v = s.unitRun v ∧ m.unitDef v = s.unitDef v
  claimed : ∀ v ∈ vs, s.hasTarget v .pending = true → m.unitState v = .closing ∨ m.unitState v = .erasing

theorem State.claims_claimsAll (vs : List UnitNo) (once : vs.Nodup) (s : State) (ready : ∀ v ∈ vs,
    s.hasTarget v .pending = true → s.isSecure v = true ∧ s.hasTarget v .replacing = false) :
    State.claimsAll vs s (vs.foldl State.claimTarget s) := by
  induction vs generalizing s with
  | nil => exact ⟨.refl s, fun _ => rfl, .of_eq rfl, id, fun _ _ => ⟨rfl, rfl⟩, fun _ within => nomatch within⟩
  | cons u us ih =>
    obtain ⟨fresh, once⟩ := List.nodup_cons.1 once
    have ne {v : UnitNo} (later : v ∈ us) : v ≠ u := fun same => fresh (same ▸ later)
    have one := State.worksOn.claimTarget s fun pending => (ready u (by simp) pending).1
    have own := fun pending : s.hasTarget u .pending = true => State.claimTarget_claimed
      (ready u (by simp) pending).1 pending (ready u (by simp) pending).2
    have none_ := State.claimTarget_none (s := s) (u := u)
    rw [List.foldl_cons]
    generalize s.claimTarget u = t at *
    obtain ⟨frame, secure, targets, stopped, others, claimed⟩ := ih once t fun v later pending => by
      obtain ⟨-, -, target⟩ := one.others v (ne later)
      rw [target] at pending
      rw [one.secure, target]
      exact ready v (List.mem_cons_of_mem u later) pending
    refine ⟨one.frame.trans frame, fun v => (secure v).trans (one.secure v), one.targets.trans targets,
      stopped ∘ one.stopped, fun v untouched => ?_, fun v within pending => ?_⟩
    · by_cases same : v = u
      · subst same
        obtain rfl := none_ (untouched.resolve_left fun out => out (by simp))
        exact others v (.inl fresh)
      · obtain ⟨run, record, target⟩ := one.others v same
        obtain ⟨run', record'⟩ := others v (untouched.imp (fun out later => out (List.mem_cons_of_mem u later))
          fun none_ => (target _).trans none_)
        exact ⟨run'.trans run, record'.trans record⟩
    · rcases List.mem_cons.1 within with rfl | later
      · rw [State.unitState, (others v (.inl fresh)).1]
        exact own pending
      · exact claimed v later (((one.others v (ne later)).2.2 _).trans pending)

/-! ## Preempting -/

theorem State.preempt_stopped {s : State} (stopped : s.stopped) : s.preempt = s :=
  if_neg fun running => by
    simp only [Bool.and_eq_true, decide_eq_true_eq] at running
    exact stopped.1 running.1 running.2

theorem State.stopNow_stopped {s : State} (stopped : s.stopped) : s.stopNow = s := by
  unfold State.stopNow
  split
  · rfl
  · next o outcome =>
    have stop : s.erase.stop ≠ .none := fun none_ => by simp [none_, StopRequest.outcome] at outcome
    obtain ⟨waiting, presented⟩ := stopped.2 stop
    split
    · next stage => exact absurd stage waiting
    · next stage => exact if_neg fun segment => presented ⟨stage, segment⟩
    · rfl
    · rfl
    · rfl

/-- A halt leaves nothing on which a stop request could act. -/
theorem State.haltDescriptor_stopped (s : State) (o : Outcome) : (s.haltDescriptor o).stopped :=
  ⟨(fun h => nomatch h), fun _ => ⟨(fun h => nomatch h), (fun h => nomatch h.1)⟩⟩

theorem State.preempt_stopNow_stopped (s : State) : s.preempt.stopNow.stopped := by
  have running : s.preempt.erase.state = .running → s.preempt.erase.stop ≠ .none := by
    unfold State.preempt
    split
    · exact fun _ => nofun
    · next kept => exact fun running stop => kept (by simpa using ⟨running, stop⟩)
  unfold State.stopNow
  split
  · next outcome =>
    have stop : s.preempt.erase.stop = .none := by
      cases stop : s.preempt.erase.stop with
      | none => rfl
      | aborted | preempted => simp [stop, StopRequest.outcome] at outcome
    exact ⟨running, fun other => absurd stop other⟩
  · split
    · exact State.haltDescriptor_stopped _ _
    · split
      · exact State.haltDescriptor_stopped _ _
      · next stage kept => exact ⟨running, fun _ => ⟨by rw [stage]; decide, fun h => kept h.2⟩⟩
    all_goals
      next stage => exact ⟨running, fun _ => ⟨by rw [stage]; decide, fun h => by rw [stage] at h; exact nomatch h.1⟩⟩

end Sys2Proof.Machine
end

section
/-! A request of an internal erase as a whole: the targets that it forms or merges, and what it leaves until its last target is
DONE (R86, R174, R175, R177). -/

namespace Sys2Proof.Machine

/-! ## Preempting and claiming -/

theorem State.preempt_heldUnit (s : State) : s.preempt.heldUnit = s.heldUnit := by
  unfold State.preempt
  split <;> rfl

/-- Preempting acts on the unit that the engine holds for its list, if on any (R171, R172). -/
theorem State.preempt_stopNow_worksOn {s : State} {u : UnitNo} (own : ∀ v, s.heldUnit = some v → v = u) :
    State.worksOn u s s.preempt.stopNow := by
  have preempted : State.worksOn u s s.preempt := by
    unfold State.preempt
    split
    · next running =>
      simp only [Bool.and_eq_true, decide_eq_true_eq] at running
      exact .withErase s rfl fun stopped => absurd running.2 (stopped.1 running.1)
    · exact .refl s
  refine preempted.trans ?_
  rw [← s.preempt_heldUnit] at own
  unfold State.stopNow
  split
  · exact .refl _
  · split
    · exact .haltDescriptor _ own _
    · split
      · exact .haltDescriptor _ own _
      · exact .refl _
    · exact .refl _
    · exact .refl _
    · exact .refl _

/-- Preempting leaves every other unit alone. -/
theorem State.preempt_stopNow_others {s : State} {v : UnitNo} (free : s.heldUnit ≠ some v) :
    s.preempt.stopNow.unitRun v = s.unitRun v ∧ s.preempt.stopNow.unitDef v = s.unitDef v ∧
      ∀ g, s.preempt.stopNow.hasTarget v g = s.hasTarget v g := by
  have next : ∀ v : UnitNo, v ≠ v + 1 := by decide
  cases held : s.heldUnit with
  | none =>
    refine (State.preempt_stopNow_worksOn (u := v + 1) fun w own => ?_).others v (next v)
    exact nomatch own.symm.trans held
  | some u =>
    refine (State.preempt_stopNow_worksOn (u := u) fun w own => ?_).others v fun same => free (by rw [held, same])
    exact Option.some.inj (own.symm.trans held)

/-- A unit that is targeted is handed over as it is (R176). -/
theorem State.preempt_stopNow_target {s : State} {v : UnitNo} (target : s.hasTarget v .pending = true) :
    s.preempt.stopNow.unitRun v = s.unitRun v := by
  by_cases held : s.heldUnit = some v
  · rw [← s.preempt_heldUnit] at held
    have target : s.preempt.hasTarget v .pending = true := by
      unfold State.preempt
      split <;> exact target
    have units : s.preempt.units = s.units := by
      unfold State.preempt
      split <;> rfl
    have halted (o : Outcome) : (s.preempt.haltDescriptor o).unitRun v = s.unitRun v :=
      congrArg (·[v]) ((State.haltDescriptor_units held (.inr target) o).trans units)
    have kept : s.preempt.unitRun v = s.unitRun v := congrArg (·[v]) units
    unfold State.stopNow
    split
    · exact kept
    · split
      · exact halted _
      · split
        · exact halted _
        · exact kept
      all_goals exact kept
  · exact (State.preempt_stopNow_others held).1

/-- What a request makes of `s` before it may complete, where `i` is the record that it formed or merged. -/
structure State.requested (s m : State) (i : InternalErase) : Prop where
  frame : s.claimsOnly m
  secure : ∀ v, m.isSecure v = s.isSecure v
  record : ∃ j, m.erase.internal = some j ∧ j.requesters = i.requesters ∧
    j.targets.map Target.key = i.targets.map Target.key
  stopped : m.stopped
  claimed : ∀ v, ⟨v, .pending⟩ ∈ i.targets → m.unitState v = .closing ∨ m.unitState v = .erasing ∨
    (s.heldUnit = some v ∧ m.unitState v = s.unitState v)
  others : ∀ v, ⟨v, .pending⟩ ∉ i.targets → s.stopped ∨ s.heldUnit ≠ some v →
    m.unitRun v = s.unitRun v ∧ m.unitDef v = s.unitDef v

/-- What stays of a target tells whether it is DONE or REPLACING. -/
theorem mem_of_keys {ts xs : List Target} (keys : ts.map Target.key = xs.map Target.key) {t : Target} (within : t ∈ ts) :
    ∃ x ∈ xs, x.unit = t.unit ∧ (x.stage = .done ↔ t.stage = .done) ∧ (x.stage = .replacing ↔ t.stage = .replacing) := by
  have mem : t.key ∈ xs.map Target.key := keys ▸ List.mem_map_of_mem within
  obtain ⟨x, within, same⟩ := List.mem_map.1 mem
  obtain ⟨unit, done, replacing⟩ : x.unit = t.unit ∧ decide (x.stage = .done) = decide (t.stage = .done) ∧
      decide (x.stage = .replacing) = decide (t.stage = .replacing) := by simpa [Target.key] using same
  exact ⟨x, within, unit, decide_eq_decide.1 done, decide_eq_decide.1 replacing⟩

/-- The part with its internal erase's record. -/
def State.withInternal (s : State) (i : InternalErase) : State := s.withErase { s.erase with internal := some i }

/-- The part once a request has preempted and claimed. -/
def State.claiming (s : State) : State := (List.finRange 8).foldl State.claimTarget s.refreshLeds.preempt.stopNow

theorem State.claiming_requested {s : State} {i : InternalErase} (secure : ∀ t ∈ i.targets, s.isSecure t.unit = true)
    (single : ∀ t ∈ i.targets, t.stage ≠ .replacing) : s.requested (s.withInternal i).claiming i := by
  have pending (v : UnitNo) : (s.withInternal i).refreshLeds.hasTarget v .pending = true ↔ ⟨v, .pending⟩ ∈ i.targets :=
    State.hasTarget_iff rfl v _
  have entered : s.claimsOnly (s.withInternal i).refreshLeds := ⟨_, _, _, _, _, _, _, _, _, _, .refl _, rfl⟩
  have stops : s.stopped → (s.withInternal i).refreshLeds.stopped := id
  have held : (s.withInternal i).refreshLeds.heldUnit = s.heldUnit := rfl
  have run (v : UnitNo) : (s.withInternal i).refreshLeds.unitRun v = s.unitRun v := rfl
  have record (v : UnitNo) : (s.withInternal i).refreshLeds.unitDef v = s.unitDef v := rfl
  have kind (v : UnitNo) : (s.withInternal i).refreshLeds.isSecure v = s.isSecure v := rfl
  have internal : (s.withInternal i).refreshLeds.erase.internal = some i := rfl
  rw [State.claiming]
  generalize (s.withInternal i).refreshLeds = y at *
  have halts := State.preempt_stopNow_worksOn (s := y) (u := y.heldUnit.getD 0) fun v own => by rw [own]; rfl
  have freed := fun v => State.preempt_stopNow_others (s := y) (v := v)
  have handed := fun v => State.preempt_stopNow_target (s := y) (v := v)
  have quiet := y.preempt_stopNow_stopped
  have kept : y.stopped → y.preempt.stopNow = y := fun stopped => by
    rw [State.preempt_stopped stopped, State.stopNow_stopped stopped]
  generalize y.preempt.stopNow = z at *
  obtain ⟨k, internal', requesters, keys⟩ := halts.targets i internal
  have claims := State.claims_claimsAll (List.finRange 8) (List.nodup_finRange 8) z fun v _ target => by
    obtain ⟨x, within, unit, -⟩ := mem_of_keys keys ((State.hasTarget_iff internal' v .pending).1 target)
    refine ⟨?_, eq_false_of_ne_true fun replacing => ?_⟩
    · rw [halts.secure, kind]
      exact (congrArg s.isSecure unit).symm.trans (secure x within)
    · obtain ⟨x, within, -, -, stage⟩ := mem_of_keys keys ((State.hasTarget_iff internal' v .replacing).1 replacing)
      exact single x within (stage.2 rfl)
  generalize (List.finRange 8).foldl State.claimTarget z = m at *
  obtain ⟨j, internal'', requesters', keys'⟩ := claims.targets k internal'
  have untouched (v : UnitNo) (none_ : z.hasTarget v .pending = false) := claims.others v (.inr none_)
  refine ⟨(entered.trans halts.frame).trans claims.frame, fun v => (claims.secure v).trans ((halts.secure v).trans (kind v)),
    ⟨j, internal'', requesters'.trans requesters, keys'.trans keys⟩, claims.stopped quiet, fun v target => ?_,
    fun v none_ free => ?_⟩
  · by_cases still : z.hasTarget v .pending = true
    · exact (claims.claimed v (List.mem_finRange v) still).imp_right .inl
    · have owned : s.heldUnit = some v := by
        by_contra free
        exact still (((freed v (held ▸ free)).2.2 _).trans ((pending v).2 target))
      refine .inr (.inr ⟨owned, congrArg UnitRun.state ?_⟩)
      exact (untouched v (eq_false_of_ne_true still)).1.trans ((handed v ((pending v).2 target)).trans (run v))
  · have none_ := eq_false_of_ne_true (mt (pending v).1 none_)
    have before : z.unitRun v = y.unitRun v ∧ z.unitDef v = y.unitDef v ∧ ∀ g, z.hasTarget v g = y.hasTarget v g := by
      rcases free with stopped | free
      · rw [kept (stops stopped)]
        exact ⟨rfl, rfl, fun _ => rfl⟩
      · exact freed v (held ▸ free)
    obtain ⟨run', record', target⟩ := before
    obtain ⟨run'', record''⟩ := untouched v ((target _).trans none_)
    exact ⟨run''.trans (run'.trans (run v)), record''.trans (record'.trans (record v))⟩

/-! ## The targets of a request -/

theorem State.requestInternal_eq (s : State) (r : Requester) (us : List UnitNo) :
    s.requestInternal r us = (s.addTargets r (s.secureAmong us)).claiming.completeInternal := rfl

/-- The targets of units that are all PENDING. -/
def pendingTargets (us : List UnitNo) : List Target := us.map fun u => ⟨u, .pending⟩

theorem standsOpen_iff {ts : List Target} (single : ∀ t ∈ ts, t.stage ≠ .replacing) (u : UnitNo) :
    standsOpen ts u = true ↔ ∃ t ∈ ts, t.unit = u ∧ t.stage ≠ .done := by
  simp only [standsOpen, List.any_eq_true, Bool.and_eq_true, Bool.or_eq_true, decide_eq_true_eq]
  refine exists_congr fun t => and_congr_right fun within => and_congr_right fun _ => ?_
  have := single t within
  cases stage : t.stage <;> simp_all

/-- Units that are not targets yet become PENDING ones, in their order (R174). -/
theorem foldl_addTarget_fresh (us : List UnitNo) (once : us.Nodup) (ts : List Target) (fresh : ∀ t ∈ ts, t.unit ∉ us) :
    us.foldl addTarget ts = ts ++ pendingTargets us := by
  induction us generalizing ts with
  | nil => simp [pendingTargets]
  | cons u us ih =>
    obtain ⟨out, once⟩ := List.nodup_cons.1 once
    have other : ∀ t ∈ ts, t.unit ≠ u := fun t within same => fresh t within (by simp [same])
    have added : addTarget ts u = ts ++ [⟨u, .pending⟩] := by
      have closed : ¬ standsOpen ts u = true := by
        simp only [standsOpen, List.any_eq_true, Bool.and_eq_true, decide_eq_true_eq]
        exact fun ⟨t, within, same, _⟩ => other t within same
      rw [addTarget, if_neg closed, List.filter_eq_self.2 fun t within => by simp [other t within]]
    rw [List.foldl_cons, added, ih once]
    · simp [pendingTargets]
    · intro t within
      rcases List.mem_append.1 within with old | new
      · exact fun later => fresh t old (List.mem_cons_of_mem u later)
      · rwa [List.mem_singleton.1 new]

/-- A merge keeps the targets that are not DONE, adds PENDING ones of its units, and holds no others (R177). -/
theorem mem_foldl_addTarget (us : List UnitNo) (ts : List Target) :
    (∀ t ∈ us.foldl addTarget ts, t ∈ ts ∨ (t.stage = .pending ∧ t.unit ∈ us)) ∧
      ∀ t ∈ ts, t.stage ≠ .done → t ∈ us.foldl addTarget ts := by
  induction us generalizing ts with
  | nil => exact ⟨fun t within => .inl within, fun t within _ => within⟩
  | cons u us ih =>
    obtain ⟨only, keeps⟩ := ih (addTarget ts u)
    rw [List.foldl_cons]
    refine ⟨fun t within => ?_, fun t within live => keeps t ?_ live⟩
    · rcases only t within with old | ⟨pending, later⟩
      · unfold addTarget at old
        split at old
        · exact .inl old
        · rcases List.mem_append.1 old with old | new
          · exact .inl (List.mem_filter.1 old).1
          · obtain rfl := List.mem_singleton.1 new
            exact .inr ⟨rfl, by simp⟩
      · exact .inr ⟨pending, List.mem_cons_of_mem u later⟩
    · unfold addTarget
      split
      · exact within
      · exact List.mem_append_left _ (List.mem_filter.2 ⟨within, by simp [live]⟩)

/-- The units of a merge: those of the targets that stay, in their order, and behind them the units that are added (R177). -/
theorem foldl_addTarget_units (us : List UnitNo) (once : us.Nodup) (ts : List Target)
    (single : ∀ t ∈ ts, t.stage ≠ .replacing)
    (apart : ∀ t ∈ ts, ∀ x ∈ ts, t.stage = .done → x.stage ≠ .done → t.unit ≠ x.unit) :
    (us.foldl addTarget ts).map Target.unit =
      (ts.filter fun t => decide (t.stage = .done → t.unit ∉ us)).map Target.unit ++
        us.filter fun u => !standsOpen ts u := by
  induction us generalizing ts with
  | nil => simp
  | cons u us ih =>
    obtain ⟨out, once⟩ := List.nodup_cons.1 once
    rw [List.foldl_cons]
    by_cases stands : standsOpen ts u = true
    · obtain ⟨x, within, unit, live⟩ := (standsOpen_iff single u).1 stands
      have kept : (ts.filter fun t => decide (t.stage = .done → t.unit ∉ us)) =
          ts.filter fun t => decide (t.stage = .done → t.unit ∉ u :: us) := by
        refine List.filter_congr fun t mem => decide_eq_decide.2 ?_
        refine imp_congr_right fun done => ?_
        have other : t.unit ≠ u := unit ▸ apart t mem x within done live
        simp [other]
      rw [addTarget, if_pos stands, ih once ts single apart, kept, List.filter_cons_of_neg (by simp [stands])]
    · have closed : ∀ t ∈ ts, t.unit = u → t.stage = .done := fun t within own => by
        by_contra live
        exact stands ((standsOpen_iff single u).2 ⟨t, within, own, live⟩)
      let left := ts.filter fun t => !(decide (t.unit = u) && decide (t.stage = .done))
      have of_left {t : Target} (within : t ∈ left) : t ∈ ts ∧ t.unit ≠ u := by
        obtain ⟨within, other⟩ := List.mem_filter.1 within
        exact ⟨within, fun own => by simp [own, closed t within own] at other⟩
      have to_left {t : Target} (within : t ∈ ts) (other : t.unit ≠ u) : t ∈ left :=
        List.mem_filter.2 ⟨within, by simp [other]⟩
      have single' : ∀ t ∈ left ++ [⟨u, .pending⟩], t.stage ≠ .replacing := fun t within => by
        rcases List.mem_append.1 within with old | new
        · exact single t (of_left old).1
        · rw [List.mem_singleton.1 new]
          exact (fun h => nomatch h)
      have apart' : ∀ t ∈ left ++ [⟨u, .pending⟩], ∀ x ∈ left ++ [⟨u, .pending⟩], t.stage = .done → x.stage ≠ .done →
          t.unit ≠ x.unit := fun t ht x hx done live => by
        rcases List.mem_append.1 ht with old | new
        · rcases List.mem_append.1 hx with old' | new'
          · exact apart t (of_left old).1 x (of_left old').1 done live
          · rw [List.mem_singleton.1 new']
            exact (of_left old).2
        · rw [List.mem_singleton.1 new] at done
          exact nomatch done
      have opened (v : UnitNo) (later : v ∈ us) : standsOpen (left ++ [⟨u, .pending⟩]) v = standsOpen ts v := by
        have other : v ≠ u := fun same => out (same ▸ later)
        rw [Bool.eq_iff_iff, standsOpen_iff single', standsOpen_iff single]
        constructor
        · rintro ⟨t, within, rfl, live⟩
          rcases List.mem_append.1 within with old | new
          · exact ⟨t, (of_left old).1, rfl, live⟩
          · exact absurd (congrArg Target.unit (List.mem_singleton.1 new)) other
        · rintro ⟨t, within, rfl, live⟩
          exact ⟨t, List.mem_append_left _ (to_left within other), rfl, live⟩
      have stay : (left.filter fun t => decide (t.stage = .done → t.unit ∉ us)) =
          ts.filter fun t => decide (t.stage = .done → t.unit ∉ u :: us) := by
        rw [List.filter_filter]
        refine List.filter_congr fun t within => ?_
        by_cases own : t.unit = u
        · simp [own, closed t within own]
        · simp [own]
      rw [addTarget, if_neg stands, ih once _ single' apart', List.filter_append, stay,
        List.filter_congr fun v later => congrArg (!·) (opened v later),
        List.filter_cons_of_pos (p := fun v => !standsOpen ts v) (by simp [stands])]
      simp

/-! ## Skipped targets (R86) -/

theorem advanceTarget_map {us : List UnitNo} (once : us.Nodup) {g : UnitNo → TargetStage} {u : UnitNo} {a : TargetStage}
    (b : TargetStage) (stage : g u = a) : advanceTarget u a b (us.map fun v => ⟨v, g v⟩) =
      us.map fun v => ⟨v, if v = u then b else g v⟩ := by
  induction us with
  | nil => rfl
  | cons w us ih =>
    obtain ⟨out, once⟩ := List.nodup_cons.1 once
    rw [List.map_cons, List.map_cons, advanceTarget]
    by_cases own : w = u
    · subst own
      rw [if_pos (by simp [stage]), if_pos rfl]
      refine congrArg (_ :: ·) (List.map_congr_left fun v within => ?_)
      rw [if_neg fun same : v = w => out (same ▸ within)]
    · rw [if_neg (by simp [own]), if_neg own, ih once]

/-- Some units' targets skip to DONE. -/
theorem foldl_advanceTarget {us : List UnitNo} (once : us.Nodup) (ks : List UnitNo) (single : ks.Nodup)
    (g : UnitNo → TargetStage) (stage : ∀ u ∈ ks, g u = .pending) :
    ks.foldl (fun ts u => advanceTarget u .pending .done ts) (us.map fun v => ⟨v, g v⟩) =
      us.map fun v => ⟨v, if v ∈ ks then .done else g v⟩ := by
  induction ks generalizing g with
  | nil => simp
  | cons u ks ih =>
    obtain ⟨out, single⟩ := List.nodup_cons.1 single
    rw [List.foldl_cons, advanceTarget_map once .done (stage u (by simp)), ih single]
    · refine List.map_congr_left fun v _ => ?_
      by_cases own : v = u <;> simp [own]
    · intro v later
      rw [if_neg fun same : v = u => out (same ▸ later)]
      exact stage v (List.mem_cons_of_mem u later)

theorem State.foldl_moveTarget (s : State) (i : InternalErase) (ks : List UnitNo) (a b : TargetStage) :
    ks.foldl (fun s u => s.moveTarget u a b) (s.withInternal i) =
      s.withInternal { i with targets := ks.foldl (fun ts u => advanceTarget u a b ts) i.targets } := by
  induction ks generalizing i with
  | nil => rfl
  | cons u ks ih => exact ih { i with targets := advanceTarget u a b i.targets }

/-! ## The records of the requests of Attempt Control (R93, R99) -/

theorem State.secureAmong_secureUnits (s : State) : s.secureAmong s.secureUnits = s.secureUnits := by
  simp [State.secureAmong, State.secureUnits]

theorem State.mem_secureUnits {s : State} {u : UnitNo} : u ∈ s.secureUnits ↔ s.isSecure u = true := by
  simp [State.secureUnits]

theorem State.nodup_secureUnits (s : State) : s.secureUnits.Nodup := (List.nodup_finRange 8).filter _

/-- The brute-force erase skips no unit (R174). -/
theorem State.addTargets_brute (s : State) (us : List UnitNo) :
    s.addTargets .bruteForce us = s.withInternal (InternalErase.merge s.erase.internal .bruteForce us) := by
  have none_ : s.skippedAmong .bruteForce us = [] := List.filter_eq_nil_iff.2 fun u _ => by simp [State.skips]
  rw [State.addTargets, none_]
  rfl

/-- The record of a brute-force erase where no other runs. -/
theorem State.addTargets_brute_alone {s : State} (alone : s.erase.internal = none) (us : List UnitNo) (once : us.Nodup) :
    s.addTargets .bruteForce us = s.withInternal ⟨pendingTargets us, [.bruteForce]⟩ := by
  rw [State.addTargets_brute, alone, InternalErase.merge, foldl_addTarget_fresh us once [] (by simp)]
  rfl

/-- The targets of a DURESS match: its unusable units are DONE at once (R86, R93). -/
def State.duressTargets (s : State) (us : List UnitNo) : List Target :=
  us.map fun u => ⟨u, if (s.unitRun u).unusable then .done else .pending⟩

theorem State.addTargets_duress {s : State} (alone : s.erase.internal = none) (us : List UnitNo) (once : us.Nodup) :
    s.addTargets .duress us = s.withInternal ⟨s.duressTargets us, [.duress]⟩ := by
  have skipped : s.skippedAmong .duress us = us.filter fun u => (s.unitRun u).unusable := by
    simp [State.skippedAmong, State.skips, State.hasTarget, alone]
  rw [State.addTargets, skipped, alone, InternalErase.merge, foldl_addTarget_fresh us once [] (by simp)]
  have targets : (us.filter fun u => (s.unitRun u).unusable).foldl (fun ts u => advanceTarget u .pending .done ts)
      ([] ++ pendingTargets us) = s.duressTargets us := by
    refine (foldl_advanceTarget once _ (once.filter _) (fun _ => .pending) fun _ _ => rfl).trans ?_
    refine List.map_congr_left fun u within => ?_
    simp [within]
  refine (s.foldl_moveTarget ⟨[] ++ pendingTargets us, [.duress]⟩ _ _ _).trans ?_
  rw [targets]

end Sys2Proof.Machine
end

section
/-! The brute-force erase and the failure path of a verdict (R93 to R97, R99). -/

namespace Sys2Proof.Machine

/-! ## A request that leaves a target open -/

theorem units_of_keys {ts xs : List Target} (keys : ts.map Target.key = xs.map Target.key) :
    ts.map Target.unit = xs.map Target.unit := by
  have := congrArg (List.map Prod.fst) keys
  rwa [List.map_map, List.map_map] at this

/-- A request that leaves a target open stands until the last of them is DONE (R177). -/
theorem State.requestInternal_requested {s : State} {r : Requester} {us : List UnitNo} {i : InternalErase}
    (added : s.addTargets r (s.secureAmong us) = s.withInternal i) (secure : ∀ t ∈ i.targets, s.isSecure t.unit = true)
    (single : ∀ t ∈ i.targets, t.stage ≠ .replacing) (left : ∃ t ∈ i.targets, t.stage ≠ .done) :
    s.requested (s.requestInternal r us) i := by
  have requested := State.claiming_requested secure single
  rw [State.requestInternal_eq, added]
  generalize (s.withInternal i).claiming = m at *
  obtain ⟨j, record, _, keys⟩ := requested.record
  obtain ⟨x, within, live⟩ := left
  obtain ⟨t, within, _, done, _⟩ := mem_of_keys keys.symm within
  rwa [State.completeInternal_open record ⟨t, within, fun end_ => live (done.1 end_)⟩]

/-- A request all of whose targets are DONE completes at once (R177). -/
theorem State.requestInternal_completes {s : State} {r : Requester} {us : List UnitNo} {i : InternalErase}
    (added : s.addTargets r (s.secureAmong us) = s.withInternal i) (secure : ∀ t ∈ i.targets, s.isSecure t.unit = true)
    (done : ∀ t ∈ i.targets, t.stage = .done) : ∃ m, s.requested m i ∧ s.requestInternal r us =
      i.requesters.foldl State.report (m.withErase { m.erase with internal := none }).refreshLeds := by
  have requested := State.claiming_requested secure fun t within => by
    rw [done t within]
    exact (fun h => nomatch h)
  refine ⟨_, requested, ?_⟩
  rw [State.requestInternal_eq, added]
  generalize (s.withInternal i).claiming = m at *
  obtain ⟨j, record, requesters, keys⟩ := requested.record
  rw [State.completeInternal_eq record, requesters]
  intro t within
  obtain ⟨x, within, _, stage, _⟩ := mem_of_keys keys within
  exact stage.1 (done x within)

/-! ## The brute-force erase's request -/

theorem State.secureUnits_congr {s t : State} (secure : ∀ v, t.isSecure v = s.isSecure v) : t.secureUnits = s.secureUnits :=
  List.filter_congr fun v _ => secure v

theorem State.closeSession_keeps (s : State) : s.events.keeps s.closeSession.events := by
  obtain ⟨-, -, event, noEvent⟩ := s.closeSession_closesSession
  by_cases bound : ∃ g, s.abandonsWithSession g
  · obtain ⟨g, bound⟩ := bound
    rw [event g bound]
    exact .place _ _
  · rw [noEvent (not_exists.1 bound)]
    exact .refl _

theorem State.abandonAny_buffer {s : State} (empty : s.entry.buffer = []) (r : AbandonReason) :
    (s.abandonAny r).entry.buffer = [] := by
  unfold State.abandonAny
  split
  · rfl
  · exact empty

theorem State.closeSession_buffer {s : State} (empty : s.entry.buffer = []) : s.closeSession.entry.buffer = [] := by
  unfold State.closeSession
  split
  · dsimp only
    split
    · exact State.abandonAny_buffer (s := s.withControl { s.control with session := false, sessionTimer := none }) empty _
    · exact empty
  · exact empty

/-- The part with the erase stage started and the session closed, before its request (R99). -/
def State.bruteReady (s : State) : State :=
  (((s.withAttempt { s.attempt with phase := .bruteForce, brute := .erasing }).place .bruteEraseStart).closeSession).entryGoes
    .verifying

/-- What stands when the brute-force erase makes its request. -/
structure State.bruteReadies (s t : State) : Prop where
  frame : ∃ session timer enrolling entry leds events, t = { s with
    attempt := { s.attempt with phase := .bruteForce, brute := .erasing },
    control := { s.control with session := session, sessionTimer := timer }, enrolling := enrolling, entry := entry,
    leds := leds, events := events }
  session : t.control.session = false
  events : (s.events.place .bruteEraseStart).keeps t.events
  buffer : s.entry.buffer = [] → t.entry.buffer = []

theorem State.bruteReady_bruteReadies (s : State) : s.bruteReadies s.bruteReady := by
  let t := (s.withAttempt { s.attempt with phase := .bruteForce, brute := .erasing }).place .bruteEraseStart
  have keeps := t.closeSession_keeps
  have buffer := State.closeSession_buffer (s := t)
  obtain ⟨⟨_, _, _, _, _, _, frame⟩, session, -, -⟩ := t.closeSession_closesSession
  have ready : s.bruteReady = t.closeSession.entryGoes .verifying := rfl
  rw [ready, State.entryGoes_eq]
  refine ⟨?_, session, keeps, buffer⟩
  rw [frame]
  exact ⟨_, _, _, _, _, _, rfl⟩

theorem State.startBrute_eq (s : State) : s.startBrute = s.bruteReady.requestInternal .bruteForce s.secureUnits := by
  let t := (s.withAttempt { s.attempt with phase := .bruteForce, brute := .erasing }).place .bruteEraseStart
  obtain ⟨⟨_, _, _, _, _, _, frame⟩, -⟩ := t.closeSession_closesSession
  have started : s.startBrute = s.bruteReady.requestInternal .bruteForce t.closeSession.secureUnits := rfl
  rw [started, frame]
  rfl

theorem State.bruteReadies.secureAmong {s t : State} (ready : s.bruteReadies t) :
    t.secureAmong s.secureUnits = s.secureUnits := by
  obtain ⟨⟨_, _, _, _, _, _, rfl⟩, -⟩ := ready
  exact s.secureAmong_secureUnits

theorem State.bruteReadies.isSecure {s t : State} (ready : s.bruteReadies t) (u : UnitNo) : t.isSecure u = s.isSecure u := by
  obtain ⟨⟨_, _, _, _, _, _, rfl⟩, -⟩ := ready
  rfl

theorem State.bruteReadies.erase {s t : State} (ready : s.bruteReadies t) : t.erase = s.erase := by
  obtain ⟨⟨_, _, _, _, _, _, rfl⟩, -⟩ := ready
  rfl

section Alone

variable {s : State} (alone : s.erase.internal = none)

include alone

theorem State.bruteReadies.added {t : State} (ready : s.bruteReadies t) :
    t.addTargets .bruteForce (t.secureAmong s.secureUnits) =
      t.withInternal ⟨pendingTargets s.secureUnits, [.bruteForce]⟩ := by
  rw [ready.secureAmong]
  exact State.addTargets_brute_alone (by rw [ready.erase]; exact alone) _ s.nodup_secureUnits

/-- A brute-force erase with SECURE units claims them, and runs until its last target is DONE (R99). -/
theorem State.startBrute_requested (some_ : s.secureUnits ≠ []) :
    s.bruteReady.requested s.startBrute ⟨pendingTargets s.secureUnits, [.bruteForce]⟩ := by
  have ready := s.bruteReady_bruteReadies
  rw [State.startBrute_eq]
  generalize s.bruteReady = t at *
  refine State.requestInternal_requested (ready.added alone) ?_ ?_ ?_
  · intro x within
    obtain ⟨u, secure, rfl⟩ := List.mem_map.1 within
    rw [ready.isSecure]
    exact State.mem_secureUnits.1 secure
  · intro x within
    obtain ⟨u, _, rfl⟩ := List.mem_map.1 within
    exact (fun h => nomatch h)
  · obtain ⟨u, within⟩ := List.exists_mem_of_ne_nil _ some_
    exact ⟨⟨u, .pending⟩, List.mem_map_of_mem within, (fun h => nomatch h)⟩

/-- A brute-force erase with no SECURE unit goes on to its clearing stage at once (R99). -/
theorem State.startBrute_clears (none_ : s.secureUnits = []) : ∃ m i, s.bruteReady.requested m i ∧
    s.startBrute = ((m.withErase { m.erase with internal := none }).refreshLeds).clearCredentials := by
  have ready := s.bruteReady_bruteReadies
  have added := ready.added alone
  have attempt : s.bruteReady.attempt.brute = .erasing := by
    obtain ⟨_, _, _, _, _, _, frame⟩ := ready.frame
    rw [frame]
  rw [State.startBrute_eq]
  rw [none_] at added ⊢
  generalize s.bruteReady = t at *
  obtain ⟨m, requested, completes⟩ := State.requestInternal_completes added (by simp [pendingTargets])
    (by simp [pendingTargets])
  refine ⟨m, _, requested, completes.trans (if_pos ?_)⟩
  obtain ⟨_, _, _, _, _, _, _, _, _, _, _, frame⟩ := requested.frame
  rw [frame]
  exact attempt

end Alone

/-! ## The clearing stage -/

/-- What a change of the disabling conditions keeps of earlier events, and of a buffer that is empty. -/
theorem State.reevaluate_keeps (s : State) : s.events.keeps s.reevaluate.events ∧
    (s.entry.buffer = [] → s.reevaluate.entry.buffer = []) := by
  have abandons : s.events.keeps (s.abandonAny .alarm).events := by
    unfold State.abandonAny
    split
    · exact .place _ _
    · exact .refl _
  unfold State.reevaluate
  split
  · split
    · exact ⟨.refl _, id⟩
    · unfold State.enterDisabled
      split
      · exact ⟨.refl _, fun _ => rfl⟩
      · exact ⟨abandons, fun empty => State.abandonAny_buffer empty _⟩
      · exact ⟨abandons, fun empty => State.abandonAny_buffer empty _⟩
      all_goals exact ⟨.refl _, id⟩
  · split <;> exact ⟨.refl _, id⟩

theorem State.clearCredentials_keeps (s : State) : s.events.keeps s.clearCredentials.events ∧
    (s.entry.buffer = [] → s.clearCredentials.entry.buffer = []) := by
  obtain ⟨creds, pendingSet, blanked, -⟩ := State.blankCredentials_eq (List.finRange 6) s
  let t : State := { s with
    enrolling := none, attempt := { s.attempt with failed := 0, brute := .clearing },
    store := { s.store with
      image := { s.store.image with creds := creds, attempt := ⟨0, 0⟩ },
      pendingSet := joinPending pendingSet ⟨.attempt ⟨0, 0⟩, [.clearing]⟩ } }
  have entered : s.clearCredentials = t.reevaluate := by
    unfold State.clearCredentials
    rw [blanked]
    rfl
  obtain ⟨keeps, buffer⟩ := t.reevaluate_keeps
  rw [entered]
  exact ⟨keeps, buffer⟩

end Sys2Proof.Machine
end

section
/-! Verdicts: the failure path by F, a match on DURESS, and a match on ADMIN or a USER slot (R90 to R97, R99, R174). -/

namespace Sys2Proof.Machine

/-! ## The brute-force erase where no internal erase runs -/

/-- What the start of the brute-force erase leaves (R99). -/
structure State.brutes (s m : State) : Prop where
  session : m.control.session = false
  events : (s.events.place .bruteEraseStart).keeps m.events
  buffer : s.entry.buffer = [] → m.entry.buffer = []
  power : m.power = s.power
  erasing : s.secureUnits ≠ [] →
    m.attempt = { s.attempt with phase := .bruteForce, brute := .erasing } ∧ (∀ k, m.cred k = s.cred k) ∧
    (∀ u, s.isSecure u = true → m.unitState u = .closing ∨ m.unitState u = .erasing ∨
      (s.heldUnit = some u ∧ m.unitState u = s.unitState u)) ∧
    ∃ i, m.erase.internal = some i ∧ i.requesters = [.bruteForce] ∧ i.targets.map Target.unit = s.secureUnits
  clearing : s.secureUnits = [] → m.erase.internal = none ∧
    m.attempt = { s.attempt with failed := 0, phase := .bruteForce, brute := .clearing } ∧
    (∀ k, m.cred k = CredRecord.blank) ∧ m.store.image.attempt = ⟨0, 0⟩

theorem State.bruteReadies.heldUnit {s t : State} (ready : s.bruteReadies t) : t.heldUnit = s.heldUnit := by
  obtain ⟨⟨_, _, _, _, _, _, rfl⟩, -⟩ := ready
  rfl

theorem State.bruteReadies.unitRun {s t : State} (ready : s.bruteReadies t) (u : UnitNo) : t.unitRun u = s.unitRun u := by
  obtain ⟨⟨_, _, _, _, _, _, rfl⟩, -⟩ := ready
  rfl

/-- What the claims of the brute-force erase leave beside its targets. -/
theorem State.bruteReadies.requested {s t m : State} {i : InternalErase} (ready : s.bruteReadies t)
    (requested : t.requested m i) : m.control.session = false ∧ (s.events.place .bruteEraseStart).keeps m.events ∧
      (s.entry.buffer = [] → m.entry.buffer = []) ∧ m.power = s.power ∧
      m.attempt = { s.attempt with phase := .bruteForce, brute := .erasing } ∧ ∀ k, m.cred k = s.cred k := by
  obtain ⟨_, _, _, _, _, _, _, _, _, _, keeps, claimed⟩ := requested.frame
  obtain ⟨frame, session, events, buffer⟩ := ready
  obtain ⟨_, _, _, _, _, _, frame⟩ := frame
  rw [claimed]
  refine ⟨session, events.trans keeps, buffer, ?_, ?_, fun k => ?_⟩ <;> rw [frame]
  rfl

theorem State.startBrute_brutes {s : State} (alone : s.erase.internal = none) : s.brutes s.startBrute := by
  have ready := s.bruteReady_bruteReadies
  by_cases none_ : s.secureUnits = []
  · obtain ⟨m, i, requested, clears⟩ := State.startBrute_clears alone none_
    rw [clears]
    obtain ⟨session, events, buffer, power, attempt, -⟩ := ready.requested requested
    let c := (m.withErase { m.erase with internal := none }).refreshLeds
    obtain ⟨keeps, buffer'⟩ := c.clearCredentials_keeps
    obtain ⟨⟨_, _, _, _, _, _, _, _, _, _, frame⟩, cleared, -⟩ := c.clearCredentials_cleared
    change s.brutes c.clearCredentials
    refine ⟨?_, events.trans keeps, fun empty => buffer' (buffer empty), ?_, fun some_ => absurd none_ some_,
      fun _ => ⟨?_, ?_, cleared.creds, cleared.record⟩⟩
    · rw [frame]
      exact session
    · rw [frame]
      exact power
    · rw [frame]
      rfl
    · rw [cleared.attempt, show c.attempt = m.attempt from rfl, attempt]
  · have requested := State.startBrute_requested alone none_
    obtain ⟨session, events, buffer, power, attempt, creds⟩ := ready.requested requested
    obtain ⟨j, record, requesters, keys⟩ := requested.record
    refine ⟨session, events, buffer, power, fun _ => ⟨attempt, creds, fun u secure => ?_, j, record, requesters, ?_⟩,
      fun empty => absurd empty none_⟩
    · have claimed := requested.claimed u (List.mem_map_of_mem (State.mem_secureUnits.2 secure))
      rwa [ready.heldUnit, State.unitState.eq_def s.bruteReady, ready.unitRun] at claimed
    · rw [units_of_keys keys]
      simp [pendingTargets, Function.comp_def]

/-! ## The failure path -/

section Failure

variable {s : State}

theorem State.failureByF_brute (limit : s.store.image.policy.attemptLimit ≤ s.attempt.failed) :
    s.failureByF = s.startBrute := if_pos limit

theorem State.failureByF_idle (below : s.attempt.failed < s.store.image.policy.attemptLimit)
    (free : s.attempt.failed ≤ s.store.image.policy.freeAttempts) : s.failureByF = s.attemptIdle := by
  rw [State.failureByF]
  rw [if_neg (Nat.not_le.2 below), if_pos free]

theorem State.failureByF_penalty (below : s.attempt.failed < s.store.image.policy.attemptLimit)
    (above : s.store.image.policy.freeAttempts < s.attempt.failed) : s.failureByF = s.startPenalty := by
  rw [State.failureByF]
  rw [if_neg (Nat.not_le.2 below), if_neg (Nat.not_le.2 above)]

theorem State.attemptIdle_eq (s : State) : s.attemptIdle = { s with
    attempt := { s.attempt with phase := .idle, penaltyTimer := none, brute := .none },
    entry := { s.entry with state := if s.entry.state = .disabled then .disabled else .idle } } :=
  State.entryGoes_eq _ _

theorem State.startPenalty_eq (s : State) : s.startPenalty =
    let p := s.store.image.policy
    let f := s.attempt.failed
    { s with
      attempt := { s.attempt with
        phase := .penalty, penaltyTimer := some (p.penaltyDelay f), replugDue := decide (p.replugPoint ≤ f),
        brute := .none },
      store := { s.store with
        image := { s.store.image with attempt := ⟨f, p.penaltyDelay f⟩ },
        pendingSet := joinPending s.store.pendingSet ⟨.attempt ⟨f, p.penaltyDelay f⟩, []⟩ },
      events := s.events.place (.penaltyStart (p.penaltyDelay f)),
      entry := { s.entry with state := if s.entry.state = .disabled then .disabled else .penalty } } :=
  State.entryGoes_eq _ _

end Failure

/-! ## The comparison -/

/-- The entry has been compared, and its buffer cleared (R90). -/
def State.compared (s : State) : State := s.withEntry { s.entry with buffer := [] }

section Verdict

variable {s : State} (charging : s.attempt.phase = .charging)

include charging

theorem State.verdict_none (none_ : s.matchingSlot s.entry.buffer = none) : s.verdict = s.compared.failedAttempt := by
  rw [State.verdict, if_pos charging, none_]
  rfl

theorem State.verdict_duress (matched : s.matchingSlot s.entry.buffer = some 5) :
    s.verdict = s.compared.duressMatch := by
  rw [State.verdict, if_pos charging, matched]
  rfl

theorem State.verdict_good {k : SlotNo} (matched : s.matchingSlot s.entry.buffer = some k) (other : k ≠ 5) :
    s.verdict = s.compared.goodMatch k := by
  rw [State.verdict, if_pos charging, matched]
  exact if_neg other

end Verdict

section NoMatch

variable {s : State} {a : AttemptRecord} (powered : s.power.vbus = true)
  (running : s.store.running = some ⟨.attempt a, [.charge]⟩) (charging : s.attempt.phase = .charging)

include powered running charging

theorem exec_charge_none (none_ : s.matchingSlot s.entry.buffer = none) : exec .writeCompletion s =
    .next (s.written (.attempt a)).compared.failedAttempt.finish := by
  rw [exec_writeCompletion_one powered running]
  exact congrArg (fun m => Host.Outcome.next (State.finish m))
    (State.verdict_none (s := s.written (.attempt a)) charging none_)

theorem exec_charge_duress (matched : s.matchingSlot s.entry.buffer = some 5) : exec .writeCompletion s =
    .next (s.written (.attempt a)).compared.duressMatch.finish := by
  rw [exec_writeCompletion_one powered running]
  exact congrArg (fun m => Host.Outcome.next (State.finish m))
    (State.verdict_duress (s := s.written (.attempt a)) charging matched)

theorem exec_charge_good {k : SlotNo} (matched : s.matchingSlot s.entry.buffer = some k) (other : k ≠ 5) :
    exec .writeCompletion s = .next ((s.written (.attempt a)).compared.goodMatch k).finish := by
  rw [exec_writeCompletion_one powered running]
  exact congrArg (fun m => Host.Outcome.next (State.finish m))
    (State.verdict_good (s := s.written (.attempt a)) charging matched other)

end NoMatch

end Sys2Proof.Machine
end

section
/-! A failed attempt that starts no erase, the end of the brute-force erase and of a penalty, and step 6 of start-up (R94 to R99,
R207). -/

namespace Sys2Proof.Machine

/-! ## No match, below the limit -/

theorem State.failedAttempt_free {s : State} (below : s.attempt.failed < s.store.image.policy.attemptLimit)
    (free : s.attempt.failed ≤ s.store.image.policy.freeAttempts) : s.failedAttempt = State.showFail { s with
      entry := { s.entry with state := if s.entry.state = .disabled then .disabled else .idle },
      attempt := { s.attempt with phase := .idle, penaltyTimer := none, brute := .none },
      events := s.events.place (.attemptFailed s.attempt.failed) } := by
  rw [State.failedAttempt, State.failureByF_idle (s := s.showFailure) below free, State.attemptIdle_eq]
  rfl

theorem State.failedAttempt_penalty {s : State} (below : s.attempt.failed < s.store.image.policy.attemptLimit)
    (above : s.store.image.policy.freeAttempts < s.attempt.failed) : s.failedAttempt = State.showFail { s with
      store := { s.store with
        image := { s.store.image with
          attempt := ⟨s.attempt.failed, s.store.image.policy.penaltyDelay s.attempt.failed⟩ },
        pendingSet := joinPending s.store.pendingSet
          ⟨.attempt ⟨s.attempt.failed, s.store.image.policy.penaltyDelay s.attempt.failed⟩, []⟩ },
      entry := { s.entry with state := if s.entry.state = .disabled then .disabled else .penalty },
      attempt := { s.attempt with
        phase := .penalty, penaltyTimer := some (s.store.image.policy.penaltyDelay s.attempt.failed),
        replugDue := decide (s.store.image.policy.replugPoint ≤ s.attempt.failed), brute := .none },
      events := (s.events.place (.attemptFailed s.attempt.failed)).place
        (.penaltyStart (s.store.image.policy.penaltyDelay s.attempt.failed)) } := by
  rw [State.failedAttempt, State.failureByF_penalty (s := s.showFailure) below above, State.startPenalty_eq]
  rfl

section Failed

variable {s : State} {a : AttemptRecord} (powered : s.power.vbus = true)
  (running : s.store.running = some ⟨.attempt a, [.charge]⟩) (charging : s.attempt.phase = .charging)
  (none_ : s.matchingSlot s.entry.buffer = none) (below : s.attempt.failed < s.store.image.policy.attemptLimit)

include powered running charging none_ below

theorem exec_charge_free (free : s.attempt.failed ≤ s.store.image.policy.freeAttempts) :
    exec .writeCompletion s = .next (State.finish (State.showFail { s with
      store := { s.store with array := s.store.array.write (.attempt a), running := none },
      entry := { s.entry with
        buffer := [], state := if s.entry.state = .disabled then .disabled else .idle },
      attempt := { s.attempt with phase := .idle, penaltyTimer := none, brute := .none },
      events := s.events.place (.attemptFailed s.attempt.failed) })) := by
  rw [exec_charge_none powered running charging none_,
    State.failedAttempt_free (s := (s.written (.attempt a)).compared) below free]
  rfl

theorem exec_charge_penalty (above : s.store.image.policy.freeAttempts < s.attempt.failed) :
    exec .writeCompletion s = .next (State.finish (State.showFail { s with
      store := { s.store with
        array := s.store.array.write (.attempt a), running := none,
        image := { s.store.image with
          attempt := ⟨s.attempt.failed, s.store.image.policy.penaltyDelay s.attempt.failed⟩ },
        pendingSet := joinPending s.store.pendingSet
          ⟨.attempt ⟨s.attempt.failed, s.store.image.policy.penaltyDelay s.attempt.failed⟩, []⟩ },
      entry := { s.entry with
        buffer := [], state := if s.entry.state = .disabled then .disabled else .penalty },
      attempt := { s.attempt with
        phase := .penalty, penaltyTimer := some (s.store.image.policy.penaltyDelay s.attempt.failed),
        replugDue := decide (s.store.image.policy.replugPoint ≤ s.attempt.failed), brute := .none },
      events := (s.events.place (.attemptFailed s.attempt.failed)).place
        (.penaltyStart (s.store.image.policy.penaltyDelay s.attempt.failed)) })) := by
  rw [exec_charge_none powered running charging none_,
    State.failedAttempt_penalty (s := (s.written (.attempt a)).compared) below above]
  rfl

end Failed

/-! ## No match, at the limit -/

/-- Where the engine holds no unit for its list that is OPEN, the brute-force erase leaves no SECURE unit OPEN (R142). -/
theorem State.brutes.noneOpen {s m : State} (brutes : s.brutes m)
    (held : ∀ u, s.heldUnit = some u → s.unitState u ≠ .opened) (u : UnitNo) (secure : s.isSecure u = true) :
    m.unitState u ≠ .opened := by
  obtain ⟨-, -, units, -⟩ := brutes.erasing fun empty => List.not_mem_nil (empty ▸ State.mem_secureUnits.2 secure)
  rcases units u secure with closing | erasing | ⟨own, same⟩
  · rw [closing]
    exact (fun h => nomatch h)
  · rw [erasing]
    exact (fun h => nomatch h)
  · rw [same]
    exact held u own

/-- A part that has only written, compared and shown a failure starts the brute-force erase as the part before would. -/
theorem State.brutes.of_shown {s t m : State} (brutes : t.brutes m) (shown : ∃ array running entry leds events, t = { s with
    store := { s.store with array := array, running := running }, entry := entry, leds := leds, events := events }) :
    (s.secureUnits ≠ [] →
      m.attempt = { s.attempt with phase := .bruteForce, brute := .erasing } ∧ (∀ k, m.cred k = s.cred k) ∧
      ((∀ u, s.heldUnit = some u → s.unitState u ≠ .opened) → ∀ u, s.isSecure u = true → m.unitState u ≠ .opened) ∧
      ∃ i, m.erase.internal = some i ∧ i.requesters = [.bruteForce] ∧ i.targets.map Target.unit = s.secureUnits) ∧
    (s.secureUnits = [] → m.erase.internal = none ∧
      m.attempt = { s.attempt with failed := 0, phase := .bruteForce, brute := .clearing } ∧
      (∀ k, m.cred k = CredRecord.blank) ∧ m.store.image.attempt = ⟨0, 0⟩) := by
  have noneOpen := brutes.noneOpen
  obtain ⟨-, -, -, -, erasing, clearing⟩ := brutes
  obtain ⟨array, running, entry, leds, events, rfl⟩ := shown
  refine ⟨fun some_ => ?_, clearing⟩
  obtain ⟨attempt, creds, -, record⟩ := erasing some_
  exact ⟨attempt, creds, noneOpen, record⟩

/-- The brute-force erase that a failed attempt starts. -/
theorem exec_charge_brute {s : State} {a : AttemptRecord} (powered : s.power.vbus = true)
    (running : s.store.running = some ⟨.attempt a, [.charge]⟩) (charging : s.attempt.phase = .charging)
    (none_ : s.matchingSlot s.entry.buffer = none) (limit : s.store.image.policy.attemptLimit ≤ s.attempt.failed)
    (alone : s.erase.internal = none) : ∃ t m : State, exec .writeCompletion s = .next m.finish ∧ t.brutes m ∧
      t.events = s.events.place (.attemptFailed s.attempt.failed) ∧ ∃ array running entry leds events, t = { s with
        store := { s.store with array := array, running := running }, entry := entry, leds := leds, events := events } := by
  have acts := State.failureByF_brute (s := (s.written (.attempt a)).compared.showFailure) limit
  refine ⟨(s.written (.attempt a)).compared.showFailure, _, ?_, State.startBrute_brutes alone, rfl, _, _, _, _, _, rfl⟩
  rw [exec_charge_none powered running charging none_, State.failedAttempt, acts]

/-! ## The ends of the brute-force erase and of a penalty -/

theorem exec_clearing {s : State} {c : RecordContent} (powered : s.power.vbus = true)
    (running : s.store.running = some ⟨c, [.clearing]⟩) (clearing : s.attempt.brute = .clearing) :
    exec .writeCompletion s = .next (State.finish { s with
      store := { s.store with array := s.store.array.write c, running := none },
      entry := { s.entry with state := if s.entry.state = .disabled then .disabled else .idle },
      attempt := { s.attempt with
        phase := .idle, penaltyTimer := none, replugLatch := false, replugDue := false, brute := .none },
      events := s.events.place .bruteEraseDone }) := by
  have answered : (s.written c).answer .clearing = (s.written c).clearingWritten := rfl
  have cleared : (s.written c).clearingWritten = State.place (State.attemptIdle { s.written c with
      attempt := { s.attempt with replugLatch := false, replugDue := false } }) .bruteEraseDone := if_pos clearing
  rw [exec_writeCompletion_one powered running, answered, cleared, State.attemptIdle_eq]
  rfl

section Penalty

variable {s : State} (powered : s.power.vbus = true) (phase : s.attempt.phase = .penalty)
  (timer : s.attempt.penaltyTimer.isSome = true)

include powered phase timer

theorem exec_penaltyTimerExpiry : exec .penaltyTimerExpiry s = .next s.penaltyExpired.refreshLeds := by
  show execPenaltyTimerExpiry s = _
  rw [execPenaltyTimerExpiry, State.act_powered _ powered, if_pos (by simp [phase, timer])]

theorem exec_penaltyTimerExpiry_replug (due : s.attempt.replugDue = true) :
    exec .penaltyTimerExpiry s = .next (State.refreshLeds { s with
      store := { s.store with
        image := { s.store.image with attempt := ⟨s.attempt.failed, 0⟩ },
        pendingSet := joinPending s.store.pendingSet ⟨.attempt ⟨s.attempt.failed, 0⟩, []⟩ },
      entry := { s.entry with state := if s.entry.state = .disabled then .disabled else .replugWait },
      attempt := { s.attempt with phase := .replug, penaltyTimer := none, replugLatch := true, replugDue := false },
      events := s.events.place .replugRequired }) := by
  have latched : s.penaltyExpired = State.place (State.entryGoes { s with
      store := { s.store with
        image := { s.store.image with attempt := ⟨s.attempt.failed, 0⟩ },
        pendingSet := joinPending s.store.pendingSet ⟨.attempt ⟨s.attempt.failed, 0⟩, []⟩ },
      attempt := { s.attempt with phase := .replug, penaltyTimer := none, replugLatch := true, replugDue := false } }
      .replugWait) .replugRequired := if_pos due
  rw [exec_penaltyTimerExpiry powered phase timer, latched, State.entryGoes_eq]
  rfl

theorem exec_penaltyTimerExpiry_idle (none_ : s.attempt.replugDue = false) :
    exec .penaltyTimerExpiry s = .next (State.refreshLeds { s with
      store := { s.store with
        image := { s.store.image with attempt := ⟨s.attempt.failed, 0⟩ },
        pendingSet := joinPending s.store.pendingSet ⟨.attempt ⟨s.attempt.failed, 0⟩, []⟩ },
      entry := { s.entry with state := if s.entry.state = .disabled then .disabled else .idle },
      attempt := { s.attempt with phase := .idle, penaltyTimer := none, brute := .none } }) := by
  rw [exec_penaltyTimerExpiry powered phase timer, State.penaltyExpired, if_neg (by simp [none_]), State.attemptIdle_eq]
  rfl

end Penalty

/-! ## Step 6 of start-up -/

section StartUp

variable {s : State} (undrained : ∀ u, s.drainDue u = false)

include undrained

/-- With no drained signal due, start-up moves on before anything else. -/
theorem State.advanceStartUp_leads {m : State} (moves : s.advanceStartUp = some m) : m.leads s.finish := by
  refine State.leads_of_internal ?_
  have none_ : (List.finRange 8).find? s.drainDue = none := List.find?_eq_none.2 fun u _ => by simp [undrained u]
  rw [State.internal, State.nextDrained, none_, moves]
  rfl

theorem State.finishStartUp_leads (step : s.power.startUp = .step6) (phase : s.attempt.phase = .idle) :
    (State.reevaluate { s with power := { s.power with startUp := .done } }).leads s.finish := by
  refine State.advanceStartUp_leads undrained ?_
  rw [State.advanceStartUp, step]
  exact if_pos phase

variable (step : s.power.startUp = .step4Reruns) (rerun : s.erase.rerun = none) (marked : s.nextMarked = none)
  (owed : s.tamper.zeroizeOwed = false)

include step rerun marked owed

/-- With the reruns ended and no enclosure erase owed, step 6 follows (R205, R207). -/
theorem State.stepSix_leads : (State.stepSix { s with erase := { s.erase with state := .idle } }).leads s.finish := by
  have ends : s.endReruns = State.stepSix { s with erase := { s.erase with state := .idle } } := if_neg (by simp [owed])
  refine State.advanceStartUp_leads undrained ?_
  rw [State.advanceStartUp, step]
  dsimp only
  rw [if_neg (by simp [rerun]), marked]
  exact congrArg some ends

theorem State.stepSix_leads_done (below : s.attempt.failed < s.store.image.policy.attemptLimit)
    (none_ : s.store.image.attempt.owed = 0) : (State.reevaluate { s with
      power := { s.power with startUp := .done }, erase := { s.erase with state := .idle } }).leads s.finish := by
  have leads := State.stepSix_leads undrained step rerun marked owed
  rw [State.stepSix] at leads
  rwa [if_neg (Nat.not_le.2 below), if_neg (Nat.not_lt.2 (Nat.le_of_eq none_))] at leads

theorem State.stepSix_leads_penalty (below : s.attempt.failed < s.store.image.policy.attemptLimit)
    (some_ : 0 < s.store.image.attempt.owed) : (State.reevaluate { s with
      power := { s.power with startUp := .done }, erase := { s.erase with state := .idle },
      attempt := { s.attempt with
        phase := .penalty, penaltyTimer := some s.store.image.attempt.owed, replugDue := false },
      events := s.events.place (.penaltyStart s.store.image.attempt.owed) }).leads s.finish := by
  have leads := State.stepSix_leads undrained step rerun marked owed
  rw [State.stepSix] at leads
  rwa [if_neg (Nat.not_le.2 below), if_pos some_] at leads

theorem State.stepSix_leads_brute (limit : s.store.image.policy.attemptLimit ≤ s.attempt.failed)
    (alone : s.erase.internal = none) : ∃ m, m.leads s.finish ∧ State.brutes { s with
      erase := { s.erase with state := .idle }, power := { s.power with startUp := .step6 } } m := by
  have leads := State.stepSix_leads undrained step rerun marked owed
  rw [State.stepSix, if_pos limit] at leads
  exact ⟨_, leads, State.startBrute_brutes alone⟩

end StartUp

end Sys2Proof.Machine
end

section
/-! A match on ADMIN or a USER slot: the use that it spends, F, its grants and the session (R91, R92, R136). -/

namespace Sys2Proof.Machine

/-! ## An open request and the entry -/

/-- What an open request changes: units, key slots, the open order and events (R136 to R139). -/
theorem State.openGrant_frame (s : State) (k : SlotNo) (g : Grant) : ∃ units cipher order events, s.openGrant k g = { s with
    units := units, cipher := cipher, control := { s.control with openOrder := order }, events := events } := by
  unfold State.openGrant
  split
  · exact ⟨_, _, _, _, rfl⟩
  · split
    · exact ⟨_, _, _, _, rfl⟩
    · split
      · exact ⟨_, _, _, _, rfl⟩
      · split
        · split <;> exact ⟨_, _, _, _, rfl⟩
        all_goals exact ⟨_, _, _, _, rfl⟩

theorem State.openRequest_frame (s : State) (k : SlotNo) (gs : List Grant) : ∃ units cipher order events,
    s.openRequest k gs = { s with
      units := units, cipher := cipher, control := { s.control with openOrder := order }, events := events } := by
  have grants : ∃ units cipher order events, gs.foldl (State.openGrant · k) s = { s with
      units := units, cipher := cipher, control := { s.control with openOrder := order }, events := events } := by
    induction gs generalizing s with
    | nil => exact ⟨_, _, _, _, rfl⟩
    | cons g gs ih =>
      obtain ⟨_, _, _, _, first⟩ := s.openGrant_frame k g
      obtain ⟨_, _, _, _, rest⟩ := ih (s.openGrant k g)
      rw [List.foldl_cons, rest, first]
      exact ⟨_, _, _, _, rfl⟩
  unfold State.openRequest
  split
  · exact ⟨_, _, _, _, rfl⟩
  · exact grants

/-- Grants do not look at the entry. -/
theorem State.openGrant_withEntry (s : State) (e : Entry) (k : SlotNo) (g : Grant) :
    (s.withEntry e).openGrant k g = (s.openGrant k g).withEntry e := by
  have unitDef : (s.withEntry e).unitDef g.unit = s.unitDef g.unit := rfl
  have unitRun : (s.withEntry e).unitRun g.unit = s.unitRun g.unit := rfl
  have unitState : (s.withEntry e).unitState g.unit = s.unitState g.unit := rfl
  rw [State.openGrant, State.openGrant, unitDef, unitRun, unitState]
  split
  · rfl
  · split
    · rfl
    · split
      · rfl
      · split
        · split <;> rfl
        all_goals rfl

theorem State.openRequest_withEntry (s : State) (e : Entry) (k : SlotNo) (gs : List Grant) :
    (s.withEntry e).openRequest k gs = (s.openRequest k gs).withEntry e := by
  have grants : gs.foldl (State.openGrant · k) (s.withEntry e) = (gs.foldl (State.openGrant · k) s).withEntry e := by
    induction gs generalizing s with
    | nil => rfl
    | cons g gs ih => rw [List.foldl_cons, List.foldl_cons, State.openGrant_withEntry, ih]
  have factory : (s.withEntry e).factory = s.factory := rfl
  rw [State.openRequest, State.openRequest, factory]
  split
  · rfl
  · exact grants

/-! ## The use and F -/

/-- The credential record of a slot whose use is spent, where its uses are counted (R92). -/
def State.useSpent (s : State) (k : SlotNo) : Option CredRecord :=
  if k = 0 then none else (s.cred k).usesLeft.map fun n =>
    { s.cred k with usesLeft := some (n - 1), state := if n ≤ 1 then .spent else .active }

/-- The credentials of the image after the use. -/
def State.credsSpent (s : State) (k : SlotNo) : Vector CredRecord 6 :=
  match s.useSpent k with
  | some c => s.store.image.creds.set k c
  | none => s.store.image.creds

/-- The pending set after the use. -/
def State.pendingSpent (s : State) (k : SlotNo) : List WriteRequest :=
  match s.useSpent k with
  | some c => joinPending s.store.pendingSet ⟨.credential k c, []⟩
  | none => s.store.pendingSet

/-- The part after a use is spent and F set to 0, before the open request (R91, R92). -/
def State.credited (s : State) (k : SlotNo) : State := { s with
  attempt := { s.attempt with failed := 0 },
  store := { s.store with
    image := { s.store.image with creds := s.credsSpent k, attempt := ⟨0, 0⟩ },
    pendingSet := joinPending (s.pendingSpent k) ⟨.attempt ⟨0, 0⟩, []⟩ } }

theorem State.spendUse_eq {s : State} {k : SlotNo} (user : k ≠ 0) : s.spendUse k = { s with
    store := { s.store with
      image := { s.store.image with creds := s.credsSpent k }, pendingSet := s.pendingSpent k } } := by
  rw [State.spendUse, State.credsSpent, State.pendingSpent, State.useSpent, if_neg user]
  cases (s.cred k).usesLeft with
  | none => rfl
  | some n => exact State.setCred_requestWrite _ _ _ _

theorem State.goodMatch_eq (s : State) (k : SlotNo) : s.goodMatch k =
    let opened := (s.credited k).openRequest k (s.cred k).grants
    (if k = 0 then opened.openSession else opened).showOk.attemptIdle := by
  by_cases admin : k = 0
  · subst admin
    rfl
  · rw [State.goodMatch, if_neg admin, if_neg admin, State.spendUse_eq admin]
    show _ = (if k = 0 then State.openSession _ else _).showOk.attemptIdle
    rw [if_neg admin]
    rfl

/-! ## The match -/

/-- What a match on ADMIN or a USER slot leaves, where `opened` is the open request's result. -/
structure State.goodMatched (s : State) (k : SlotNo) (opened m : State) : Prop where
  entry : m.entry = { s.entry with buffer := [], state := if s.entry.state = .disabled then .disabled else .idle }
  attempt : m.attempt = { s.attempt with failed := 0, phase := .idle, penaltyTimer := none, brute := .none }
  store : m.store = (s.credited k).store
  green : m.leds.green = some .ok
  erase : m.erase = s.erase
  units : m.units = opened.units
  cipher : m.cipher = opened.cipher
  events : m.events = opened.events
  openOrder : m.control.openOrder = opened.control.openOrder
  session : m.control.session = (s.control.session || decide (k = 0))
  timer : k = 0 → m.control.sessionTimer = some s.store.image.policy.adminIdle

theorem State.goodMatch_goodMatched (s : State) (k : SlotNo) :
    s.goodMatched k ((s.credited k).openRequest k (s.cred k).grants) (s.compared.goodMatch k) := by
  have credited : s.compared.credited k = (s.credited k).withEntry { s.entry with buffer := [] } := rfl
  have cred : s.compared.cred k = s.cred k := rfl
  obtain ⟨units, cipher, order, events, frame⟩ := (s.credited k).openRequest_frame k (s.cred k).grants
  rw [State.goodMatch_eq]
  dsimp only
  rw [credited, cred, State.openRequest_withEntry, frame]
  by_cases admin : k = 0
  · rw [if_pos admin, State.attemptIdle_eq]
    exact ⟨rfl, rfl, rfl, rfl, rfl, rfl, rfl, rfl, rfl, by simp [admin]; rfl, fun _ => rfl⟩
  · rw [if_neg admin, State.attemptIdle_eq]
    exact ⟨rfl, rfl, rfl, rfl, rfl, rfl, rfl, rfl, rfl, by simp [admin]; rfl, fun own => absurd own admin⟩

end Sys2Proof.Machine
end

section
/-! A match on DURESS: the internal erase of its units, and the brute-force erase that joins it at the limit (R86, R93, R99, R174,
R177). -/

namespace Sys2Proof.Machine

/-! ## The internal erase of a DURESS match -/

/-- The SECURE units that DURESS grants name (R93). -/
def State.duressNamed (s : State) : List UnitNo := s.secureAmong s.duressUnits

/-- Those of them that the internal erase does not skip (R86). -/
def State.duressTaken (s : State) : List UnitNo := s.duressNamed.filter fun u => !(s.unitRun u).unusable

theorem State.mem_duressTaken {s : State} {u : UnitNo} :
    u ∈ s.duressTaken ↔ u ∈ s.duressNamed ∧ (s.unitRun u).unusable = false := by simp [State.duressTaken]

theorem State.mem_duressNamed {s : State} {u : UnitNo} (named : u ∈ s.duressNamed) : s.isSecure u = true :=
  (List.mem_filter.1 named).2

/-- A target of the DURESS match, as its unit tells it. -/
theorem State.mem_duressTargets {s : State} {us : List UnitNo} {t : Target} : t ∈ s.duressTargets us ↔
    t.unit ∈ us ∧ t.stage = if (s.unitRun t.unit).unusable then .done else .pending := by
  rw [State.duressTargets, List.mem_map]
  constructor
  · rintro ⟨u, within, rfl⟩
    exact ⟨within, rfl⟩
  · rintro ⟨within, stage⟩
    exact ⟨t.unit, within, by rw [← stage]⟩

theorem State.pending_duressTargets {s : State} {u : UnitNo} :
    ⟨u, .pending⟩ ∈ s.duressTargets s.duressNamed ↔ u ∈ s.duressTaken := by
  rw [State.mem_duressTargets, State.mem_duressTaken]
  refine and_congr_right fun _ => ?_
  cases (s.unitRun u).unusable <;> simp

/-- What the request of a DURESS match leaves. -/
structure State.duresses (s d : State) : Prop where
  frame : s.claimsOnly d
  secure : ∀ v, d.isSecure v = s.isSecure v
  stopped : d.stopped
  claimed : ∀ v ∈ s.duressTaken, d.unitState v = .closing ∨ d.unitState v = .erasing ∨
    (s.heldUnit = some v ∧ d.unitState v = s.unitState v)
  others : ∀ v, v ∉ s.duressTaken → s.heldUnit ≠ some v → d.unitRun v = s.unitRun v ∧ d.unitDef v = s.unitDef v
  skipped : s.duressTaken = [] → d.erase.internal = none
  targeted : s.duressTaken ≠ [] → ∃ i, d.erase.internal = some i ∧ i.requesters = [.duress] ∧
    i.targets.map Target.key = (s.duressTargets s.duressNamed).map Target.key

theorem State.requestInternal_duresses {s : State} (alone : s.erase.internal = none) (once : s.duressUnits.Nodup) :
    s.duresses (s.requestInternal .duress s.duressUnits) := by
  have added := State.addTargets_duress alone s.duressNamed (once.filter _)
  have secure : ∀ t ∈ s.duressTargets s.duressNamed, s.isSecure t.unit = true := fun t within =>
    State.mem_duressNamed (State.mem_duressTargets.1 within).1
  by_cases none_ : s.duressTaken = []
  · have done : ∀ t ∈ s.duressTargets s.duressNamed, t.stage = .done := fun t within => by
      obtain ⟨named, stage⟩ := State.mem_duressTargets.1 within
      have unusable : (s.unitRun t.unit).unusable = true := by
        by_contra usable
        exact List.not_mem_nil (none_ ▸ State.mem_duressTaken.2 ⟨named, eq_false_of_ne_true usable⟩)
      rw [stage, if_pos unusable]
    obtain ⟨m, requested, completes⟩ := State.requestInternal_completes added secure done
    have reported : s.requestInternal .duress s.duressUnits =
      (m.withErase { m.erase with internal := none }).refreshLeds := completes
    rw [reported]
    obtain ⟨_, _, _, _, _, _, _, _, _, _, keeps, frame⟩ := requested.frame
    refine ⟨?_, requested.secure, requested.stopped, fun v taken => ?_, fun v out free => ?_, fun _ => rfl,
      fun some_ => absurd none_ some_⟩
    · rw [frame]
      exact ⟨_, _, _, _, _, _, _, _, _, _, keeps, rfl⟩
    · exact absurd (none_ ▸ taken) List.not_mem_nil
    · exact requested.others v (mt State.pending_duressTargets.1 out) (.inr free)
  · obtain ⟨u, taken⟩ := List.exists_mem_of_ne_nil _ none_
    have requested := State.requestInternal_requested added secure
      (fun t within => by
        rw [(State.mem_duressTargets.1 within).2]
        split <;> exact (fun h => nomatch h))
      ⟨⟨u, .pending⟩, State.pending_duressTargets.2 taken, (fun h => nomatch h)⟩
    exact ⟨requested.frame, requested.secure, requested.stopped,
      fun v taken => requested.claimed v (State.pending_duressTargets.2 taken),
      fun v out free => requested.others v (mt State.pending_duressTargets.1 out) (.inr free),
      fun empty => absurd empty none_, fun _ => requested.record⟩

/-! ## The brute-force erase that joins it -/

section Merge

variable {s : State} {ts : List Target} (keys : ts.map Target.key = (s.duressTargets s.duressNamed).map Target.key)

include keys

/-- A target of the request of a DURESS match, whichever stage before its marker's write it has come to. -/
theorem State.duressTarget_spec {t : Target} (within : t ∈ ts) :
    t.unit ∈ s.duressNamed ∧ (t.stage = .done ↔ (s.unitRun t.unit).unusable = true) ∧ t.stage ≠ .replacing := by
  obtain ⟨x, within, unit, done, replacing⟩ := mem_of_keys keys within
  obtain ⟨named, stage⟩ := State.mem_duressTargets.1 within
  rw [unit] at named stage
  refine ⟨named, ?_, ?_⟩
  · rw [← done, stage]
    cases (s.unitRun t.unit).unusable <;> simp
  · refine mt replacing.2 ?_
    rw [stage]
    cases (s.unitRun t.unit).unusable <;> simp

theorem State.duressTargets_units : ts.map Target.unit = s.duressNamed := by
  rw [units_of_keys keys]
  simp [State.duressTargets, Function.comp_def]

/-- The units of the targets that are not DONE are those that the erase does not skip. -/
theorem State.duressTargets_live : (ts.filter fun t => !decide (t.stage = .done)).map Target.unit = s.duressTaken := by
  have skipped : (ts.filter fun t => !decide (t.stage = .done)) = ts.filter fun t => !(s.unitRun t.unit).unusable := by
    refine List.filter_congr fun t within => ?_
    simp [(State.duressTarget_spec keys within).2.1]
  rw [skipped, State.duressTaken, ← State.duressTargets_units keys, List.filter_map]
  rfl

theorem State.standsOpen_duress (u : UnitNo) : standsOpen ts u = decide (u ∈ s.duressTaken) := by
  rw [Bool.eq_iff_iff, decide_eq_true_iff, standsOpen_iff (fun t within => (State.duressTarget_spec keys within).2.2),
    ← State.duressTargets_live keys]
  simp only [List.mem_map, List.mem_filter, Bool.not_eq_true', decide_eq_false_iff_not]
  exact exists_congr fun t => ⟨fun ⟨within, own, live⟩ => ⟨⟨within, live⟩, own⟩,
    fun ⟨⟨within, live⟩, own⟩ => ⟨within, own, live⟩⟩

/-- Every SECURE unit joins behind the targets that stand (R177). -/
theorem State.mergedUnits : (s.secureUnits.foldl addTarget ts).map Target.unit =
    s.duressTaken ++ s.secureUnits.filter fun u => decide (u ∉ s.duressTaken) := by
  have spec {t : Target} (within : t ∈ ts) := State.duressTarget_spec keys within
  have apart : ∀ t ∈ ts, ∀ x ∈ ts, t.stage = .done → x.stage ≠ .done → t.unit ≠ x.unit := fun t ht x hx done live same => by
    have unusable := (spec ht).2.1.1 done
    rw [same] at unusable
    exact live ((spec hx).2.1.2 unusable)
  have live : (ts.filter fun t => decide (t.stage = .done → t.unit ∉ s.secureUnits)) =
      ts.filter fun t => !decide (t.stage = .done) := by
    refine List.filter_congr fun t within => ?_
    have secure := State.mem_secureUnits.2 (State.mem_duressNamed (spec within).1)
    simp [secure]
  rw [foldl_addTarget_units _ s.nodup_secureUnits ts (fun t within => (spec within).2.2) apart, live,
    State.duressTargets_live keys]
  refine congrArg _ (List.filter_congr fun u _ => ?_)
  rw [State.standsOpen_duress keys]
  simp

end Merge

/-- What the brute-force erase leaves that joins the erase of a DURESS match. -/
structure State.joins (s d m : State) : Prop where
  session : m.control.session = false
  buffer : d.entry.buffer = [] → m.entry.buffer = []
  attempt : m.attempt = { d.attempt with phase := .bruteForce, brute := .erasing }
  taken : ∀ v, d.unitState v = .closing ∨ d.unitState v = .erasing → m.unitState v = .closing ∨ m.unitState v = .erasing
  record : ∃ i, m.erase.internal = some i ∧ i.requesters = [.duress, .bruteForce] ∧
    i.targets.map Target.unit = s.duressTaken ++ s.secureUnits.filter fun u => decide (u ∉ s.duressTaken)

theorem State.duresses.joins {s d : State} (duresses : s.duresses d) (some_ : s.duressTaken ≠ []) :
    s.joins d d.startBrute := by
  have ready := d.bruteReady_bruteReadies
  have units : d.secureUnits = s.secureUnits := State.secureUnits_congr duresses.secure
  obtain ⟨j, internal, requesters, keys⟩ := duresses.targeted some_
  have spec {t : Target} (within : t ∈ j.targets) := State.duressTarget_spec keys within
  obtain ⟨only, keeps⟩ := mem_foldl_addTarget s.secureUnits j.targets
  have added : d.bruteReady.addTargets .bruteForce (d.bruteReady.secureAmong d.secureUnits) =
      d.bruteReady.withInternal ⟨s.secureUnits.foldl addTarget j.targets, [.duress, .bruteForce]⟩ := by
    rw [ready.secureAmong, units, State.addTargets_brute, ready.erase, internal, InternalErase.merge, requesters]
    rfl
  have run (v : UnitNo) : d.bruteReady.unitState v = d.unitState v := congrArg UnitRun.state (ready.unitRun v)
  have stopped : d.bruteReady.stopped := by
    rw [State.stopped, ready.erase]
    exact duresses.stopped
  have requested : d.bruteReady.requested d.startBrute
      ⟨s.secureUnits.foldl addTarget j.targets, [.duress, .bruteForce]⟩ := by
    rw [State.startBrute_eq]
    refine State.requestInternal_requested added (fun t within => ?_) (fun t within => ?_) ?_
    · rw [ready.isSecure, duresses.secure]
      rcases only t within with old | ⟨_, secure⟩
      · exact State.mem_duressNamed (spec old).1
      · exact State.mem_secureUnits.1 secure
    · rcases only t within with old | ⟨pending, _⟩
      · exact (spec old).2.2
      · rw [pending]
        exact (fun h => nomatch h)
    · obtain ⟨u, taken⟩ := List.exists_mem_of_ne_nil _ some_
      have stands : standsOpen j.targets u = true := by rw [State.standsOpen_duress keys, decide_eq_true taken]
      obtain ⟨t, within, -, live⟩ := (standsOpen_iff (fun t within => (spec within).2.2) u).1 stands
      exact ⟨t, keeps t within live, live⟩
  obtain ⟨session, -, buffer, -, attempt, -⟩ := ready.requested requested
  obtain ⟨i, record, requesters, keys'⟩ := requested.record
  refine ⟨session, buffer, attempt, fun v claimed => ?_, i, record, requesters,
    (units_of_keys keys').trans (State.mergedUnits keys)⟩
  by_cases pending : ⟨v, .pending⟩ ∈ s.secureUnits.foldl addTarget j.targets
  · rcases requested.claimed v pending with closing | erasing | ⟨-, same⟩
    · exact .inl closing
    · exact .inr erasing
    · rwa [same, run]
  · have same : d.startBrute.unitState v = d.unitState v :=
      (congrArg UnitRun.state (requested.others v pending (.inl stopped)).1).trans (run v)
    rwa [same]

end Sys2Proof.Machine
end

section
/-! The verdict of a match on DURESS: its internal erase and the failure path behind it (R93 to R99, R174). -/

namespace Sys2Proof.Machine

/-! ## A match on DURESS -/

namespace State.duresses

variable {s d : State} (duresses : s.duresses d)

include duresses

/-- Where the engine holds no unit for its list that still serves, every unit taken is claimed (R142). -/
theorem allClaimed (held : ∀ u, s.heldUnit = some u → s.unitState u = .closing ∨ s.unitState u = .erasing) :
    ∀ u ∈ s.duressTaken, d.unitState u = .closing ∨ d.unitState u = .erasing := by
  intro u taken
  rcases duresses.claimed u taken with closing | erasing | ⟨own, same⟩
  · exact .inl closing
  · exact .inr erasing
  · rw [same]
    exact held u own

/-- A unit that the internal erase skips keeps its fields (R86). -/
theorem unusable_kept {u : UnitNo} (unusable : (s.unitRun u).unusable = true) (free : s.heldUnit ≠ some u) :
    d.unitRun u = s.unitRun u ∧ d.unitDef u = s.unitDef u :=
  duresses.others u (fun taken => Bool.false_ne_true ((State.mem_duressTaken.1 taken).2.symm.trans unusable)) free

theorem targets (some_ : s.duressTaken ≠ []) : ∃ i, d.erase.internal = some i ∧ i.requesters = [.duress] ∧
    i.targets.map Target.unit = s.duressNamed ∧
    ∀ t ∈ i.targets, (s.unitRun t.unit).unusable = true → t.stage = .done := by
  obtain ⟨i, record, requesters, keys⟩ := duresses.targeted some_
  exact ⟨i, record, requesters, State.duressTargets_units keys,
    fun t within => (State.duressTarget_spec keys within).2.1.2⟩

theorem attempt : d.attempt = s.attempt := by
  obtain ⟨_, _, _, _, _, _, _, _, _, _, -, frame⟩ := duresses.frame
  rw [frame]

theorem entry : d.entry = s.entry := by
  obtain ⟨_, _, _, _, _, _, _, _, _, _, -, frame⟩ := duresses.frame
  rw [frame]

theorem policy : d.store.image.policy = s.store.image.policy := by
  obtain ⟨_, _, _, _, _, _, _, _, _, _, -, frame⟩ := duresses.frame
  rw [frame]

theorem cred (k : SlotNo) : d.cred k = s.cred k := by
  obtain ⟨_, _, _, _, _, _, _, _, _, _, -, frame⟩ := duresses.frame
  rw [frame]
  rfl

end State.duresses

/-- What a failed attempt below the limit makes of `s` (R94 to R96). -/
structure State.failsBelow (s m : State) : Prop where
  fail : m.leds.fail = true
  buffer : m.entry.buffer = s.entry.buffer
  run : ∀ v, m.unitRun v = s.unitRun v
  record : ∀ v, m.unitDef v = s.unitDef v
  cred : ∀ k, m.cred k = s.cred k
  erase : m.erase = s.erase
  idle : s.attempt.failed ≤ s.store.image.policy.freeAttempts →
    m.attempt = { s.attempt with phase := .idle, penaltyTimer := none, brute := .none } ∧
      m.events = s.events.place (.attemptFailed s.attempt.failed)
  penalty : s.store.image.policy.freeAttempts < s.attempt.failed →
    m.attempt = { s.attempt with
      phase := .penalty, penaltyTimer := some (s.store.image.policy.penaltyDelay s.attempt.failed),
      replugDue := decide (s.store.image.policy.replugPoint ≤ s.attempt.failed), brute := .none } ∧
      m.events = (s.events.place (.attemptFailed s.attempt.failed)).place
        (.penaltyStart (s.store.image.policy.penaltyDelay s.attempt.failed))

theorem State.failedAttempt_failsBelow {s : State} (below : s.attempt.failed < s.store.image.policy.attemptLimit) :
    s.failsBelow s.failedAttempt := by
  rcases Nat.lt_or_ge s.store.image.policy.freeAttempts s.attempt.failed with above | free
  · rw [State.failedAttempt_penalty below above]
    exact ⟨rfl, rfl, fun _ => rfl, fun _ => rfl, fun _ => rfl, rfl,
      fun free => absurd free (Nat.not_le.2 above), fun _ => ⟨rfl, rfl⟩⟩
  · rw [State.failedAttempt_free below free]
    exact ⟨rfl, rfl, fun _ => rfl, fun _ => rfl, fun _ => rfl, rfl, fun _ => ⟨rfl, rfl⟩,
      fun above => absurd free (Nat.not_le.2 above)⟩

/-- What a match on DURESS makes of `s`: below the limit a failed attempt after the request of its erase, and else the brute-force
erase (R93, R99). -/
structure State.duressMatched (s m : State) : Prop where
  fail : m.leds.fail = true
  buffer : s.entry.buffer = [] → m.entry.buffer = []
  claimed : (∀ u, s.heldUnit = some u → s.unitState u = .closing ∨ s.unitState u = .erasing) →
    ∀ u ∈ s.duressTaken, m.unitState u = .closing ∨ m.unitState u = .erasing
  below : s.attempt.failed < s.store.image.policy.attemptLimit → ∃ d, s.duresses d ∧ d.failsBelow m
  session : s.store.image.policy.attemptLimit ≤ s.attempt.failed → m.control.session = false
  failed : s.store.image.policy.attemptLimit ≤ s.attempt.failed →
    ∃ q : EventQueue, m.events = q.place (.attemptFailed s.attempt.failed)
  joined : s.store.image.policy.attemptLimit ≤ s.attempt.failed → s.duressTaken ≠ [] →
    m.attempt = { s.attempt with phase := .bruteForce, brute := .erasing } ∧
      ∃ i, m.erase.internal = some i ∧ i.requesters = [.duress, .bruteForce] ∧
        i.targets.map Target.unit = s.duressTaken ++ s.secureUnits.filter fun u => decide (u ∉ s.duressTaken)
  alone : s.store.image.policy.attemptLimit ≤ s.attempt.failed → s.duressTaken = [] → s.secureUnits ≠ [] →
    m.attempt = { s.attempt with phase := .bruteForce, brute := .erasing } ∧
      ∃ i, m.erase.internal = some i ∧ i.requesters = [.bruteForce] ∧ i.targets.map Target.unit = s.secureUnits

theorem State.duressMatch_below (s : State) (below : s.attempt.failed < s.store.image.policy.attemptLimit) :
    s.duressMatch = (s.requestInternal .duress s.duressUnits).failedAttempt := if_neg (Nat.not_le.2 below)

theorem State.duressMatch_limit (s : State) (limit : s.store.image.policy.attemptLimit ≤ s.attempt.failed) :
    s.duressMatch =
      ((s.requestInternal .duress s.duressUnits).startBrute.place (.attemptFailed s.attempt.failed)).showFail := if_pos limit

theorem State.duressMatch_duressMatched {s : State} (alone : s.erase.internal = none) (once : s.duressUnits.Nodup) :
    s.duressMatched s.duressMatch := by
  have duresses := State.requestInternal_duresses alone once
  rcases Nat.lt_or_ge s.attempt.failed s.store.image.policy.attemptLimit with below | limit
  · rw [State.duressMatch_below s below]
    generalize s.requestInternal .duress s.duressUnits = d at *
    have fails := State.failedAttempt_failsBelow (s := d) (by rwa [duresses.attempt, duresses.policy])
    generalize d.failedAttempt = m at *
    refine ⟨fails.fail, fun empty => ?_, fun held u taken => ?_, fun _ => ⟨d, duresses, fails⟩, fun limit => ?_,
      fun limit => ?_, fun limit => ?_, fun limit => ?_⟩
    · rw [fails.buffer, duresses.entry, empty]
    · have same : m.unitState u = d.unitState u := congrArg UnitRun.state (fails.run u)
      rw [same]
      exact duresses.allClaimed held u taken
    all_goals exact absurd limit (Nat.not_le.2 below)
  · rw [State.duressMatch_limit s limit]
    generalize s.requestInternal .duress s.duressUnits = d at *
    have units : d.secureUnits = s.secureUnits := State.secureUnits_congr duresses.secure
    have entry := duresses.entry
    have attempt := duresses.attempt
    by_cases none_ : s.duressTaken = []
    · have brutes := State.startBrute_brutes (duresses.skipped none_)
      generalize d.startBrute = m at *
      refine ⟨rfl, fun empty => brutes.buffer (by rw [entry, empty]), fun _ u taken => ?_,
        fun below => absurd limit (Nat.not_le.2 below), fun _ => brutes.session, fun _ => ⟨m.events, rfl⟩,
        fun _ some_ => absurd none_ some_, fun _ _ some_ => ?_⟩
      · exact absurd (none_ ▸ taken) List.not_mem_nil
      · rw [← units] at some_ ⊢
        obtain ⟨attempt', -, -, record⟩ := brutes.erasing some_
        rw [attempt] at attempt'
        exact ⟨attempt', record⟩
    · have joins := duresses.joins none_
      generalize d.startBrute = m at *
      have attempt' := joins.attempt
      rw [attempt] at attempt'
      exact ⟨rfl, fun empty => joins.buffer (by rw [entry, empty]),
        fun held u taken => joins.taken u (duresses.allClaimed held u taken),
        fun below => absurd limit (Nat.not_le.2 below), fun _ => joins.session, fun _ => ⟨m.events, rfl⟩,
        fun _ _ => ⟨attempt', joins.record⟩, fun _ empty => absurd empty none_⟩

end Sys2Proof.Machine
end

section
/-! Verdicts, penalties and the end of start-up, settled (R90 to R99, R174, R207). -/

namespace Sys2Proof.Machine

/-- Settles O52: a verdict acts by F and by the slot matched, and the end of a penalty, of the clearing stage and of start-up by what
is due. -/
theorem verdictsAct : Obligations.VerdictsAct := by
  intro s powered
  dsimp only
  refine ⟨fun a running charging => ⟨fun none_ below free => ?_, fun none_ below above => ?_, fun none_ limit alone => ?_,
      fun k matched user => ?_, fun matched alone once => ?_⟩,
    fun c running clearing => ?_, fun phase timer => ⟨fun due => ?_, fun none_ => ?_⟩,
    fun step rerun marked owed undrained => ⟨fun below none_ => ?_, fun below some_ => ?_, fun limit alone some_ => ?_⟩,
    fun step phase undrained => ?_⟩
  · exact exec_charge_free powered running charging none_ below free
  · exact exec_charge_penalty powered running charging none_ below above
  · obtain ⟨t, m, runs, brutes, placed, shown⟩ := exec_charge_brute powered running charging none_ limit alone
    have events := brutes.events
    rw [placed] at events
    exact ⟨_, m, runs, m.leads_finish, brutes.session, events, brutes.of_shown shown⟩
  · have good := (s.written (.attempt a)).goodMatch_goodMatched k
    exact ⟨_, _, exec_charge_good powered running charging matched user, State.leads_finish _, good.entry, good.attempt,
      good.store, good.green, good.erase, good.units, good.cipher, good.events, good.openOrder, good.session, good.timer⟩
  · have acts := State.duressMatch_duressMatched (s := (s.written (.attempt a)).compared) alone once
    refine ⟨_, _, exec_charge_duress powered running charging matched, State.leads_finish _, acts.fail, acts.buffer rfl,
      acts.claimed, fun below => ?_, fun limit => ⟨acts.session limit, acts.failed limit, acts.joined limit, acts.alone limit⟩⟩
    obtain ⟨d, duresses, fails⟩ := acts.below below
    refine ⟨fun k => (fails.cred k).trans (duresses.cred k), fun u _ unusable free => ?_, fun none_ => ?_, fun some_ => ?_,
      d.events, fun free => ?_, fun above => ?_⟩
    · obtain ⟨run, record⟩ := duresses.unusable_kept unusable free
      exact ⟨(fails.run u).trans run, (fails.record u).trans record⟩
    · rw [fails.erase]
      exact duresses.skipped none_
    · rw [fails.erase]
      exact duresses.targets some_
    · have acted := fails.idle
      rw [duresses.attempt, duresses.policy] at acted
      exact acted free
    · have acted := fails.penalty
      rw [duresses.attempt, duresses.policy] at acted
      exact acted above
  · exact exec_clearing powered running clearing
  · exact exec_penaltyTimerExpiry_replug powered phase timer due
  · exact exec_penaltyTimerExpiry_idle powered phase timer none_
  · exact State.stepSix_leads_done undrained step rerun marked owed below none_
  · exact State.stepSix_leads_penalty undrained step rerun marked owed below some_
  · obtain ⟨m, leads, brutes⟩ := State.stepSix_leads_brute undrained step rerun marked owed limit alone
    obtain ⟨attempt, creds, -, record⟩ := brutes.erasing some_
    exact ⟨m, leads, by rw [brutes.power], attempt, creds, record⟩
  · exact State.finishStartUp_leads undrained step phase

end Sys2Proof.Machine
end

section
/-! Digit presses (R112, R117, R128). -/

namespace Sys2Proof.Machine

section DigitPress

variable {s : State} (d : Digit)

/-- The first digit starts an entry (R117). -/
theorem State.digitPress_idle (idle : s.entry.state = .idle) : s.digitPress d =
    (s.withEntry { s.entry with state := .collecting, buffer := [d], interKeyTimer := some 10 }).showPulse := if_pos idle

/-- The states in which a digit is appended (R117). -/
theorem EntryCtl.gathers_iff (c : EntryCtl) :
    c.gathers = true ↔ c = .collecting ∨ c = .enrollFirst ∨ c = .enrollConfirm := by cases c <;> simp [EntryCtl.gathers]

theorem EntryCtl.gathers_ne_idle {c : EntryCtl} (gathers : c.gathers = true) : c ≠ .idle := by
  rintro rfl
  exact Bool.noConfusion gathers

/-- A digit joins an entry that has room (R117). -/
theorem State.digitPress_appends (gathers : s.entry.state.gathers = true) (room : s.entry.buffer.length < 16) :
    s.digitPress d =
      (s.withEntry { s.entry with buffer := s.entry.buffer ++ [d], interKeyTimer := some 10 }).showPulse := by
  rw [State.digitPress, if_neg (EntryCtl.gathers_ne_idle gathers), if_pos gathers]
  exact if_pos room

/-- A digit that a full entry cannot take restarts the timer (R117). -/
theorem State.digitPress_full (gathers : s.entry.state.gathers = true) (full : 16 ≤ s.entry.buffer.length) :
    s.digitPress d = s.withEntry { s.entry with interKeyTimer := some 10 } := by
  rw [State.digitPress, if_neg (EntryCtl.gathers_ne_idle gathers), if_pos gathers]
  exact if_neg (Nat.not_lt.2 full)

/-- Elsewhere a digit changes nothing (R117). -/
theorem State.digitPress_ignored (busy : s.entry.state ≠ .idle) (deaf : s.entry.state.gathers = false) :
    s.digitPress d = s := by
  rw [State.digitPress, if_neg busy, if_neg (ne_true_of_eq_false deaf)]

end DigitPress

theorem Port.activity_standby (p : Port) : p.activity.standby = p.standby := by
  unfold Port.activity
  split <;> rfl

/-- The PULSE of a digit that an entry takes (R117, R130). -/
theorem State.holding_showPulse (s : State) (p : PadKey) (e : Entry) :
    ((s.holding p).withEntry e).showPulse = { s.holding p with
      entry := e, leds := { (s.holding p).leds with
        green := some .pulse,
        greenDisplay := if s.port.standby then s.leds.greenDisplay else ⟨some .pulseFeedback, 0⟩ } } := by
  rw [← s.port.activity_standby]
  rfl

/-- A digit press is delivered to the part with its key held (R112). -/
theorem exec_press_digit {s : State} {d : Digit} (powered : s.power.vbus = true)
    (up : s.scanner.isDown (.digit d) = false) (held : s.scanner.held = none) (clear : s.scanner.lockout = false)
    {m : State} (taken : (s.holding (.digit d)).digitPress d = m) :
    exec (.recognisedPress [.digit d]) s = .next m.finish :=
  taken ▸ exec_press_single (p := .digit d) powered up held clear

/-- Settles O54: the digit is delivered to the part with its key held, by the entry's state there. -/
theorem digitsAreCollected : Obligations.DigitsAreCollected := by
  intro s d powered up held clear
  have press {m : State} := exec_press_digit powered up held clear (m := m)
  have gathers_iff := s.entry.state.gathers_iff
  refine ⟨fun idle => ?_, fun gathers => ⟨fun room => ?_, fun full => ?_⟩, fun deaf => ?_⟩
  · exact press ((State.digitPress_idle (s := s.holding (.digit d)) d idle).trans (s.holding_showPulse _ _))
  · exact press ((State.digitPress_appends (s := s.holding (.digit d)) d (gathers_iff.2 gathers) room).trans
      (s.holding_showPulse _ _))
  · exact press (State.digitPress_full (s := s.holding (.digit d)) d (gathers_iff.2 gathers) full)
  · have busy : s.entry.state ≠ .idle := by rcases deaf with state | state | state | state <;> simp [state]
    have deaf : s.entry.state.gathers = false := by
      rcases deaf with state | state | state | state <;> rw [state] <;> rfl
    exact press (State.digitPress_ignored (s := s.holding (.digit d)) d busy deaf)

end Sys2Proof.Machine
end

section
/-! What does not read the scanner: what keys deliver does the same whatever the scanner holds (R118, R120, R124, R141, R147). -/

namespace Sys2Proof.Machine

/-- An operation acts beside the scanner: it neither reads nor changes it. -/
def besideScanner (f : State → State) : Prop := ∀ s k, f (s.withScanner k) = (f s).withScanner k

namespace besideScanner

/-! ## Branches and folds -/

theorem comp {f g : State → State} (hf : besideScanner f) (hg : besideScanner g) : besideScanner fun s => g (f s) :=
  fun s k => (congrArg g (hf s k)).trans (hg (f s) k)

theorem ite {c : State → Prop} [∀ s, Decidable (c s)] {f g : State → State} (hc : ∀ s k, c (s.withScanner k) = c s)
    (hf : besideScanner f) (hg : besideScanner g) : besideScanner fun s => if c s then f s else g s := by
  intro s k
  show (if c (s.withScanner k) then f (s.withScanner k) else g (s.withScanner k)) = _
  rw [hf, hg, ← apply_ite (State.withScanner · k)]
  simp only [hc]

theorem foldl {α : Type} {f : State → α → State} (h : ∀ x, besideScanner (f · x)) (l : List α) :
    besideScanner fun s => l.foldl f s := by
  induction l with
  | nil => exact fun _ _ => rfl
  | cons x xs ih => exact comp (h x) ih

/-! ## Closes (R141 to R143) -/

theorem releaseUnit (u : UnitNo) : besideScanner (State.releaseUnit · u) :=
  ite (fun _ _ => rfl) (comp (ite (fun _ _ => rfl) (fun _ _ => rfl) fun _ _ => rfl) (g := State.refreshLeds) fun _ _ => rfl)
    fun _ _ => rfl

theorem moveTarget (u : UnitNo) (a b : TargetStage) : besideScanner (State.moveTarget · u a b) := by
  intro s k
  show State.moveTarget _ u a b = (State.moveTarget s u a b).withScanner k
  unfold State.moveTarget
  rw [show (s.withScanner k).erase.internal = s.erase.internal from rfl]
  split <;> rfl

theorem markTarget (u : UnitNo) (g : TargetStage) : besideScanner (State.markTarget · u g) :=
  (moveTarget u g .marking).comp (g := fun s => (s.setMarker u (some .internal)).requestWrite (.unit u) [.internalMarker u])
    fun _ _ => rfl

theorem giveUp (u : UnitNo) : besideScanner (State.giveUp · u) :=
  ite (fun _ _ => rfl) (markTarget u .claiming) (ite (fun _ _ => rfl) (markTarget u .pending) (releaseUnit u))

theorem enterHalted (held : Option UnitNo) (o : Outcome) : besideScanner (State.enterHalted · held o) := by
  cases held with
  | none => exact fun _ _ => rfl
  | some u =>
    intro s k
    show State.enterHalted _ (some u) o = (State.enterHalted s (some u) o).withScanner k
    unfold State.enterHalted
    dsimp only
    rw [show (s.withScanner k).giveUp u = (s.giveUp u).withScanner k from giveUp u s k]
    rfl

theorem haltDescriptor (o : Outcome) : besideScanner (State.haltDescriptor · o) := by
  have outcome : besideScanner fun s =>
      if o = .stale then s else s.setCurrent fun d => { d with done := true, outcome := some o } :=
    ite (fun _ _ => rfl) (fun _ _ => rfl) fun _ _ => rfl
  exact fun s k => outcome.comp (enterHalted s.heldUnit o) s k

theorem descriptorDrained (d : Descriptor) : besideScanner (State.descriptorDrained · d) := by
  intro s k
  show State.descriptorDrained _ d = (State.descriptorDrained s d).withScanner k
  unfold State.descriptorDrained
  rw [show (s.withScanner k).stopFor d.work.method = s.stopFor d.work.method from rfl]
  split
  · exact haltDescriptor _ s k
  · rfl

theorem claimDrained (u : UnitNo) : besideScanner (State.claimDrained · u) := by
  have target : besideScanner fun s => if s.hasTarget u .claiming then s.markTarget u .claiming else s :=
    ite (fun _ _ => rfl) (markTarget u .claiming) fun _ _ => rfl
  have own (d : Descriptor) : besideScanner fun s =>
      if s.erase.stage = .claiming && d.unit = u then s.descriptorDrained d
      else if s.hasTarget u .claiming then s.markTarget u .claiming else s :=
    ite (fun _ _ => rfl) (descriptorDrained d) target
  refine ite (c := fun s => s.unitState u = .erasing) (fun _ _ => rfl) (fun s k => ?_) fun _ _ => rfl
  rw [show (s.withScanner k).currentDescriptor = s.currentDescriptor from rfl]
  split
  · exact own _ s k
  · exact target s k

theorem drainNow (u : UnitNo) : besideScanner (State.drainNow · u) :=
  have closed : besideScanner (State.endClose · u) := ite (fun _ _ => rfl) (fun _ _ => rfl) fun _ _ => rfl
  ite (fun _ _ => rfl) (closed.comp (claimDrained u)) fun _ _ => rfl

theorem releaseStage : besideScanner State.releaseStage := by
  intro s k
  unfold State.releaseStage
  rw [show (s.withScanner k).port.bulkOut = s.port.bulkOut from rfl]
  split
  · rw [show (s.withScanner k).entryOf = s.entryOf from rfl]
    split
    · split <;> rfl
    · rfl
  all_goals rfl

theorem closeUnit (c : CloseCause) (u : UnitNo) : besideScanner (State.closeUnit · c u) :=
  have ended : besideScanner fun s => (s.startClose u c).endCommands u .locked :=
    comp (f := fun s => ((s.startClose u c).withQueue _).discardBuffered u) (fun _ _ => rfl) releaseStage
  ite (fun _ _ => rfl) (ended.comp (drainNow u)) fun _ _ => rfl

theorem closeAll (c : CloseCause) : besideScanner (State.closeAll · c) :=
  foldl (f := fun s u => s.closeUnit c u) (closeUnit c) (List.finRange 8)

/-! ## The entry (R103 to R105, R118 to R120, R124, R125) -/

theorem abandonAny (r : AbandonReason) : besideScanner (State.abandonAny · r) := by
  intro s k
  show State.abandonAny _ r = (State.abandonAny s r).withScanner k
  unfold State.abandonAny
  rw [show (s.withScanner k).uncommitted = s.uncommitted from rfl]
  split <;> rfl

theorem closeSession : besideScanner State.closeSession :=
  have closed : besideScanner fun s => s.withControl { s.control with session := false, sessionTimer := none } :=
    fun _ _ => rfl
  ite (fun _ _ => rfl) (ite (fun _ _ => rfl) (closed.comp (abandonAny .session)) closed) fun _ _ => rfl

theorem lockEntry : besideScanner State.lockEntry := by
  intro s k
  unfold State.lockEntry
  rw [show (s.withScanner k).entry.state = s.entry.state from rfl]
  split
  · rfl
  · exact abandonAny .lock s k
  · exact abandonAny .lock s k
  all_goals rfl

theorem lockPress : besideScanner State.lockPress := by
  intro s k
  have entry : (s.withScanner k).lockEntry = s.lockEntry.withScanner k := lockEntry s k
  have closed : (s.lockEntry.withScanner k).closeAll .lockKey = (s.lockEntry.closeAll .lockKey).withScanner k :=
    closeAll .lockKey _ k
  rw [State.lockPress, entry, closed]
  exact closeSession _ k

theorem digitPress (d : Digit) : besideScanner (State.digitPress · d) :=
  ite (fun _ _ => rfl) (fun _ _ => rfl)
    (ite (fun _ _ => rfl) (ite (fun _ _ => rfl) (fun _ _ => rfl) fun _ _ => rfl) fun _ _ => rfl)

theorem confirmEnds : besideScanner State.confirmEnds := by
  intro s k
  unfold State.confirmEnds
  dsimp only [State.withScanner_entry]
  split
  · rename_i first t _ _
    rw [show (s.withScanner k).enrollCheck first s.entry.buffer = s.enrollCheck first s.entry.buffer from rfl]
    split
    · rfl
    · exact abandonAny _ s k
  · rfl

theorem keyPress : besideScanner State.keyPress := by
  have collected : besideScanner fun s =>
      if s.entry.buffer.length < s.store.image.policy.minPin then
        ((s.clearEntry).withEntry { s.clearEntry.entry with state := .idle }).showFail
      else (s.withEntry { s.entry with state := .verifying, interKeyTimer := none }).charge :=
    ite (fun _ _ => rfl) (fun _ _ => rfl) fun _ _ => rfl
  have first : besideScanner fun s => if s.entry.buffer.isEmpty then s else s.firstEntryEnds :=
    ite (fun _ _ => rfl) (fun _ _ => rfl) fun _ _ => rfl
  have confirm : besideScanner fun s => if s.entry.buffer.isEmpty then s else s.confirmEnds :=
    ite (fun _ _ => rfl) (fun _ _ => rfl) confirmEnds
  intro s k
  unfold State.keyPress
  rw [show (s.withScanner k).entry.state = s.entry.state from rfl]
  split
  · exact collected s k
  · exact first s k
  · exact confirm s k
  all_goals rfl

theorem keyActivity : besideScanner State.keyActivity := ite (fun _ _ => rfl) (fun _ _ => rfl) fun _ _ => rfl

end besideScanner

end Sys2Proof.Machine
end

section
/-! What a sample of the keys and the switch makes of the scanner, and what of it is delivered (R110 to R115). -/

namespace Sys2Proof.Machine

/-! ## One sample against a stable level (R111) -/

theorem debounce_same (stable : Bool) (run : Nat) : debounce stable run stable = (stable, 0) := if_pos rfl

theorem debounce_counts {stable sample : Bool} {run : Nat} (other : sample ≠ stable) (few : run < 2) :
    debounce stable run sample = (stable, run + 1) := by
  rw [debounce, if_neg other, if_neg (Nat.not_le.2 few)]

theorem debounce_turns {stable sample : Bool} {run : Nat} (other : sample ≠ stable) (third : 2 ≤ run) :
    debounce stable run sample = (sample, 0) := by
  rw [debounce, if_neg other, if_pos third]

/-! ## The keys that a sample recognises -/

/-- The sample is the third in a row that has the key at a new level (R111). -/
def Scanner.turns (k : Scanner) (keys : BitVec 12) (i : Fin 12) (down : Bool) : Bool :=
  decide (keys.getLsbD i.val = down) && decide (k.down[i] ≠ down) && decide (2 ≤ k.run[i])

theorem Scanner.turns_iff (k : Scanner) (keys : BitVec 12) (i : Fin 12) (down : Bool) :
    k.turns keys i down = true ↔ keys.getLsbD i.val = down ∧ k.down[i] ≠ down ∧ 2 ≤ k.run[i] := by
  simp only [Scanner.turns, Bool.and_eq_true, decide_eq_true_eq, and_assoc]

theorem Scanner.mem_recognised (k : Scanner) (keys : BitVec 12) (down : Bool) (p : PadKey) :
    p ∈ k.recognised keys down ↔ k.turns keys (padIndex p) down = true := by
  have within : p ∈ allKeys := by cases p <;> simp [allKeys]
  exact List.mem_filter.trans (and_iff_right within)

theorem Scanner.recognised_perm {k : Scanner} {keys : BitVec 12} {down : Bool} {ps : List PadKey} (once : ps.Nodup)
    (turning : ∀ p, p ∈ ps ↔ k.turns keys (padIndex p) down = true) : (k.recognised keys down).Perm ps := by
  have keysOnce : allKeys.Nodup := by decide
  refine (List.perm_ext_iff_of_nodup (keysOnce.filter _) once).2 fun p => ?_
  exact (k.mem_recognised keys down p).trans (turning p).symm

/-- The scanner with each run that the sample leaves under way counted, and the others at 0 (R111). -/
def Scanner.counted (k : Scanner) (keys : BitVec 12) : Scanner := { k with
  run := Vector.ofFn fun i => if keys.getLsbD i.val = k.down[i] ∨ 2 ≤ k.run[i] then 0 else k.run[i] + 1 }

/-- The scanner with the switch's run at 0. -/
def Scanner.calm (k : Scanner) : Scanner := { k with switchRun := 0 }

theorem Scanner.sampled_run (k : Scanner) (keys : BitVec 12) : (k.sampled keys).run = (k.counted keys).run := by
  refine Vector.ext fun i h => ?_
  simp only [Scanner.sampled, Scanner.counted, Vector.getElem_ofFn, debounce]
  split
  · next same => exact (if_pos (.inl same)).symm
  · next other =>
    split
    · next third => exact (if_pos (.inr third)).symm
    · next few => exact (if_neg (not_or.2 ⟨other, few⟩)).symm

theorem Scanner.sampled_down (k : Scanner) (keys : BitVec 12) (i : Fin 12) : (k.sampled keys).down[i] =
    if k.turns keys i true then true else if k.turns keys i false then false else k.down[i] := by
  have sampled : (k.sampled keys).down[i] = (debounce k.down[i] k.run[i] (keys.getLsbD i.val)).1 := Vector.getElem_ofFn i.isLt
  rw [sampled]
  unfold debounce Scanner.turns
  generalize keys.getLsbD i.val = sample
  generalize k.down[i] = stable
  generalize k.run[i] = run
  by_cases same : sample = stable
  · subst same
    cases sample with
    | true | false => simp
  · have other : stable = !sample := Bool.eq_not.2 (Ne.symm same)
    by_cases third : 2 ≤ run
    · cases sample with
      | true | false => simp [other, third]
    · simp [same, third]

/-! ## Levels that change together -/

theorem getElem_foldl_set {α : Type} (x : α) (ps : List PadKey) (v : Vector α 12) (i : Fin 12) :
    (ps.foldl (fun v p => v.set (padIndex p) x) v)[i] = if ∃ p ∈ ps, padIndex p = i then x else v[i] := by
  induction ps generalizing v with
  | nil => simp
  | cons p ps ih =>
    rw [List.foldl_cons, ih]
    by_cases own : padIndex p = i
    · subst own
      simp
    · have kept : (v.set (padIndex p) x)[i] = v[i] :=
        Vector.getElem_set_ne (padIndex p).isLt i.isLt fun same => own (Fin.ext same)
      simp [own, kept]

theorem Scanner.foldl_setLevel (down : Bool) (ps : List PadKey) (k : Scanner) :
    ps.foldl (fun k p => k.setLevel p down) k = { k with
      down := ps.foldl (fun v p => v.set (padIndex p) down) k.down,
      run := ps.foldl (fun v p => v.set (padIndex p) 0) k.run } := by
  induction ps generalizing k with
  | nil => rfl
  | cons p ps ih => exact ih (k.setLevel p down)

section Sampled

variable {k : Scanner} {keys : BitVec 12} {ps rs : List PadKey}
  (presses : ∀ p, p ∈ ps ↔ k.turns keys (padIndex p) true = true)
  (releases : ∀ p, p ∈ rs ↔ k.turns keys (padIndex p) false = true)

include presses releases

/-- What is set for the keys that a sample recognises. -/
theorem getElem_set_recognised {α : Type} (x y : α) (v : Vector α 12) (i : Fin 12) :
    (ps.foldl (fun v p => v.set (padIndex p) x) (rs.foldl (fun v p => v.set (padIndex p) y) v))[i] =
      if k.turns keys i true then x else if k.turns keys i false then y else v[i] := by
  have index {qs : List PadKey} {down : Bool} (turning : ∀ p, p ∈ qs ↔ k.turns keys (padIndex p) down = true) :
      (∃ p ∈ qs, padIndex p = i) ↔ k.turns keys i down = true := by
    constructor
    · rintro ⟨p, within, rfl⟩
      exact (turning p).1 within
    · intro turns
      obtain ⟨p, -, rfl⟩ := exists_padIndex i
      exact ⟨p, (turning p).2 turns, rfl⟩
  simp only [getElem_foldl_set, index presses, index releases]

/-- A sample counts the runs and turns the levels of the keys that it recognises (R111). -/
theorem Scanner.sampled_calm : (k.sampled keys).calm =
    ps.foldl Scanner.pressed (rs.foldl (fun k p => k.setLevel p false) (k.counted keys).calm) := by
  have levels : (k.sampled keys).down = ps.foldl (fun v p => v.set (padIndex p) true)
      (rs.foldl (fun v p => v.set (padIndex p) false) k.down) :=
    Vector.ext fun i h => (k.sampled_down keys ⟨i, h⟩).trans
      (getElem_set_recognised presses releases true false k.down ⟨i, h⟩).symm
  have zero (down : Bool) (i : Fin 12) (turns : k.turns keys i down = true) : (k.counted keys).run[i] = 0 :=
    (Vector.getElem_ofFn i.isLt).trans (if_pos (.inr ((k.turns_iff keys i down).1 turns).2.2))
  have runs : (k.counted keys).run = ps.foldl (fun v p => v.set (padIndex p) 0)
      (rs.foldl (fun v p => v.set (padIndex p) 0) (k.counted keys).run) := by
    refine Vector.ext fun i h => Eq.trans ?_ (getElem_set_recognised presses releases 0 0 _ ⟨i, h⟩).symm
    split
    · next turns => exact zero true ⟨i, h⟩ turns
    · split
      · next turns => exact zero false ⟨i, h⟩ turns
      · rfl
  rw [Scanner.foldl_setLevel false]
  refine Eq.trans ?_ (Scanner.foldl_setLevel true ps _).symm
  show { k.sampled keys with switchRun := 0 } = { k.counted keys with
    down := ps.foldl (fun v p => v.set (padIndex p) true) (rs.foldl (fun v p => v.set (padIndex p) false) k.down),
    run := ps.foldl (fun v p => v.set (padIndex p) 0)
      (rs.foldl (fun v p => v.set (padIndex p) 0) (k.counted keys).run),
    switchRun := 0 }
  rw [← levels, ← runs, ← k.sampled_run]
  rfl

end Sampled

end Sys2Proof.Machine
end

section
/-! What the scanner delivers, and what it keeps for itself, at releases and presses (R112 to R114). -/

namespace Sys2Proof.Machine

theorem besideScanner.scanner {f : State → State} (hf : besideScanner f) (s : State) : (f s).scanner = s.scanner :=
  have same : f s = (f s).withScanner s.scanner := hf s s.scanner
  (congrArg State.scanner same).trans rfl

/-! ## Releases -/

/-- The scanner after a release (R112). -/
def Scanner.released (k : Scanner) (p : PadKey) : Scanner :=
  if k.held = some p then { k with held := none, holdTimer := none } else k

/-- A release delivers a KEY press (R114). -/
def Scanner.deliversKey (k : Scanner) (p : PadKey) : Bool :=
  decide (k.held = some p) && (decide (p = .key) && k.holdTimer.isSome)

/-- A release acts on the scanner and, where it delivers a KEY press, on the rest. -/
theorem State.takeRelease_withScanner (s : State) (k : Scanner) (p : PadKey) : (s.withScanner k).takeRelease p =
    (if k.deliversKey p then s.keyPress else s).withScanner (k.released p) := by
  unfold State.takeRelease Scanner.released Scanner.deliversKey
  by_cases held : k.held = some p
  · by_cases early : (decide (p = .key) && k.holdTimer.isSome) = true
    · simp only [State.withScanner_scanner, held, early, if_true, decide_true, Bool.and_self]
      exact besideScanner.keyPress s _
    · simp only [State.withScanner_scanner, held, early, if_true, decide_true, Bool.and_false, if_false,
        Bool.false_eq_true]
      rfl
  · simp only [State.withScanner_scanner, held, if_false, decide_false, Bool.false_and, Bool.false_eq_true]

/-! ## Presses -/

/-- A press can be acted on: no key is held and lockout is clear (R112, R113). -/
def Scanner.free (k : Scanner) : Bool := decide (k.held = none) && !k.lockout

/-- The scanner after the presses recognised in one sample (R112 to R114). -/
def Scanner.taking (k : Scanner) : List PadKey → Scanner
  | [] => k
  | [p] => if k.free then { k with held := some p, holdTimer := if p = .key then some holdTime else none } else k
  | _ :: _ :: _ => if k.free then { k with lockout := true } else k

/-- What a key that becomes held delivers (R112, R114). -/
def State.delivering (s : State) : PadKey → State
  | .digit d => s.digitPress d
  | .lock => s.lockPress
  | .key => s

/-- What the presses recognised in one sample deliver (R112, R113). -/
def State.pressing (s : State) (free : Bool) : List PadKey → State
  | [] => s
  | [p] => if free then s.keyActivity.delivering p else s.keyActivity
  | _ :: _ :: _ => s.keyActivity

theorem besideScanner.delivering (p : PadKey) : besideScanner (State.delivering · p) := by
  cases p with
  | digit d => exact besideScanner.digitPress d
  | lock => exact besideScanner.lockPress
  | key => exact fun _ _ => rfl

/-- Presses act on the scanner and, by what they deliver, on the rest. -/
theorem State.takePresses_withScanner (s : State) (k : Scanner) (ps : List PadKey) : (s.withScanner k).takePresses ps =
    (s.pressing k.free ps).withScanner (k.taking ps) := by
  have active : (s.withScanner k).keyActivity = s.keyActivity.withScanner k := besideScanner.keyActivity s k
  match ps with
  | [] => rfl
  | [p] =>
    show (if k.free then (s.withScanner k).keyActivity.holdKey p else (s.withScanner k).keyActivity) =
      (if k.free then s.keyActivity.delivering p else s.keyActivity).withScanner (k.taking [p])
    rw [active, Scanner.taking]
    split
    · exact besideScanner.delivering p s.keyActivity _
    · rfl
  | _ :: _ :: _ =>
    show (if k.free then (s.withScanner k).keyActivity.withScanner _ else (s.withScanner k).keyActivity) =
      s.keyActivity.withScanner (if k.free then _ else k)
    rw [active]
    split <;> rfl

theorem State.takePresses_perm {ps qs : List PadKey} (same : ps.Perm qs) (s : State) :
    s.takePresses ps = s.takePresses qs := by
  match ps, qs, same.length_eq with
  | [], [], _ => rfl
  | [p], [q], _ => rw [List.singleton_perm_singleton.1 same]
  | _ :: _ :: _, _ :: _ :: _, _ => rfl

/-! ## Lockout and the switch -/

/-- The scanner with lockout as its keys leave it (R113). -/
def Scanner.unlocked (k : Scanner) : Scanner :=
  { k with lockout := if ∀ i : Fin 12, k.down[i] = false then false else k.lockout }

theorem State.clearLockout_withScanner (s : State) (k : Scanner) :
    (s.withScanner k).clearLockout = s.withScanner k.unlocked := State.clearLockout_eq _

theorem Scanner.unlocked_of_clear {k : Scanner} (clear : k.lockout = false) : k.unlocked = k := by
  rw [Scanner.unlocked, clear, ite_self, ← clear]

theorem Scanner.unlocked_of_down {k : Scanner} {i : Fin 12} (down : k.down[i] = true) : k.unlocked = k := by
  rw [Scanner.unlocked, if_neg fun up => Bool.noConfusion ((up i).symm.trans down)]

/-- A sample of the switch at its stable level leaves its run at 0 (R111). -/
theorem State.sampleSwitch_same (s : State) {k : Scanner} (sampled : k.switchSampled = true) :
    (s.withScanner k).sampleSwitch k.switchOn = s.withScanner k.calm := by
  unfold State.sampleSwitch
  rw [State.withScanner_scanner, if_pos sampled, debounce_same]
  exact if_pos rfl

theorem Scanner.calm_released (k : Scanner) (p : PadKey) : (k.released p).calm = k.calm.released p := by
  unfold Scanner.released
  by_cases held : k.held = some p
  · rw [if_pos held, if_pos (show k.calm.held = some p from held)]
    rfl
  · rw [if_neg held, if_neg (show ¬ k.calm.held = some p from held)]

theorem Scanner.calm_taking (k : Scanner) (ps : List PadKey) : (k.taking ps).calm = k.calm.taking ps := by
  match ps with
  | [] => rfl
  | [p] => exact apply_ite Scanner.calm _ _ _
  | _ :: _ :: _ => exact apply_ite Scanner.calm _ _ _

/-! ## The order of releases and presses -/

theorem Scanner.foldl_pressed_released (ps : List PadKey) (k : Scanner) (r : PadKey) :
    (ps.foldl Scanner.pressed k).released r = ps.foldl Scanner.pressed (k.released r) := by
  induction ps generalizing k with
  | nil => rfl
  | cons p ps ih =>
    have one : (k.released r).pressed p = (k.pressed p).released r := by
      unfold Scanner.released
      by_cases held : k.held = some r
      · rw [if_pos held, if_pos (show (k.pressed p).held = some r from held)]
        rfl
      · rw [if_neg held, if_neg (show ¬ (k.pressed p).held = some r from held)]
    exact (ih (k.pressed p)).trans (congrArg (ps.foldl Scanner.pressed) one.symm)

/-- A key that is pressed is down. -/
theorem Scanner.foldl_pressed_down {ps : List PadKey} {p : PadKey} (within : p ∈ ps) (k : Scanner) :
    (ps.foldl Scanner.pressed k).down[padIndex p] = true := by
  rw [show ps.foldl Scanner.pressed k = _ from Scanner.foldl_setLevel true ps k]
  exact (getElem_foldl_set true ps k.down (padIndex p)).trans (if_pos ⟨p, within, rfl⟩)

theorem Scanner.taking_down (k : Scanner) (ps : List PadKey) : (k.taking ps).down = k.down := by
  match ps with
  | [] => rfl
  | [p] => exact (apply_ite Scanner.down _ _ _).trans (ite_self _)
  | _ :: _ :: _ => exact (apply_ite Scanner.down _ _ _).trans (ite_self _)

theorem Scanner.released_lockout (k : Scanner) (p : PadKey) : (k.released p).lockout = k.lockout :=
  (apply_ite Scanner.lockout _ _ _).trans (ite_self _)

end Sys2Proof.Machine
end

section
/-! Samples of the keys and the switch: levels and runs (R111), and the commands that tell what a sample recognises (R112 to
R115). -/

namespace Sys2Proof.Machine

/-! ## The levels and runs that a sample leaves (R111) -/

/-- What a sample changes of the scanner beside the held key and lockout. -/
def Scanner.levels (k : Scanner) : Vector Bool 12 × Vector Nat 12 × Bool × Bool × Nat :=
  (k.down, k.run, k.switchOn, k.switchSampled, k.switchRun)

theorem Scanner.released_levels (k : Scanner) (p : PadKey) : (k.released p).levels = k.levels :=
  (apply_ite Scanner.levels _ _ _).trans (ite_self _)

theorem Scanner.taking_levels (k : Scanner) (ps : List PadKey) : (k.taking ps).levels = k.levels := by
  match ps with
  | [] => rfl
  | [p] => exact (apply_ite Scanner.levels _ _ _).trans (ite_self _)
  | _ :: _ :: _ => exact (apply_ite Scanner.levels _ _ _).trans (ite_self _)

/-- Releases leave the levels to the sample. -/
theorem State.foldl_takeRelease_levels (ps : List PadKey) (s : State) :
    (ps.foldl State.takeRelease s).scanner.levels = s.scanner.levels := by
  induction ps generalizing s with
  | nil => rfl
  | cons p ps ih =>
    have one : (s.takeRelease p).scanner = s.scanner.released p :=
      (congrArg State.scanner (s.takeRelease_withScanner s.scanner p)).trans rfl
    rw [List.foldl_cons, ih, one, Scanner.released_levels]

/-- The scanner's levels and runs once the keys of a sample are taken, and before the switch (R111). -/
theorem State.keysTaken_levels (s : State) (k : Scanner) (rs ps : List PadKey) :
    ((rs.foldl State.takeRelease (s.withScanner k)).takePresses ps).clearLockout.scanner.levels = k.levels := by
  have released := State.foldl_takeRelease_levels rs (s.withScanner k)
  generalize rs.foldl State.takeRelease (s.withScanner k) = e at *
  have taken : (e.takePresses ps).scanner = e.scanner.taking ps :=
    (congrArg State.scanner (e.takePresses_withScanner e.scanner ps)).trans rfl
  rw [State.clearLockout_eq]
  show (e.takePresses ps).scanner.levels = _
  rw [taken, Scanner.taking_levels, released]
  rfl

/-- The switch's level and run after a sample (R110, R111). -/
theorem State.sampleSwitch_scanner (s : State) (on : Bool) : (s.sampleSwitch on).scanner = { s.scanner with
    switchOn := if s.scanner.switchSampled then (debounce s.scanner.switchOn s.scanner.switchRun on).1 else on,
    switchSampled := true,
    switchRun := if s.scanner.switchSampled then (debounce s.scanner.switchOn s.scanner.switchRun on).2 else 0 } := by
  unfold State.sampleSwitch
  split
  · next sampled =>
    by_cases same : on = s.scanner.switchOn
    · subst same
      simp [debounce_same, ← sampled]
    · by_cases third : 2 ≤ s.scanner.switchRun
      · simp [debounce_turns same third, same, State.switchChanged, State.place, ← sampled]
      · simp [debounce_counts same (Nat.not_le.1 third), ← sampled]
  · rfl

theorem exec_scanSample {s : State} (powered : s.power.vbus = true) (keys : BitVec 12) (on : Bool) :
    exec (.scanSample keys on) s = .next (s.sampleKeys keys on).finish := by
  show execScanSample keys on s = _
  rw [execScanSample, State.act_powered _ powered]

/-- The levels and runs of a sample stand after the part's own events. -/
theorem State.sampleKeys_levels {s t : State} {keys : BitVec 12} {on : Bool} (leads : (s.sampleKeys keys on).leads t) :
    t.scanner.down = (s.scanner.sampled keys).down ∧ t.scanner.run = (s.scanner.sampled keys).run ∧
      t.scanner.switchOn =
        (if s.scanner.switchSampled then (debounce s.scanner.switchOn s.scanner.switchRun on).1 else on) ∧
      t.scanner.switchSampled = true ∧
      t.scanner.switchRun =
        if s.scanner.switchSampled then (debounce s.scanner.switchOn s.scanner.switchRun on).2 else 0 := by
  have levels := s.keysTaken_levels (s.scanner.sampled keys) (s.scanner.recognised keys false)
    (s.scanner.recognised keys true)
  rw [show t.scanner = (s.sampleKeys keys on).scanner from congrArg Outer.scanner leads.outer]
  unfold State.sampleKeys
  dsimp only
  rw [State.sampleSwitch_scanner]
  generalize State.clearLockout _ = e at *
  simp only [Scanner.levels, Prod.mk.injEq] at levels
  obtain ⟨down, run, switchOn, switchSampled, switchRun⟩ := levels
  dsimp only
  rw [switchOn, switchSampled, switchRun]
  exact ⟨down, run, rfl, rfl, rfl⟩

end Sys2Proof.Machine
end

section
/-! The commands that tell what a sample of the keys recognises, and the switch's change within a sample (R112 to R115). -/

namespace Sys2Proof.Machine

/-! ## Keys -/

theorem Scanner.sampled_key (k : Scanner) (keys : BitVec 12) (i : Fin 12) :
    (k.sampled keys).down[i] = (debounce k.down[i] k.run[i] (keys.getLsbD i.val)).1 ∧
      (k.sampled keys).run[i] = (debounce k.down[i] k.run[i] (keys.getLsbD i.val)).2 :=
  ⟨Vector.getElem_ofFn i.isLt, Vector.getElem_ofFn i.isLt⟩

/-- The presses, lockout and the switch at its stable level, in the order in which a sample takes them (R112, R113). -/
theorem State.pressed_unlocked_switched (s : State) {k : Scanner} (sampled : k.switchSampled = true) (ps : List PadKey) :
    (((s.withScanner k).takePresses ps).clearLockout).sampleSwitch k.switchOn =
      (s.pressing k.free ps).withScanner (k.calm.taking ps).unlocked := by
  have levels := k.taking_levels ps
  simp only [Scanner.levels, Prod.mk.injEq] at levels
  obtain ⟨-, -, on, switchSampled, -⟩ := levels
  rw [State.takePresses_withScanner, State.clearLockout_withScanner, ← k.calm_taking]
  have switch := State.sampleSwitch_same (s.pressing k.free ps) (k := (k.taking ps).unlocked) (switchSampled.trans sampled)
  rw [show (k.taking ps).unlocked.switchOn = k.switchOn from on] at switch
  exact switch

/-- After a release a press can be acted on where lockout is clear, and no key was held but the one released (R112). -/
theorem Scanner.free_released (k : Scanner) (r : PadKey) :
    (k.released r).free = (decide (k.held = none ∨ k.held = some r) && !k.lockout) := by
  unfold Scanner.released Scanner.free
  by_cases held : k.held = some r
  · simp [held]
  · simp [held]

section Recognised

variable {s : State} {keys : BitVec 12} {ps : List PadKey} (sampled : s.scanner.switchSampled = true) (once : ps.Nodup)
  (presses : ∀ p, p ∈ ps ↔ s.scanner.turns keys (padIndex p) true = true)

include sampled once presses

/-- A sample that recognises no release. -/
theorem State.sampleKeys_presses (none_ : ∀ p, ¬ s.scanner.turns keys (padIndex p) false = true) :
    s.sampleKeys keys s.scanner.switchOn = (s.pressing s.scanner.free ps).withScanner
      ((ps.foldl Scanner.pressed (s.scanner.counted keys).calm).taking ps).unlocked := by
  have released : s.scanner.recognised keys false = [] :=
    List.perm_nil.1 (Scanner.recognised_perm (ps := []) List.nodup_nil (by simpa using none_))
  have calm := Scanner.sampled_calm (rs := []) presses (by simpa using none_)
  unfold State.sampleKeys
  dsimp only
  rw [released, List.foldl_nil, State.takePresses_perm (Scanner.recognised_perm once presses)]
  rw [List.foldl_nil] at calm
  rw [← calm]
  exact s.pressed_unlocked_switched (k := s.scanner.sampled keys) sampled ps

/-- A sample that recognises the release of one key. -/
theorem State.sampleKeys_release {r : PadKey} (release : ∀ p, s.scanner.turns keys (padIndex p) false = true ↔ p = r) :
    s.sampleKeys keys s.scanner.switchOn =
      ((if s.scanner.deliversKey r then s.keyPress else s).pressing (s.scanner.released r).free ps).withScanner
        ((ps.foldl Scanner.pressed (((s.scanner.counted keys).calm.setLevel r false).released r)).taking ps).unlocked := by
  have single : ∀ p, p ∈ [r] ↔ s.scanner.turns keys (padIndex p) false = true :=
    fun p => List.mem_singleton.trans (release p).symm
  have released : s.scanner.recognised keys false = [r] :=
    List.perm_singleton.1 (Scanner.recognised_perm (List.nodup_singleton r) single)
  have calm := Scanner.sampled_calm presses single
  rw [List.foldl_cons, List.foldl_nil] at calm
  have levels := (s.scanner.sampled keys).released_levels r
  simp only [Scanner.levels, Prod.mk.injEq] at levels
  obtain ⟨-, -, on, switchSampled, -⟩ := levels
  unfold State.sampleKeys
  dsimp only
  rw [released, List.foldl_cons, List.foldl_nil, State.takeRelease_withScanner,
    State.takePresses_perm (Scanner.recognised_perm once presses)]
  rw [← Scanner.foldl_pressed_released, ← calm, ← Scanner.calm_released,
    show (s.scanner.released r).free = ((s.scanner.sampled keys).released r).free by
      rw [Scanner.free_released, Scanner.free_released]; rfl,
    show s.scanner.switchOn = ((s.scanner.sampled keys).released r).switchOn from on.symm]
  exact State.pressed_unlocked_switched _ (switchSampled.trans sampled) ps

end Recognised

/-! ## The commands that tell them -/

section Told

variable {s : State} {k : Scanner} (powered : s.power.vbus = true) {ps : List PadKey} (some_ : ps ≠ [])

include powered some_

/-- Presses, told as one command to a part whose scanner holds `k`. -/
theorem exec_recognisedPress_withScanner (up : ∀ p ∈ ps, k.isDown p = false) :
    exec (.recognisedPress ps) (s.withScanner k) =
      .next ((s.pressing k.free ps).withScanner ((ps.foldl Scanner.pressed k).taking ps).unlocked).finish := by
  obtain ⟨p, within⟩ := List.exists_mem_of_ne_nil ps some_
  obtain ⟨held, lockout⟩ := foldl_pressed ps k
  have down : ((ps.foldl Scanner.pressed k).taking ps).down[padIndex p] = true := by
    rw [Scanner.taking_down]
    exact Scanner.foldl_pressed_down within k
  have free : (ps.foldl Scanner.pressed k).free = k.free := by rw [Scanner.free, Scanner.free, held, lockout]
  rw [exec_recognisedPress (s := s.withScanner k) powered up, Scanner.unlocked_of_down down, ← free]
  exact congrArg (fun m => Host.Outcome.next (State.finish m)) (s.takePresses_withScanner _ ps)

end Told

/-- A release, told as one command to a part whose scanner holds `k`. -/
theorem exec_recognisedRelease_withScanner {s : State} {k : Scanner} {r : PadKey} (powered : s.power.vbus = true)
    (down : k.isDown r = true) : exec (.recognisedRelease r) (s.withScanner k) =
      .next ((if k.deliversKey r then s.keyPress else s).withScanner
        ((k.setLevel r false).released r).unlocked).refreshLeds :=
  (exec_recognisedRelease (s := s.withScanner k) powered down (s.takeRelease_withScanner (k.setLevel r false) r)).trans
    (congrArg (fun m => Host.Outcome.next (State.refreshLeds m)) (State.clearLockout_withScanner _ _))

end Sys2Proof.Machine
end

section
/-! What a sample of the keys recognises, told as commands of its own (R112 to R115). -/

namespace Sys2Proof.Machine

section Sampled

variable {s : State} (powered : s.power.vbus = true) {keys : BitVec 12} {ps : List PadKey}
  (sampled : s.scanner.switchSampled = true) (once : ps.Nodup)
  (presses : ∀ p, p ∈ ps ↔ s.scanner.turns keys (padIndex p) true = true)

include powered sampled once presses

/-- A sample that recognises presses alone acts as their command does (R112, R113). -/
theorem exec_scanSample_presses (some_ : ps ≠ []) (none_ : ∀ p, ¬ s.scanner.turns keys (padIndex p) false = true) :
    exec (.scanSample keys s.scanner.switchOn) s =
      exec (.recognisedPress ps) (s.withScanner (s.scanner.counted keys).calm) := by
  have up : ∀ p ∈ ps, (s.scanner.counted keys).calm.isDown p = false := fun p within =>
    eq_false_of_ne_true ((s.scanner.turns_iff keys _ _).1 ((presses p).1 within)).2.1
  rw [exec_scanSample powered, exec_recognisedPress_withScanner powered some_ up,
    State.sampleKeys_presses sampled once presses none_]
  rfl

/-- The part once a release is taken, and before the presses of the same sample. -/
def State.afterRelease (s : State) (keys : BitVec 12) (r : PadKey) : State :=
  (if s.scanner.deliversKey r then s.keyPress else s).withScanner
    (((s.scanner.counted keys).calm.setLevel r false).released r).unlocked

section Release

variable {r : PadKey} (release : ∀ p, s.scanner.turns keys (padIndex p) false = true ↔ p = r)

include release

omit sampled once presses in
/-- The release that a sample recognises, as its command tells it (R112 to R114). -/
theorem exec_release_of_sample : exec (.recognisedRelease r) (s.withScanner (s.scanner.counted keys).calm) =
    .next (s.afterRelease keys r).refreshLeds :=
  exec_recognisedRelease_withScanner powered
    (eq_true_of_ne_false ((s.scanner.turns_iff keys _ _).1 ((release r).2 rfl)).2.1)

/-- A sample that recognises one release alone. -/
theorem exec_scanSample_release (none_ : ps = []) :
    exec (.scanSample keys s.scanner.switchOn) s = .next (s.afterRelease keys r).finish := by
  subst none_
  rw [exec_scanSample powered, State.sampleKeys_release sampled once presses release]
  rfl

/-- A sample that recognises a release and presses takes the presses after it, as their command does (R112, R113). -/
theorem exec_scanSample_release_presses (some_ : ps ≠ []) (clear : s.scanner.lockout = false) :
    exec (.scanSample keys s.scanner.switchOn) s = exec (.recognisedPress ps) (s.afterRelease keys r) := by
  have open_ : (((s.scanner.counted keys).calm.setLevel r false).released r).lockout = false :=
    (Scanner.released_lockout _ r).trans clear
  have vbus : (if s.scanner.deliversKey r then s.keyPress else s).power.vbus = true := by
    split
    · exact (congrArg Outer.vbus (outer_of_acts (State.Acts.refl.keyPress (s := s)))).trans powered
    · exact powered
  have up : ∀ p ∈ ps, (((s.scanner.counted keys).calm.setLevel r false).released r).isDown p = false := by
    intro p within
    have levels := ((s.scanner.counted keys).calm.setLevel r false).released_levels r
    simp only [Scanner.levels, Prod.mk.injEq] at levels
    obtain ⟨down, -⟩ := levels
    have before : s.scanner.down[padIndex p] = false :=
      eq_false_of_ne_true ((s.scanner.turns_iff keys _ _).1 ((presses p).1 within)).2.1
    rw [Scanner.isDown, down]
    refine (getElem_foldl_set false [r] s.scanner.down (padIndex p)).trans ?_
    rw [before, ite_self]
  rw [State.afterRelease, Scanner.unlocked_of_clear open_, exec_recognisedPress_withScanner vbus some_ up,
    exec_scanSample powered, State.sampleKeys_release sampled once presses release, Scanner.free_released,
    Scanner.free_released]
  rfl

end Release

end Sampled

/-- A sample that recognises no key, and changes the switch (R113, R115). -/
theorem State.sampleKeys_switch {s : State} {keys : BitVec 12} {on : Bool}
    (none_ : ∀ p down, ¬ s.scanner.turns keys (padIndex p) down = true) (sampled : s.scanner.switchSampled = true)
    (other : on ≠ s.scanner.switchOn) (third : 2 ≤ s.scanner.switchRun) :
    s.sampleKeys keys on = (s.withScanner (s.scanner.counted keys).unlocked).switchChanged on := by
  have recognised (down : Bool) : s.scanner.recognised keys down = [] :=
    List.perm_nil.1 (Scanner.recognised_perm (ps := []) List.nodup_nil fun p => by simp [none_ p down])
  have calm := Scanner.sampled_calm (k := s.scanner) (keys := keys) (ps := []) (rs := [])
    (fun p => by simp [none_ p true]) (fun p => by simp [none_ p false])
  have same : s.scanner.sampled keys = s.scanner.counted keys :=
    congrArg (fun k : Scanner => { k with switchRun := s.scanner.switchRun }) calm
  unfold State.sampleKeys
  dsimp only
  rw [recognised, recognised, same, List.foldl_nil]
  rw [show (s.withScanner (s.scanner.counted keys)).takePresses [] = s.withScanner (s.scanner.counted keys) from rfl,
    State.clearLockout_withScanner]
  unfold State.sampleSwitch
  have change : debounce s.scanner.switchOn s.scanner.switchRun on = (on, 0) := debounce_turns other third
  rw [if_pos (show (s.withScanner (s.scanner.counted keys).unlocked).scanner.switchSampled = true from sampled)]
  rw [show debounce (s.withScanner (s.scanner.counted keys).unlocked).scanner.switchOn
    (s.withScanner (s.scanner.counted keys).unlocked).scanner.switchRun on = (on, 0) from change]
  exact if_neg other

theorem Scanner.unlocked_eq (k : Scanner) :
    k.unlocked = { k with lockout := k.lockout && decide (∃ i : Fin 12, k.down[i] = true) } := by
  unfold Scanner.unlocked
  by_cases up : ∀ i : Fin 12, k.down[i] = false
  · have none_ : ¬ ∃ i : Fin 12, k.down[i] = true := fun ⟨i, down⟩ => Bool.noConfusion ((up i).symm.trans down)
    rw [if_pos up, decide_eq_false none_, Bool.and_false]
  · obtain ⟨i, down⟩ := not_forall.1 up
    rw [if_neg up, decide_eq_true ⟨i, eq_true_of_ne_false down⟩, Bool.and_true]

end Sys2Proof.Machine
end

section
/-! Samples of the tamper channels (R182, R183, R186): what a change of level leaves of the monitor, a sample of several channels,
and the commands that tell its third sample. -/

namespace Sys2Proof.Machine

/-! ## What leaves the monitor alone -/

/-- What a sample of the channels reads and changes: the channels, whether sampling has begun, and the policy (R180 to R182). -/
def State.monitored (s : State) : Vector Channel 4 × Bool × Policy :=
  (s.tamper.channels, s.tamper.sampling, s.store.image.policy)

theorem State.claimsOnly.monitored {s t : State} (only : s.claimsOnly t) : t.monitored = s.monitored := by
  obtain ⟨_, _, _, _, _, _, _, _, _, _, -, rfl⟩ := only
  rfl

theorem State.reportsOnly.monitored {s t : State} (only : s.reportsOnly t) : t.monitored = s.monitored := by
  obtain ⟨_, _, _, _, _, _, _, _, _, _, rfl⟩ := only
  rfl

theorem State.reevaluate_monitored (s : State) : s.reevaluate.monitored = s.monitored := by
  obtain ⟨_, _, _, _, same, -⟩ := s.reevaluate_entry
  rw [same]
  rfl

theorem State.closeSession_monitored (s : State) : s.closeSession.monitored = s.monitored := by
  obtain ⟨_, _, _, _, _, _, same⟩ := s.closeSession_closesSession.frame
  rw [same]
  rfl

theorem State.closeUnits_claimsOnly (c : CloseCause) (us : List UnitNo) (s : State) : s.claimsOnly (s.closeUnits c us) := by
  induction us generalizing s with
  | nil => exact .refl s
  | cons u us ih => exact (State.worksOn.closeUnit s c u).frame.trans (ih _)

theorem State.claimTarget_claimsOnly (s : State) (u : UnitNo) : s.claimsOnly (s.claimTarget u) := by
  have moved (a b : TargetStage) : s.claimsOnly (s.moveTarget u a b) := by
    rw [State.moveTarget_frame]
    exact ⟨_, _, _, _, _, _, _, _, _, _, .refl _, rfl⟩
  unfold State.claimTarget
  split
  · split
    · exact (moved _ _).trans (State.worksOn.claimUnit _ _ u).frame
    · exact moved _ _
  · exact .refl s

/-- Preempting and claiming, as a request of an internal erase does both (R175). -/
theorem State.claiming_claimsOnly (s : State) : s.claimsOnly s.claiming := by
  have targets (us : List UnitNo) : ∀ s : State, s.claimsOnly (us.foldl State.claimTarget s) := by
    induction us with
    | nil => exact .refl
    | cons u us ih => exact fun s => (s.claimTarget_claimsOnly u).trans (ih _)
  have preempted := State.preempt_stopNow_worksOn (s := s.refreshLeds) (u := s.refreshLeds.heldUnit.getD 0)
    fun v own => by rw [own]; rfl
  exact ((State.worksOn.refreshLeds (u := 0) s).frame.trans preempted.frame).trans (targets _ _)

theorem State.completeInternal_monitored (s : State) : s.completeInternal.monitored = s.monitored := by
  unfold State.completeInternal
  split
  · rfl
  · split
    · exact (State.reports_reportsOnly _ _).monitored
    · rfl

theorem State.requestInternal_monitored (s : State) (r : Requester) (us : List UnitNo) :
    (s.requestInternal r us).monitored = s.monitored := by
  rw [State.requestInternal_eq, State.completeInternal_monitored, (State.claiming_claimsOnly _).monitored,
    (s.addTargets_spec r _).frame]
  rfl

theorem State.requestIf_monitored (s : State) (due : Bool) (r : Requester) (us : List UnitNo) :
    (if due then s.requestInternal r us else s).monitored = s.monitored := by
  cases due with
  | false => rfl
  | true => exact s.requestInternal_monitored r us

/-! ## Changes of level -/

/-- The one channel that changes, and what the other channels and the monitor keep. -/
structure State.channelOnly (s m : State) (c : Fin 4) (k : Channel) : Prop where
  own : m.channel c = k
  others : ∀ d, d ≠ c → m.channel d = s.channel d
  sampling : m.tamper.sampling = s.tamper.sampling
  policy : m.store.image.policy = s.store.image.policy

theorem State.channelOnly.trans {r s m : State} {c : Fin 4} {k l : Channel} (a : r.channelOnly s c k)
    (b : s.channelOnly m c l) : r.channelOnly m c l :=
  ⟨b.own, fun d other => (b.others d other).trans (a.others d other), b.sampling.trans a.sampling,
    b.policy.trans a.policy⟩

theorem State.setChannel_channelOnly (s : State) (c : Fin 4) (k : Channel) : s.channelOnly (s.setChannel c k) c k :=
  ⟨s.channel_setChannel c k, fun _ other => s.channel_setChannel_ne other k, rfl, rfl⟩

/-- What leaves the monitor as a change of one channel does. -/
theorem State.channelOnly.ofMonitored {s m : State} {c : Fin 4} {k : Channel}
    (same : m.monitored = (s.setChannel c k).monitored) : s.channelOnly m c k := by
  have set := s.setChannel_channelOnly c k
  simp only [State.monitored, Prod.mk.injEq] at same
  obtain ⟨channels, sampling, policy⟩ := same
  have channel (d : Fin 4) : m.channel d = (s.setChannel c k).channel d := congrArg (·[d]) channels
  exact ⟨(channel c).trans set.own, fun d other => (channel d).trans (set.others d other), sampling, policy⟩

/-- An alarm raised (R183 to R185). -/
theorem State.raiseAlarm_channelOnly (s : State) (c : Fin 4) (v : Sample) :
    s.channelOnly (s.raiseAlarm c v) c { s.channel c with alarm := true } := by
  refine .ofMonitored ?_
  unfold State.raiseAlarm
  dsimp only
  split
  · exact (State.closeUnits_claimsOnly _ _ _).monitored
  · unfold State.alarmChanged
    split
    · exact State.reevaluate_monitored _
    · rfl

theorem State.clearAlarm_channelOnly (s : State) (c : Fin 4) (d : ClearDetail) :
    s.channelOnly (s.clearAlarm c d) c { s.channel c with alarm := false } := by
  obtain ⟨⟨_, _, _, _, _, same⟩, own, others⟩ := s.clearAlarm_spec c d
  exact ⟨own, others, by rw [same], by rw [same]⟩

theorem State.monitored_setChannel {s t : State} (same : t.monitored = s.monitored) (c : Fin 4) (f : Channel → Channel) :
    (t.setChannel c (f (t.channel c))).monitored = (s.setChannel c (f (s.channel c))).monitored := by
  simp only [State.monitored, Prod.mk.injEq] at same
  obtain ⟨channels, sampling, policy⟩ := same
  show (t.tamper.channels.set c (f t.tamper.channels[c]), t.tamper.sampling, t.store.image.policy) = _
  rw [channels, sampling, policy]
  rfl

/-- A trip alarms channel 3 after its closes, and then requests the erase that is due (R187, R189). -/
theorem State.trip_requests (s : State) (v : Sample) : ∃ (due : Bool) (m : State),
    m.monitored = ((s.closeAll .enclosure).closeSession.setChannel 3
      { (s.closeAll .enclosure).closeSession.channel 3 with alarm := true }).monitored ∧
    s.trip v = (if due then m.requestInternal .zeroize m.secureUnits else m).reevaluate := by
  unfold State.trip
  dsimp only
  generalize (s.closeAll .enclosure).closeSession = e
  generalize placed : State.place _ _ = m
  refine ⟨_, m, ?_, rfl⟩
  subst placed
  generalize e.setChannel 3 _ = f
  rfl

/-- The enclosure trip (R187). -/
theorem State.trip_channelOnly (s : State) (v : Sample) :
    s.channelOnly (s.trip v) 3 { s.channel 3 with alarm := true } := by
  have closed : (s.closeAll .enclosure).closeSession.monitored = s.monitored :=
    (State.closeSession_monitored _).trans (State.closeUnits_claimsOnly _ _ s).monitored
  refine .ofMonitored (Eq.trans ?_ (State.monitored_setChannel closed 3 fun k => { k with alarm := true }))
  obtain ⟨due, m, same, eq⟩ := s.trip_requests v
  rw [eq, State.reevaluate_monitored, State.requestIf_monitored, same]

/-- The level changes, and the alarm with it: it stands beyond the thresholds, and clears within them but for the latch of channel
3 (R183, R186). -/
def Channel.levelled (k : Channel) (c : Fin 4) : Level → Channel
  | .outOfRange => { k with level := .outOfRange, alarm := true }
  | .inRange => { k with level := .inRange, alarm := decide (c = 3) && k.alarm }

theorem State.changeLevel_channelOnly (s : State) (c : Fin 4) (v : Sample) (l : Level) :
    s.channelOnly (s.changeLevel c v l) c ((s.channel c).levelled c l) := by
  have set := s.setChannel_channelOnly c { s.channel c with level := l }
  unfold State.changeLevel
  generalize s.setChannel c { s.channel c with level := l } = e at *
  cases l with
  | outOfRange =>
    unfold State.levelChanged
    dsimp only
    split
    · next enclosure =>
      subst enclosure
      have trip := e.trip_channelOnly v
      rw [set.own] at trip
      exact set.trans trip
    · have raised := e.raiseAlarm_channelOnly c v
      rw [set.own] at raised
      exact set.trans raised
  | inRange =>
    unfold State.levelChanged Channel.levelled
    dsimp only
    split
    · next enclosure =>
      simpa [enclosure] using set
    · next alarm =>
      have cleared := e.clearAlarm_channelOnly c .inRange
      rw [set.own] at cleared
      simpa [alarm] using set.trans cleared

/-! ## Samples (R182) -/

/-- A channel after one sample, with the level that its runs call for. -/
def Channel.afterSample (k : Channel) (c : Fin 4) (p : ChannelPolicy) (v : Sample) : Channel :=
  if p.enabled then
    match (k.sampled p v).newLevel with
    | none => k.sampled p v
    | some l => (k.sampled p v).levelled c l
  else k

theorem State.sampleChannel_channelOnly {s : State} (begun : s.tamper.sampling = true) (c : Fin 4) (v : Sample) :
    s.channelOnly (s.sampleChannel c v) c ((s.channel c).afterSample c (s.channelPolicy c) v) := by
  have set := s.setChannel_channelOnly c ((s.channel c).sampled (s.channelPolicy c) v)
  unfold State.sampleChannel Channel.afterSample
  rw [begun, Bool.true_and]
  split
  · dsimp only
    cases ((s.channel c).sampled (s.channelPolicy c) v).newLevel with
    | none => exact set
    | some l =>
      have changed := (s.setChannel c ((s.channel c).sampled (s.channelPolicy c) v)).changeLevel_channelOnly c v l
      rw [set.own] at changed
      exact set.trans changed
  · exact ⟨rfl, fun _ _ => rfl, rfl, rfl⟩

/-- A sample of several channels, each once, acts on each by itself. -/
theorem State.sampleChannels_spec (samples : List (Fin 4 × Sample)) (once : (samples.map Prod.fst).Nodup) {s : State}
    (begun : s.tamper.sampling = true) :
    (∀ c v, (c, v) ∈ samples → (samples.foldl (fun t p => t.sampleChannel p.1 p.2) s).channel c =
      (s.channel c).afterSample c (s.channelPolicy c) v) ∧
    ∀ c, c ∉ samples.map Prod.fst →
      (samples.foldl (fun t p => t.sampleChannel p.1 p.2) s).channel c = s.channel c := by
  induction samples generalizing s with
  | nil => exact ⟨fun _ _ within => (nomatch within), fun _ _ => rfl⟩
  | cons p ps ih =>
    obtain ⟨d, w⟩ := p
    obtain ⟨fresh, once⟩ := List.nodup_cons.1 once
    have one := State.sampleChannel_channelOnly begun d w
    obtain ⟨sampled, kept⟩ := ih once (s := s.sampleChannel d w) (one.sampling.trans begun)
    refine ⟨fun c v within => ?_, fun c outside => ?_⟩
    · rcases List.mem_cons.1 within with own | later
      · obtain ⟨rfl, rfl⟩ := Prod.mk.inj own
        exact (kept c fresh).trans one.own
      · have other : c ≠ d := fun same => fresh (same ▸ List.mem_map.2 ⟨(c, v), later, rfl⟩)
        refine (sampled c v later).trans ?_
        rw [one.others c other, show (s.sampleChannel d w).channelPolicy c = s.channelPolicy c from
          congrArg (fun p : Policy => p.channels[c]) one.policy]
    · obtain ⟨other, later⟩ := not_or.1 (mt List.mem_cons.2 outside)
      exact (kept c later).trans (one.others c other)

/-- Before sampling begins a sample changes nothing (R182). -/
theorem State.sampleChannels_idle (samples : List (Fin 4 × Sample)) {s : State} (idle : s.tamper.sampling = false) :
    samples.foldl (fun t p => t.sampleChannel p.1 p.2) s = s := by
  induction samples with
  | nil => rfl
  | cons p ps ih =>
    have same : s.sampleChannel p.1 p.2 = s := if_neg (by simp [idle])
    rw [List.foldl_cons, same]
    exact ih

/-! ## The channel after a sample, by its side and its run -/

section AfterSample

variable {k : Channel} {p : ChannelPolicy} {v : Sample} (c : Fin 4)

theorem ChannelPolicy.inRange_iff : p.inRange v = true ↔ p.low ≤ v.toNat ∧ v.toNat ≤ p.high := by
  simp [ChannelPolicy.inRange]

theorem Channel.afterSample_disabled (disabled : p.enabled = false) : k.afterSample c p v = k :=
  if_neg (ne_true_of_eq_false disabled)

variable (enabled : p.enabled = true)

include enabled

theorem Channel.afterSample_in_keeps (within : p.inRange v = true) (kept : k.level = .inRange ∨ k.inRun < 2) :
    k.afterSample c p v = { k with last := v, inRun := min 3 (k.inRun + 1), outRun := 0 } := by
  have level : (k.sampled p v).newLevel = none := by
    rw [Channel.sampled, if_pos within, Channel.newLevel]
    rcases kept with kept | few
    · rw [kept]
      rfl
    · cases k.level with
      | inRange => rfl
      | outOfRange => exact if_neg (show min 3 (k.inRun + 1) ≠ 3 by omega)
  rw [Channel.afterSample, if_pos enabled, level]
  exact if_pos within

theorem Channel.afterSample_in_changes (within : p.inRange v = true) (out : k.level = .outOfRange) (third : 2 ≤ k.inRun) :
    k.afterSample c p v = { k with
      last := v, inRun := min 3 (k.inRun + 1), outRun := 0, level := .inRange, alarm := decide (c = 3) && k.alarm } := by
  have level : (k.sampled p v).newLevel = some .inRange := by
    rw [Channel.sampled, if_pos within, Channel.newLevel, out]
    exact if_pos (show min 3 (k.inRun + 1) = 3 by omega)
  rw [Channel.afterSample, if_pos enabled, level, Channel.sampled, if_pos within]
  rfl

theorem Channel.afterSample_out_keeps (beyond : p.inRange v = false) (kept : k.level = .outOfRange ∨ k.outRun < 2) :
    k.afterSample c p v = { k with last := v, outRun := min 3 (k.outRun + 1), inRun := 0 } := by
  have side := ne_true_of_eq_false beyond
  have level : (k.sampled p v).newLevel = none := by
    rw [Channel.sampled, if_neg side, Channel.newLevel]
    rcases kept with kept | few
    · rw [kept]
      rfl
    · cases k.level with
      | inRange => exact if_neg (show min 3 (k.outRun + 1) ≠ 3 by omega)
      | outOfRange => rfl
  rw [Channel.afterSample, if_pos enabled, level]
  exact if_neg side

theorem Channel.afterSample_out_changes (beyond : p.inRange v = false) (in_ : k.level = .inRange) (third : 2 ≤ k.outRun) :
    k.afterSample c p v = { k with
      last := v, outRun := min 3 (k.outRun + 1), inRun := 0, level := .outOfRange, alarm := true } := by
  have side := ne_true_of_eq_false beyond
  have level : (k.sampled p v).newLevel = some .outOfRange := by
    rw [Channel.sampled, if_neg side, Channel.newLevel, in_]
    exact if_pos (show min 3 (k.outRun + 1) = 3 by omega)
  rw [Channel.afterSample, if_pos enabled, level, Channel.sampled, if_neg side]
  rfl

end AfterSample

/-! ## A third sample, told as one event -/

section CompleteRun

variable {s : State} {c : Fin 4} {v : Sample} (begun : s.tamper.sampling = true)
  (enabled : (s.channelPolicy c).enabled = true)

include begun enabled

theorem State.completeRun_out (beyond : (s.channelPolicy c).inRange v = false) (in_ : (s.channel c).level = .inRange)
    (third : 2 ≤ (s.channel c).outRun) : s.completeRun c v .outOfRange = s.sampleChannel c v := by
  have run : min 3 ((s.channel c).outRun + 1) = 3 := by omega
  have level : ((s.channel c).sampled (s.channelPolicy c) v).newLevel = some .outOfRange := by
    rw [Channel.sampled, if_neg (ne_true_of_eq_false beyond), Channel.newLevel, in_]
    exact if_pos run
  have told : s.completeRun c v .outOfRange = (s.setChannel c { s.channel c with
      last := v, outRun := 3, inRun := 0 }).changeLevel c v .outOfRange :=
    if_pos (by simp [begun, enabled, in_, beyond])
  have sampled : s.sampleChannel c v =
      (s.setChannel c ((s.channel c).sampled (s.channelPolicy c) v)).changeLevel c v .outOfRange := by
    rw [State.sampleChannel, if_pos (by simp [begun, enabled])]
    dsimp only
    rw [level]
  rw [told, sampled, Channel.sampled, if_neg (ne_true_of_eq_false beyond), run]

theorem State.completeRun_in (within : (s.channelPolicy c).inRange v = true) (out : (s.channel c).level = .outOfRange)
    (third : 2 ≤ (s.channel c).inRun) : s.completeRun c v .inRange = s.sampleChannel c v := by
  have run : min 3 ((s.channel c).inRun + 1) = 3 := by omega
  have level : ((s.channel c).sampled (s.channelPolicy c) v).newLevel = some .inRange := by
    rw [Channel.sampled, if_pos within, Channel.newLevel, out]
    exact if_pos run
  have told : s.completeRun c v .inRange = (s.setChannel c { s.channel c with
      last := v, outRun := 0, inRun := 3 }).changeLevel c v .inRange :=
    if_pos (by simp [begun, enabled, out, within])
  have sampled : s.sampleChannel c v =
      (s.setChannel c ((s.channel c).sampled (s.channelPolicy c) v)).changeLevel c v .inRange := by
    rw [State.sampleChannel, if_pos (by simp [begun, enabled])]
    dsimp only
    rw [level]
  rw [told, sampled, Channel.sampled, if_pos within, run]

end CompleteRun

end Sys2Proof.Machine
end

section
/-! Samples of the keys, the switch and the channels, and what they recognise (R111 to R115, R182, R183, R186). -/

namespace Sys2Proof.Machine

/-- R111's three cases for one key. -/
theorem Scanner.sampled_debounced (k : Scanner) (keys : BitVec 12) (i : Fin 12) :
    (keys.getLsbD i.val = k.down[i] → (k.sampled keys).down[i] = k.down[i] ∧ (k.sampled keys).run[i] = 0) ∧
      (keys.getLsbD i.val ≠ k.down[i] → k.run[i] < 2 →
        (k.sampled keys).down[i] = k.down[i] ∧ (k.sampled keys).run[i] = k.run[i] + 1) ∧
      (keys.getLsbD i.val ≠ k.down[i] → 2 ≤ k.run[i] →
        (k.sampled keys).down[i] = keys.getLsbD i.val ∧ (k.sampled keys).run[i] = 0) := by
  obtain ⟨down, run⟩ := k.sampled_key keys i
  rw [down, run]
  refine ⟨fun same => ?_, fun other few => ?_, fun other third => ?_⟩
  · rw [same, debounce_same]
    exact ⟨rfl, rfl⟩
  · rw [debounce_counts other few]
    exact ⟨rfl, rfl⟩
  · rw [debounce_turns other third]
    exact ⟨rfl, rfl⟩

theorem State.switchChanged_withScanner (s : State) (k : Scanner) (on : Bool) :
    (s.withScanner k).switchChanged on = { s with
      scanner := { k with switchOn := on, switchRun := 0 }, events := s.events.place (.wpChanged on) } := rfl

/-- Lockout after the keys of a sample that turns none (R113). -/
theorem Scanner.unlocked_counted (k : Scanner) (keys : BitVec 12) : (k.counted keys).unlocked = { k.counted keys with
    lockout := k.lockout && decide (∃ i : Fin 12, k.down[i] = true) } := (k.counted keys).unlocked_eq

section Channels

variable {s : State} (powered : s.power.vbus = true)

include powered

theorem exec_channelSample (samples : List (Fin 4 × Sample)) :
    exec (.channelSample samples) s = .next (samples.foldl (fun t p => t.sampleChannel p.1 p.2) s).finish := by
  show execChannelSample samples s = _
  rw [execChannelSample, State.act_powered _ powered]

theorem exec_alarmRaise (a : Fin 3) (v : Sample) :
    exec (.alarmRaise a v) s = .next (s.completeRun a.castSucc v .outOfRange).finish := by
  show execAlarmRaise a v s = _
  rw [execAlarmRaise, State.act_powered _ powered, alarmChannel]

theorem exec_alarmClear (a : Fin 3) (v : Sample) :
    exec (.alarmClear a v) s = .next (s.completeRun a.castSucc v .inRange).finish := by
  show execAlarmClear a v s = _
  rw [execAlarmClear, State.act_powered _ powered, alarmChannel]

theorem exec_enclosureTrip (v : Sample) :
    exec (.enclosureTrip v) s = .next (s.completeRun 3 v .outOfRange).finish := by
  show execEnclosureTrip v s = _
  rw [execEnclosureTrip, State.act_powered _ powered]

theorem exec_enclosureLevelIn (v : Sample) : exec (.enclosureLevelIn v) s = .next (s.completeRun 3 v .inRange) := by
  show execEnclosureLevelIn v s = _
  rw [execEnclosureLevelIn, State.act_powered _ powered]

end Channels

/-- Settles O57: a sample moves runs and levels, and acts as the commands that tell what it recognises. -/
theorem samplesAreDebounced : Obligations.SamplesAreDebounced := by
  intro s powered
  refine ⟨fun keys on => ⟨⟨_, _, exec_scanSample powered keys on, State.leads_finish _, ?levels⟩, ?taken, ?switch⟩,
    fun samples fit => ⟨fun idle => ?idle, fun begun => ?sampled⟩, fun begun c v enabled => ⟨?out, ?back⟩⟩
  case levels =>
    obtain ⟨down, run, switchOn, switchSampled, switchRun⟩ := State.sampleKeys_levels (s.sampleKeys keys on).leads_finish
    rw [down, run, switchOn, switchSampled, switchRun]
    refine ⟨s.scanner.sampled_debounced keys, fun first => ?_, fun later other few => ?_, fun later same => ?_,
      fun later other third => ?_⟩
    · rw [first]
      exact ⟨rfl, rfl⟩
    · rw [later, debounce_counts (Ne.symm other) few]
      exact ⟨rfl, rfl⟩
    · rw [later, same, debounce_same]
      exact ⟨rfl, rfl⟩
    · rw [later, debounce_turns (Ne.symm other) third]
      exact ⟨rfl, rfl⟩
  case taken =>
    intro sampled same ps once presses
    subst same
    have presses : ∀ p, p ∈ ps ↔ s.scanner.turns keys (padIndex p) true = true :=
      fun p => (presses p).trans (s.scanner.turns_iff keys _ _).symm
    refine ⟨fun some_ none_ => exec_scanSample_presses powered sampled once presses some_
      fun p => mt (s.scanner.turns_iff keys _ _).1 (none_ p), fun r release => ?_⟩
    have release : ∀ p, s.scanner.turns keys (padIndex p) false = true ↔ p = r :=
      fun p => (s.scanner.turns_iff keys _ _).trans (release p)
    exact ⟨s.afterRelease keys r, exec_release_of_sample powered release,
      exec_scanSample_release powered sampled once presses release,
      exec_scanSample_release_presses powered sampled once presses release⟩
  case switch =>
    intro none_ sampled other third
    rw [exec_scanSample powered, State.sampleKeys_switch (fun p down => mt (s.scanner.turns_iff keys _ _).1 (none_ p down))
      sampled (Ne.symm other) third,
      State.switchChanged_withScanner, Scanner.unlocked_counted]
    rfl
  case idle => rw [exec_channelSample powered, State.sampleChannels_idle samples idle]
  case sampled =>
    have once : (samples.map Prod.fst).Nodup := of_decide_eq_true (Bool.and_eq_true_iff.1 fit).2
    refine ⟨_, _, exec_channelSample powered samples, State.leads_finish _, rfl, fun c v within => ?_⟩
    rw [(State.sampleChannels_spec samples once begun).1 c v within]
    refine ⟨fun disabled => Channel.afterSample_disabled c disabled, fun enabled side => ?_, fun enabled side => ?_⟩
    · have side := ChannelPolicy.inRange_iff.2 side
      exact ⟨Channel.afterSample_in_keeps c enabled side, Channel.afterSample_in_changes c enabled side⟩
    · have side := eq_false_of_ne_true (mt ChannelPolicy.inRange_iff.1 side)
      exact ⟨Channel.afterSample_out_keeps c enabled side, Channel.afterSample_out_changes c enabled side⟩
  case out =>
    intro beyond in_ third
    have told := State.completeRun_out begun enabled beyond in_ third
    refine ⟨fun a own => ?_, fun own => ?_⟩
    · subst own
      rw [exec_alarmRaise powered, told]
    · subst own
      rw [exec_enclosureTrip powered, told]
  case back =>
    intro within out third
    have told := State.completeRun_in begun enabled within out third
    refine ⟨fun a own => ?_, fun own => ?_⟩
    · subst own
      rw [exec_alarmClear powered, told]
    · subst own
      rw [exec_enclosureLevelIn powered, told]

end Sys2Proof.Machine
end

section
/-! The bounds of the entry, the debounce runs and the tamper runs, through the operations that act on them (R110, R116, R117,
R181): what else an operation does is left aside by `quiet`, and an entry that goes by `cleared`. -/

namespace Sys2Proof.Machine

/-! ## What is counted -/

/-- The digits held, the debounce runs and the channels: all that the bounds speak of. -/
def State.counts (s : State) : List Digit × Option (List Digit) × Vector Nat 12 × Nat × Vector Channel 4 :=
  (s.entry.buffer, s.entry.first, s.scanner.run, s.scanner.switchRun, s.tamper.channels)

theorem debounce_run_le (stable sample : Bool) {run : Nat} : (debounce stable run sample).2 ≤ 2 := by
  by_cases same : sample = stable
  · rw [same, debounce_same]
    exact Nat.zero_le 2
  · by_cases third : 2 ≤ run
    · rw [debounce_turns same third]
      exact Nat.zero_le 2
    · rw [debounce_counts same (Nat.not_le.1 third)]
      exact Nat.not_le.1 third

/-- A sample's runs are at most 3 (R182). -/
theorem Channel.sampled_runs {k : Channel} (p : ChannelPolicy) (v : Sample) :
    (k.sampled p v).outRun ≤ 3 ∧ (k.sampled p v).inRun ≤ 3 := by
  unfold Channel.sampled
  split
  · exact ⟨Nat.zero_le 3, Nat.min_le_left 3 _⟩
  · exact ⟨Nat.min_le_left 3 _, Nat.zero_le 3⟩

namespace State.countsFit

variable {s t : State}

theorem quiet (h : s.countsFit) (same : t.counts = s.counts) : t.countsFit := by
  simp only [State.counts, Prod.mk.injEq] at same
  obtain ⟨buffer, first, run, switchRun, channels⟩ := same
  refine ⟨buffer ▸ h.buffer, first ▸ h.first, run ▸ h.keys, switchRun ▸ h.switch, fun c => ?_⟩
  rw [show t.channel c = s.channel c from congrArg (·[c]) channels]
  exact h.channels c

/-- The digits held go or stay, and so does the first entry. -/
theorem cleared (h : s.countsFit) (buffer : t.entry.buffer = [] ∨ t.entry.buffer = s.entry.buffer)
    (first : t.entry.first = none ∨ t.entry.first = s.entry.first) (scanner : t.scanner = s.scanner)
    (channels : t.tamper.channels = s.tamper.channels) : t.countsFit := by
  refine quiet (s := s.withEntry { s.entry with buffer := t.entry.buffer, first := t.entry.first })
    ⟨?_, fun f held => ?_, h.keys, h.switch, h.channels⟩ (by rw [State.counts, scanner, channels]; rfl)
  · rcases buffer with none_ | same
    · exact none_ ▸ Nat.zero_le 16
    · exact same ▸ h.buffer
  · rcases first with none_ | same
    · cases none_.symm.trans held
    · exact h.first f (same.symm.trans held)

theorem withScanner (h : s.countsFit) {k : Scanner} (keys : ∀ i : Fin 12, k.run[i] ≤ 2) (switch : k.switchRun ≤ 2) :
    (s.withScanner k).countsFit := ⟨h.buffer, h.first, keys, switch, h.channels⟩

theorem setChannel (h : s.countsFit) (c : Fin 4) {k : Channel} (runs : k.outRun ≤ 3 ∧ k.inRun ≤ 3) :
    (s.setChannel c k).countsFit := by
  refine ⟨h.buffer, h.first, h.keys, h.switch, fun d => ?_⟩
  by_cases own : d = c
  · subst own
    rw [State.channel_setChannel]
    exact runs
  · rw [State.channel_setChannel_ne s own]
    exact h.channels d

theorem ite {c : Prop} [Decidable c] (a : s.countsFit) (b : t.countsFit) : (if c then s else t).countsFit := by
  split <;> assumption

theorem foldl {α : Type} {f : State → α → State} (step : ∀ {s : State} (x : α), s.countsFit → (f s x).countsFit)
    (l : List α) (h : s.countsFit) : (l.foldl f s).countsFit := by
  induction l generalizing s with
  | nil => exact h
  | cons x xs ih => exact ih (step x h)

/-! ## Operations on the other blocks -/

theorem ofCommand (h : s.countsFit) {x : Tag} (only : s.commandOnly x t) : t.countsFit := by
  obtain ⟨_, _, rfl, -⟩ := only
  exact h.quiet rfl

theorem ofEngine (h : s.countsFit) (only : s.engineOnly t) : t.countsFit := by
  obtain ⟨_, _, _, _, _, _, -, rfl⟩ := only
  exact h.quiet rfl

theorem ofClaims (h : s.countsFit) (only : s.claimsOnly t) : t.countsFit := by
  obtain ⟨_, _, _, _, _, _, _, _, _, _, -, rfl⟩ := only
  exact h.quiet rfl

theorem withAttempt (h : s.countsFit) (x : AttemptControl) : (s.withAttempt x).countsFit := h.quiet rfl
theorem withEnrolling (h : s.countsFit) (x : Option Enrolling) : (s.withEnrolling x).countsFit := h.quiet rfl
theorem withLeds (h : s.countsFit) (x : Indicators) : (s.withLeds x).countsFit := h.quiet rfl
theorem withErase (h : s.countsFit) (x : EraseEngine) : (s.withErase x).countsFit := h.quiet rfl
theorem withControl (h : s.countsFit) (x : UnitControl) : (s.withControl x).countsFit := h.quiet rfl
theorem withStore (h : s.countsFit) (x : Store) : (s.withStore x).countsFit := h.quiet rfl
theorem withOwed (h : s.countsFit) (owed : Bool) : (s.withTamper { s.tamper with zeroizeOwed := owed }).countsFit :=
  h.quiet rfl
theorem place (h : s.countsFit) (e : Event) : (s.place e).countsFit := h.quiet rfl

theorem closeUnits (h : s.countsFit) (c : CloseCause) (us : List UnitNo) : (s.closeUnits c us).countsFit :=
  h.ofClaims (s.closeUnits_claimsOnly c us)

/-! ## The Entry Controller -/

theorem entryGoes (h : s.countsFit) (c : EntryCtl) : (s.entryGoes c).countsFit := .ite h (h.quiet rfl)

theorem abandonAny (h : s.countsFit) (x : AbandonReason) : (s.abandonAny x).countsFit := by
  unfold State.abandonAny
  split
  · exact h.cleared (.inl rfl) (.inl rfl) rfl rfl
  · exact h

theorem enterDisabled (h : s.countsFit) : s.enterDisabled.countsFit := by
  unfold State.enterDisabled
  split
  · exact h.cleared (.inl rfl) (.inr rfl) rfl rfl
  · exact (h.abandonAny .alarm).quiet rfl
  · exact (h.abandonAny .alarm).quiet rfl
  all_goals exact h.quiet rfl

theorem reevaluate (h : s.countsFit) : s.reevaluate.countsFit :=
  .ite (.ite h h.enterDisabled) (.ite (h.quiet rfl) h)

theorem closeSession (h : s.countsFit) : s.closeSession.countsFit :=
  .ite (.ite ((h.quiet (by rfl)).abandonAny _) (h.quiet rfl)) h

theorem startEnrolling (h : s.countsFit) (t : EnrollTarget) : (s.startEnrolling t).countsFit :=
  h.cleared (.inl rfl) (.inl rfl) rfl rfl

theorem removeEnrollment (h : s.countsFit) (k : SlotNo) : (s.removeEnrollment k).countsFit := by
  unfold State.removeEnrollment
  split
  · exact .ite (.ite (h.quiet rfl) (h.cleared (.inl rfl) (.inl rfl) rfl rfl)) h
  · exact h

theorem commitWritten (h : s.countsFit) : s.commitWritten.countsFit := by
  unfold State.commitWritten
  split
  · have ended : (if s.entry.commitRemoved then s else s.withEnrolling none).countsFit := .ite h (h.quiet rfl)
    exact (State.countsFit.ite ((ended.quiet (by rfl)).entryGoes .idle) ((ended.quiet (by rfl)).entryGoes .idle)).reevaluate
  · exact h

/-! ## Internal erases and attempts -/

theorem clearCredentials (h : s.countsFit) : s.clearCredentials.countsFit :=
  have cleared := foldl (f := fun s k => (s.setCred k .blank).requestWrite (.credential k) []) (fun _ h => h.quiet rfl)
    (List.finRange 6) h
  ((((cleared.withStore _).withStore _).withEnrolling _).withAttempt _).reevaluate

theorem report (h : s.countsFit) (x : Requester) : (s.report x).countsFit := by
  cases x with
  | duress => exact h
  | bruteForce => exact .ite h.clearCredentials h
  | zeroize => exact h.quiet rfl

theorem completeInternal (h : s.countsFit) : s.completeInternal.countsFit := by
  unfold State.completeInternal
  split
  · exact h
  · exact .ite (foldl (fun x h => h.report x) _ (h.quiet rfl)) h

theorem requestInternal (h : s.countsFit) (x : Requester) (us : List UnitNo) : (s.requestInternal x us).countsFit := by
  have added : (s.addTargets x (s.secureAmong us)).countsFit := by
    rw [(s.addTargets_spec x _).frame]
    exact h.quiet rfl
  rw [State.requestInternal_eq]
  exact (added.ofClaims (State.claiming_claimsOnly _)).completeInternal

theorem attemptIdle (h : s.countsFit) : s.attemptIdle.countsFit := (h.quiet (by rfl)).entryGoes .idle

theorem penaltyExpired (h : s.countsFit) : s.penaltyExpired.countsFit :=
  have written : ((s.setAttemptRecord ⟨s.attempt.failed, 0⟩).requestWrite .attempt []).countsFit := h.quiet rfl
  .ite (((written.withAttempt _).entryGoes _).place _) written.attemptIdle

theorem startBrute (h : s.countsFit) : s.startBrute.countsFit :=
  ((h.quiet (by rfl)).closeSession.entryGoes .verifying).requestInternal _ _

theorem failedAttempt (h : s.countsFit) : s.failedAttempt.countsFit :=
  have shown : s.showFailure.countsFit := h.quiet rfl
  .ite shown.startBrute (.ite shown.attemptIdle ((shown.quiet (by rfl)).entryGoes _))

theorem duressMatch (h : s.countsFit) : s.duressMatch.countsFit :=
  have requested := h.requestInternal .duress s.duressUnits
  .ite ((requested.startBrute.place _).withLeds _) requested.failedAttempt

theorem openRequest (h : s.countsFit) (k : SlotNo) (gs : List Grant) : (s.openRequest k gs).countsFit := by
  obtain ⟨_, _, _, _, same⟩ := s.openRequest_frame k gs
  exact h.quiet (by rw [same]; rfl)

theorem spendUse (h : s.countsFit) (k : SlotNo) : (s.spendUse k).countsFit := by
  unfold State.spendUse
  split
  · exact h
  · exact h.quiet rfl

theorem goodMatch (h : s.countsFit) (k : SlotNo) : (s.goodMatch k).countsFit :=
  have spent : (if k = 0 then s else s.spendUse k).countsFit := .ite h (h.spendUse k)
  have opened := (((spent.withAttempt _).withStore _).withStore _).openRequest k (s.cred k).grants
  ((State.countsFit.ite (opened.withControl _) opened).withLeds _).attemptIdle

theorem verdict (h : s.countsFit) : s.verdict.countsFit := by
  have emptied : (s.withEntry { s.entry with buffer := [] }).countsFit := h.cleared (.inl rfl) (.inr rfl) rfl rfl
  refine .ite ?_ h
  dsimp only
  split
  · exact emptied.failedAttempt
  · exact .ite emptied.duressMatch (emptied.goodMatch _)

/-! ## The Tamper Monitor -/

theorem alarmChanged (h : s.countsFit) (c : Fin 4) : (s.alarmChanged c).countsFit := .ite h.reevaluate h

theorem withAlarm (h : s.countsFit) (c : Fin 4) (alarm : Bool) :
    (s.setChannel c { s.channel c with alarm := alarm }).countsFit := h.setChannel c (h.channels c)

theorem raiseAlarm (h : s.countsFit) (c : Fin 4) (v : Sample) : (s.raiseAlarm c v).countsFit :=
  have raised := (h.withAlarm c true).place (.tamperAlarm c v)
  .ite (raised.closeUnits _ _) (raised.alarmChanged c)

theorem clearAlarm (h : s.countsFit) (c : Fin 4) (d : ClearDetail) : (s.clearAlarm c d).countsFit :=
  .ite (((h.withAlarm c false).place (.tamperClear c d)).alarmChanged c) h

theorem trip (h : s.countsFit) (v : Sample) : (s.trip v).countsFit := by
  have closed : (s.closeAll .enclosure).closeSession.countsFit := (h.closeUnits _ _).closeSession
  unfold State.trip
  dsimp only
  generalize (s.closeAll .enclosure).closeSession = e at closed
  generalize placed : State.place _ _ = m
  have latched : m.countsFit := placed ▸ ((((closed.withAlarm 3 true).withOwed _).withStore _).withStore _).place _
  exact (State.countsFit.ite (latched.requestInternal _ _) latched).reevaluate

theorem changeLevel (h : s.countsFit) (c : Fin 4) (v : Sample) (l : Level) : (s.changeLevel c v l).countsFit := by
  have levelled := h.setChannel c (k := { s.channel c with level := l }) (h.channels c)
  cases l with
  | outOfRange => exact .ite (levelled.trip v) (levelled.raiseAlarm c v)
  | inRange => exact .ite levelled (levelled.clearAlarm c _)

theorem sampleChannel (h : s.countsFit) (c : Fin 4) (v : Sample) : (s.sampleChannel c v).countsFit := by
  have sampled := h.setChannel c ((s.channel c).sampled_runs (s.channelPolicy c) v)
  refine .ite ?_ h
  dsimp only
  split
  · exact sampled
  · exact sampled.changeLevel c v _

theorem completeRun (h : s.countsFit) (c : Fin 4) (v : Sample) (l : Level) : (s.completeRun c v l).countsFit :=
  .ite ((h.setChannel c (by cases l <;> simp)).changeLevel c v l) h

theorem applyChannel (h : s.countsFit) (old : Policy) (c : Fin 4) : (s.applyChannel old c).countsFit := by
  have restarted {k : Channel} (runs : k.outRun = 0 ∧ k.inRun = 0) : (s.setChannel c k).countsFit :=
    h.setChannel c ⟨runs.1 ▸ Nat.zero_le 3, runs.2 ▸ Nat.zero_le 3⟩
  unfold State.applyChannel
  split
  · exact .ite (restarted ⟨rfl, rfl⟩) ((restarted ⟨rfl, rfl⟩).clearAlarm _ _)
  · exact restarted ⟨rfl, rfl⟩
  · exact h

theorem applyPolicy (h : s.countsFit) (p : Policy) : (s.applyPolicy p).countsFit :=
  (foldl (fun c h => h.applyChannel _ c) _ (h.quiet (by rfl))).reevaluate

theorem endCapacityRead (h : s.countsFit) (m : Option Nat) : (s.endCapacityRead m).countsFit :=
  .ite ((h.setChannel 3 (k := { s.channel 3 with
    alarm := s.store.image.latch.latched, level := if s.store.image.latch.latched then .outOfRange else .inRange })
    (h.channels 3)).quiet (by rfl)) (h.quiet rfl)

theorem failCapacityRead (h : s.countsFit) : s.failCapacityRead.countsFit := .ite h (h.endCapacityRead none)

/-! ## The keypad -/

/-- A digit is taken only while fewer than 16 are held (R117). -/
theorem digitPress (h : s.countsFit) (d : Digit) : (s.digitPress d).countsFit := by
  unfold State.digitPress
  split
  · exact ⟨show 1 ≤ 16 by omega, h.first, h.keys, h.switch, h.channels⟩
  · split
    · split
      · next few =>
        refine ⟨?_, h.first, h.keys, h.switch, h.channels⟩
        show (s.entry.buffer ++ [d]).length ≤ 16
        rw [List.length_append]
        exact few
      · exact h.quiet rfl
    · exact h

/-- The first entry is the buffer, which is within its bound (R124). -/
theorem firstEntryEnds (h : s.countsFit) : s.firstEntryEnds.countsFit :=
  ⟨Nat.zero_le 16, fun _ held => Option.some.inj held ▸ h.buffer, h.keys, h.switch, h.channels⟩

theorem confirmEnds (h : s.countsFit) : s.confirmEnds.countsFit := by
  unfold State.confirmEnds
  split
  · split
    · exact h.cleared (.inl rfl) (.inl rfl) rfl rfl
    · exact h.abandonAny _
  · exact h

theorem keyPress (h : s.countsFit) : s.keyPress.countsFit := by
  unfold State.keyPress
  split
  · exact .ite (h.cleared (.inl rfl) (.inr rfl) rfl rfl) (h.quiet rfl)
  · exact .ite h h.firstEntryEnds
  · exact .ite h h.confirmEnds
  all_goals exact h

theorem lockPress (h : s.countsFit) : s.lockPress.countsFit := by
  have entry : s.lockEntry.countsFit := by
    unfold State.lockEntry
    split
    · exact h.cleared (.inl rfl) (.inr rfl) rfl rfl
    · exact h.abandonAny _
    · exact h.abandonAny _
    all_goals exact h
  exact (entry.closeUnits _ _).closeSession

theorem longPress (h : s.countsFit) : s.longPress.countsFit := by
  refine .ite ?_ h
  split
  · exact h.startEnrolling _
  · exact h.quiet rfl

theorem interKeyExpired (h : s.countsFit) : s.interKeyExpired.countsFit := by
  have emptied : s.clearEntry.countsFit := h.cleared (.inl rfl) (.inr rfl) rfl rfl
  unfold State.interKeyExpired
  split
  · exact emptied.quiet rfl
  · exact emptied
  · exact emptied
  all_goals exact h

theorem takePresses (h : s.countsFit) (ps : List PadKey) : (s.takePresses ps).countsFit := by
  have active : s.keyActivity.countsFit := .ite (h.quiet rfl) (h.quiet rfl)
  unfold State.takePresses
  split
  · exact h
  · next p =>
    refine .ite ?_ active
    cases p with
    | digit d => exact (active.quiet (by rfl)).digitPress d
    | lock => exact (active.quiet (by rfl)).lockPress
    | key => exact active.quiet rfl
  · exact .ite (active.quiet rfl) active

theorem takeRelease (h : s.countsFit) (p : PadKey) : (s.takeRelease p).countsFit :=
  .ite (.ite (h.quiet (by rfl)).keyPress (h.quiet rfl)) h

theorem clearLockout (h : s.countsFit) : s.clearLockout.countsFit := .ite h (h.quiet rfl)

/-- A key's level changes with its run at 0 (R111). -/
theorem setLevel (h : s.countsFit) (p : PadKey) (down : Bool) : (s.withScanner (s.scanner.setLevel p down)).countsFit := by
  refine h.withScanner (fun i => ?_) h.switch
  show (s.scanner.run.set (padIndex p) 0)[i] ≤ 2
  rw [Fin.getElem_fin, Vector.getElem_set]
  split
  · exact Nat.zero_le 2
  · exact h.keys i

theorem switchChanged (h : s.countsFit) (on : Bool) : (s.switchChanged on).countsFit :=
  ⟨h.buffer, h.first, h.keys, Nat.zero_le 2, h.channels⟩

/-- Presses leave the runs of their keys at 0. -/
theorem pressed (h : s.countsFit) (ps : List PadKey) : (s.withScanner (ps.foldl Scanner.pressed s.scanner)).countsFit := by
  induction ps generalizing s with
  | nil => exact h
  | cons p ps ih => exact (ih (h.setLevel p true)).quiet rfl

theorem sampleSwitch (h : s.countsFit) (on : Bool) : (s.sampleSwitch on).countsFit :=
  .ite (.ite (h.withScanner h.keys (debounce_run_le _ _)) (h.switchChanged _)) (h.withScanner h.keys (Nat.zero_le 2))

theorem sampleKeys (h : s.countsFit) (keys : BitVec 12) (on : Bool) : (s.sampleKeys keys on).countsFit := by
  have sampled : (s.withScanner (s.scanner.sampled keys)).countsFit :=
    h.withScanner (fun i => (s.scanner.sampled_key keys i).2 ▸ debounce_run_le _ _) h.switch
  have keyed := ((foldl (fun p h => h.takeRelease p) (s.scanner.recognised keys false) sampled).takePresses
    (s.scanner.recognised keys true)).clearLockout
  exact keyed.sampleSwitch on

end State.countsFit

end Sys2Proof.Machine
end

section
/-! The bounds of the entry and the runs through what leaves all of them: the command path, erase work, and the replacements and
markers that it waits for. -/

namespace Sys2Proof.Machine

namespace State.countsFit

variable {s t : State}

theorem withCipher (h : s.countsFit) (x : Cipher) : (s.withCipher x).countsFit := h.quiet rfl
theorem withDraws (h : s.countsFit) (x : Nat) : (s.withDraws x).countsFit := h.quiet rfl
theorem refreshLeds (h : s.countsFit) : s.refreshLeds.countsFit := h.quiet rfl
theorem followNeed (h : s.countsFit) : s.followNeed.countsFit := h.quiet rfl

/-! ## The command path -/

theorem endEntry (h : s.countsFit) (t : Tag) (v : Verdict) : (s.endEntry t v).countsFit := h.ofCommand (.endEntry s t v)

theorem restartIdle (h : s.countsFit) (u : UnitNo) : (s.restartIdle u).countsFit := by
  unfold State.restartIdle
  split
  · exact .ite (h.quiet rfl) h
  · exact h

theorem admittedRestart (h : s.countsFit) (head : RecordHead) (verdict : Option Status) :
    (s.admittedRestart head verdict).countsFit := by
  unfold State.admittedRestart
  split
  · exact .ite (h.restartIdle _) h
  · exact h

theorem takeRecord (h : s.countsFit) (op : Op) (head : RecordHead) (residue : Nat) (stage : Bool) {accept : Tag → State}
    (taken : ∀ t, (accept t).countsFit) : (s.takeRecord op head residue stage accept).countsFit := by
  unfold State.takeRecord
  split
  · exact h.quiet rfl
  · exact .ite (h.quiet rfl) (.ite (h.quiet rfl) (taken _))

theorem admitData (h : s.countsFit) (op : Op) (head : RecordHead) (t : Tag) : (s.admitData op head t).countsFit := by
  unfold State.admitData
  dsimp only
  split
  · exact (h.quiet (by rfl)).admittedRestart _ _
  · exact (h.quiet (by rfl)).admittedRestart _ _

theorem holdStage (h : s.countsFit) (head : RecordHead) (t : Tag) : (s.holdStage head t).countsFit := by
  unfold State.holdStage
  refine .ite h ?_
  split
  · exact h.quiet rfl
  · exact h

theorem acceptSync (h : s.countsFit) (head : RecordHead) : (s.acceptSync head).countsFit := by
  refine h.takeRecord _ _ _ _ fun t => ?_
  dsimp only
  split
  · exact (h.quiet (by rfl)).admittedRestart _ _
  · exact h.quiet rfl

theorem acceptUnitInfo (h : s.countsFit) (head : RecordHead) : (s.acceptUnitInfo head).countsFit := by
  refine h.takeRecord _ _ _ _ fun t => .ite (h.quiet rfl) ?_
  split
  · exact h.quiet rfl
  · exact h.quiet rfl

theorem acceptManagement (h : s.countsFit) (op : Op) (head : RecordHead) (b : List Byte) :
    (s.acceptManagement op head b).countsFit := h.takeRecord _ _ _ _ fun _ => h.quiet rfl

theorem takeTransfer (h : s.countsFit) (i : Instr) : (s.takeTransfer i).countsFit := by
  unfold State.takeTransfer
  split
  case h_1 => exact h.takeRecord _ _ _ _ (h.admitData _ _)
  case h_2 => exact h.takeRecord _ _ _ _ fun _ => (h.admitData _ _ _).holdStage _ _
  case h_3 => exact h.takeRecord _ _ _ _ (h.admitData _ _)
  case h_4 => exact h.acceptSync _
  case h_5 => exact h.acceptUnitInfo _
  case h_20 => exact h.takeRecord _ _ _ _ fun _ => h.quiet rfl
  case h_21 => exact h
  all_goals exact h.acceptManagement _ _ _

/-! ## Erase work -/

theorem releaseUnit (h : s.countsFit) (u : UnitNo) : (s.releaseUnit u).countsFit :=
  h.ofEngine ((State.engineOnly.refl s).releaseUnit u)

theorem haltDescriptor (h : s.countsFit) (x : Outcome) : (s.haltDescriptor x).countsFit :=
  h.ofEngine ((State.engineOnly.refl s).haltDescriptor x)

theorem rerunFallback (h : s.countsFit) (u : UnitNo) (x : Outcome) : (s.rerunFallback u x).countsFit :=
  h.ofEngine ((State.engineOnly.refl s).rerunFallback u x)

theorem signalDrained (h : s.countsFit) (u : UnitNo) : (s.signalDrained u).countsFit :=
  h.ofEngine (((State.engineOnly.refl s).endClose u).claimDrained u)

theorem claimUnit (h : s.countsFit) (c : CloseCause) (u : UnitNo) : (s.claimUnit c u).countsFit :=
  h.ofClaims (State.worksOn.claimUnit s c u).frame

theorem moveTarget (h : s.countsFit) (u : UnitNo) (a b : TargetStage) : (s.moveTarget u a b).countsFit := by
  rw [State.moveTarget_frame]
  exact h.quiet rfl

theorem enterWaiting (h : s.countsFit) : s.enterWaiting.countsFit := (h.quiet (by rfl)).followNeed

theorem advance (h : s.countsFit) : s.advance.countsFit := .ite (h.quiet rfl) (h.quiet rfl)

theorem endGood (h : s.countsFit) (u : UnitNo) : (s.endGood u).countsFit :=
  have counted : (s.setCurrent fun d => { d with done := true, outcome := some .good }).countGood.countsFit :=
    .ite (h.quiet rfl) (h.quiet rfl)
  .ite (.ite (counted.quiet (by rfl)).advance (counted.releaseUnit u).advance)
    (counted.ofEngine ((State.engineOnly.refl _).enterHalted _ _))

theorem stopNow (h : s.countsFit) : s.stopNow.countsFit := by
  unfold State.stopNow
  split
  · exact h
  · split
    · exact h.haltDescriptor _
    · exact .ite (h.haltDescriptor _) h
    all_goals exact h

theorem enterWorking (h : s.countsFit) (d : Descriptor) : (s.enterWorking d).countsFit := .ite (h.quiet rfl) (h.quiet rfl)

theorem markerWritten (h : s.countsFit) : s.markerWritten.countsFit := by
  unfold State.markerWritten
  split
  · refine .ite ?_ h
    split
    · exact h.haltDescriptor _
    · exact h.enterWorking _
  · exact h

theorem descriptorStep (h : s.countsFit) (j : EraseJob) (sectors : Nat) (data : List Sector) :
    (s.descriptorStep j sectors data).countsFit := by
  unfold State.descriptorStep
  split
  · exact h.haltDescriptor _
  · dsimp only
    split
    · exact (h.quiet (by rfl)).haltDescriptor _
    · exact h.quiet rfl
    · exact (h.quiet (by rfl)).endGood _

theorem startRerun (h : s.countsFit) (u : UnitNo) (w : EraseWork) : (s.startRerun u w).countsFit :=
  have begun : ((s.withErase { s.erase with
      state := .running, workAge := s.clock,
      rerun := some { unit := u, work := w, phase := .pass 1, sectorsDone := 0, stage := .working } }).aged).countsFit :=
    h.quiet rfl
  .ite (begun.withErase _ |>.withCipher _) (.ite (begun.rerunFallback _ _) (begun.withErase _))

theorem rerunStep (h : s.countsFit) (j : EraseJob) (sectors : Nat) (data : List Sector) :
    (s.rerunStep j sectors data).countsFit := by
  unfold State.rerunStep
  split
  · exact h.rerunFallback _ _
  · exact h.quiet rfl
  · exact h.quiet rfl

theorem rerunCleared (h : s.countsFit) (u : UnitNo) : (s.rerunCleared u).countsFit :=
  have unlocked : (if s.unitState u = .erasing then s.unlockErasing u else s).countsFit := .ite (h.quiet rfl) h
  (unlocked.withErase _).refreshLeds

theorem eraseResult (h : s.countsFit) (sectors : Nat) (x : MediaResult) : (s.eraseResult sectors x).countsFit := by
  unfold State.eraseResult
  split
  · exact h
  · have freed : (s.withErase { s.erase with segment := .none }).countsFit := h.quiet rfl
    dsimp only
    split
    · exact freed.rerunStep _ _ _
    · exact freed.descriptorStep _ _ _
    · exact freed.rerunFallback _ _
    · exact freed.haltDescriptor _

/-! ## Markers and replacements -/

theorem targetMarked (h : s.countsFit) (u : UnitNo) : (s.targetMarked u).countsFit := .ite ((h.moveTarget _ _ _).quiet rfl) h

theorem targetReplaced (h : s.countsFit) (u : UnitNo) : (s.targetReplaced u).countsFit :=
  have moved := h.moveTarget u .replacing .done
  .ite (.ite ((moved.moveTarget _ _ _).quiet rfl) (moved.releaseUnit u).completeInternal) h

theorem replaceKey (h : s.countsFit) (q : KeyRequest) : (s.replaceKey q).countsFit :=
  .ite (h.haltDescriptor _) (((((h.withStore _).withDraws _).withStore _).withStore _).withStore _ |>.withCipher _)

theorem takeRequest (h : s.countsFit) (u : UnitNo) : (s.takeRequest u).countsFit := by
  unfold State.takeRequest
  split
  · exact h
  · exact .ite ((h.quiet (by rfl)).replaceKey _) h

theorem replaced (h : s.countsFit) (u : UnitNo) (p : KeyPath) : (s.replaced u p).countsFit := by
  unfold State.replaced
  split
  · exact h.endGood u
  · split
    · exact .ite (h.quiet rfl) (h.targetReplaced u)
    · exact h.targetReplaced u

theorem replacementWritten (h : s.countsFit) (u : UnitNo) (p : KeyPath) : (s.replacementWritten u p).countsFit :=
  ((h.quiet (by rfl)).replaced u p).takeRequest u

theorem startDescriptor (h : s.countsFit) : s.startDescriptor.countsFit := by
  unfold State.startDescriptor
  split
  · exact h.haltDescriptor _
  · exact (h.quiet (by rfl)).claimUnit _ _
  · exact h

/-! ## Operations of the media path -/

theorem handResult (h : s.countsFit) (m : MediaSlot) (x : MediaResult) : (s.handResult m x).countsFit := by
  unfold State.handResult
  split
  · exact h.ofCommand (.hostResult s m _ x)
  · exact h.eraseResult _ _

theorem endSlot (h : s.countsFit) (n : Fin 4) (x : MediaResult) : (s.endSlot n x).countsFit := by
  unfold State.endSlot
  split
  · exact (h.quiet (by rfl)).handResult _ x
  · exact h

theorem endOutstanding (h : s.countsFit) (x : MediaResult) : (s.endOutstanding x).countsFit :=
  foldl (fun n h => .ite (h.endSlot n x) h) _ h

theorem fillSlots (n : Nat) : ∀ {s : State}, s.countsFit → (State.fillSlots n s).countsFit := by
  induction n with
  | zero => exact id
  | succ n ih =>
    intro s h
    unfold State.fillSlots
    split
    · next issued =>
      obtain ⟨-, k, ⟨x, rfl⟩ | ⟨j, rfl⟩⟩ := State.nextIssue_cases issued
      · obtain ⟨port, same, -⟩ := s.issueHost_spec k x
        exact ih (h.quiet (by rw [same]; rfl))
      · exact ih (h.quiet rfl)
    · exact h

theorem failRamp (h : s.countsFit) : s.failRamp.countsFit :=
  .ite (h.quiet rfl) (h.quiet (by rfl)).failCapacityRead

end State.countsFit

end Sys2Proof.Machine
end

section
/-! The bounds of the entry and the runs through the Management Handler, start-up, the part's own events and the commands
(R110, R116, R117, R181). -/

namespace Sys2Proof.Machine

namespace State.countsFit

variable {s t : State}

/-! ## Start-up -/

theorem finishStartUp (h : s.countsFit) : s.finishStartUp.countsFit := (h.quiet (by rfl)).reevaluate

theorem stepSix (h : s.countsFit) : s.stepSix.countsFit :=
  .ite (h.quiet (by rfl)).startBrute (.ite (h.quiet (by rfl)).finishStartUp h.finishStartUp)

theorem endReruns (h : s.countsFit) : s.endReruns.countsFit :=
  .ite ((h.quiet (by rfl)).requestInternal _ _) (h.quiet (by rfl)).stepSix

theorem advanceStartUp (h : s.countsFit) (e : s.advanceStartUp = some t) : t.countsFit := by
  unfold State.advanceStartUp at e
  split at e
  · split at e
    · cases e
    · split at e
      · cases e; exact h.startRerun _ _
      · cases e; exact h.endReruns
  · split at e
    · cases e
    · cases e; exact h.stepSix
  · split at e
    · cases e; exact h.finishStartUp
    · cases e
  all_goals cases e

/-! ## The Management Handler -/

theorem endManagement (h : s.countsFit) (st : Status) : (s.endManagement st).countsFit := by
  unfold State.endManagement State.endOrDrop
  split
  · split
    · exact .ite (h.quiet rfl) ((h.quiet (by rfl)).endEntry _ _)
    · exact h.quiet rfl
  · exact h

theorem returnData (h : s.countsFit) (content : List Byte) : (s.returnData content).countsFit := by
  unfold State.returnData
  split
  · exact h.quiet rfl
  · exact h

theorem acceptDefine (h : s.countsFit) (u : UnitNo) (d : UnitDef) : (s.acceptDefine u d).countsFit := by
  have put : (s.putUnit u (some d)).countsFit := h.quiet rfl
  unfold State.acceptDefine
  dsimp only
  split
  · exact (((put.withStore _).withDraws _).withStore _).withStore _
  · exact ((put.withStore _).withStore _).withStore _

theorem runUnitDefine (h : s.countsFit) (b : List Byte) : (s.runUnitDefine b).countsFit := by
  refine .ite (h.endManagement _) ?_
  split
  · exact h.endManagement _
  · exact .ite (h.endManagement _) (.ite (h.endManagement _) (.ite (h.endManagement _) (h.acceptDefine _ _)))

theorem runUnitDelete (h : s.countsFit) (b : List Byte) : (s.runUnitDelete b).countsFit := by
  unfold State.runUnitDelete
  split
  · exact h.endManagement _
  · exact .ite (h.endManagement _) (.ite (h.endManagement _)
      (h.quiet rfl))

theorem runGrantSet (h : s.countsFit) (b : List Byte) : (s.runGrantSet b).countsFit := by
  unfold State.runGrantSet
  split
  · exact h.endManagement _
  · exact h.quiet rfl

theorem runCredentialRemove (h : s.countsFit) (b : List Byte) : (s.runCredentialRemove b).countsFit := by
  unfold State.runCredentialRemove
  split
  · exact h.endManagement _
  · exact .ite ((h.quiet (by rfl)).removeEnrollment _).closeSession.reevaluate ((h.quiet (by rfl)).removeEnrollment _)

theorem runEnroll (h : s.countsFit) (b : List Byte) : (s.runEnroll b).countsFit := by
  unfold State.runEnroll
  split
  · exact h.endManagement _
  · exact .ite ((h.startEnrolling _).endManagement _) (h.endManagement _)

theorem runPolicySet (h : s.countsFit) (b : List Byte) : (s.runPolicySet b).countsFit := by
  unfold State.runPolicySet
  split
  · exact h.endManagement _
  · exact (h.applyPolicy _).withStore _

theorem runLock (h : s.countsFit) (b : List Byte) : (s.runLock b).countsFit :=
  have closed := h.closeUnits .lockCommand ((List.finRange 8).filter (maskNames b))
  (State.countsFit.ite closed.closeSession closed).endManagement _

theorem runEraseListWrite (h : s.countsFit) (b : List Byte) : (s.runEraseListWrite b).countsFit := by
  unfold State.runEraseListWrite
  split
  · exact h.endManagement _
  · exact .ite (h.endManagement _) ((h.quiet (by rfl)).endManagement _)

theorem runEraseTail (h : s.countsFit) (b : List Byte) : (s.runEraseTail b).countsFit := by
  unfold State.runEraseTail
  split
  · exact h.endManagement _
  · rename_i p _
    have moved : (s.withErase { s.erase with tail := p }).countsFit := h.quiet rfl
    dsimp only
    split
    · exact (State.countsFit.ite moved moved.enterWaiting).endManagement _
    all_goals exact .ite (h.endManagement _) (moved.endManagement _)

theorem runEraseAbort (h : s.countsFit) : s.runEraseAbort.countsFit :=
  (State.countsFit.ite (h.quiet (by rfl)).stopNow h).endManagement _

theorem runEraseClear (h : s.countsFit) : s.runEraseClear.countsFit :=
  (State.countsFit.ite (State.countsFit.ite (h.quiet (by rfl)) (h.quiet (by rfl)).enterWaiting) h).endManagement _

theorem runTamperClear (h : s.countsFit) : s.runTamperClear.countsFit :=
  .ite (h.endManagement _) (.ite (h.endManagement _) (.ite (h.endManagement _)
    ((((h.withAlarm 3 false).withStore _).withStore _).place _).reevaluate))

theorem runManagement (h : s.countsFit) (op : Op) (b : List Byte) : (s.runManagement op b).countsFit := by
  cases op with
  | status => exact ((h.returnData _).quiet (by rfl)).endManagement _
  | eventRead => exact ((h.returnData _).quiet (by rfl)).endManagement _
  | unitDefine => exact h.runUnitDefine b
  | unitDelete => exact h.runUnitDelete b
  | grantSet => exact h.runGrantSet b
  | credentialRemove => exact h.runCredentialRemove b
  | enroll => exact h.runEnroll b
  | policySet => exact h.runPolicySet b
  | lock => exact h.runLock b
  | eraseListWrite => exact h.runEraseListWrite b
  | eraseTail => exact h.runEraseTail b
  | eraseAbort => exact h.runEraseAbort
  | eraseClear => exact h.runEraseClear
  | tamperClear => exact h.runTamperClear
  | read | write | trim | sync | unitInfo => exact h

theorem takeManagement (h : s.countsFit) (e : QueueEntry) : (s.takeManagement e).countsFit := by
  have taken : ((s.withHandler (some e.tag)).updateEntry e.tag fun e => { e with state := .active }).countsFit := h.quiet rfl
  unfold State.takeManagement State.execute
  split
  · exact taken.endManagement _
  · exact (State.countsFit.ite (State.countsFit.ite (taken.quiet (by rfl)) taken) taken).runManagement _ _

/-! ## The Configuration Store -/

theorem clearingWritten (h : s.countsFit) : s.clearingWritten.countsFit := .ite ((h.quiet (by rfl)).attemptIdle.place _) h

theorem answer (h : s.countsFit) (w : Waiter) : (s.answer w).countsFit := by
  cases w with
  | management => exact h.endManagement _
  | charge => exact h.verdict
  | clearing => exact h.clearingWritten
  | commit => exact h.commitWritten
  | descriptorMarker => exact h.markerWritten
  | internalMarker u => exact h.targetMarked u
  | replacement u p => exact h.replacementWritten u p
  | rerunClear u => exact h.rerunCleared u

theorem startWrite (h : s.countsFit) : s.startWrite.countsFit := by
  unfold State.startWrite
  split
  · exact h
  · exact .ite (h.quiet rfl) h

theorem completeWrite (h : s.countsFit) : s.completeWrite.countsFit := by
  unfold State.completeWrite
  split
  · exact h
  · exact foldl (fun w h => h.answer w) _ (h.quiet rfl)

/-! ## The part's own events -/

theorem nextUnserved (h : s.countsFit) (e : s.nextUnserved = some t) : t.countsFit := by
  unfold State.nextUnserved at e
  split at e
  · cases e; exact h.eraseResult _ _
  · split at e
    · split at e
      · cases e; exact h.endSlot _ _
      · split at e
        · cases e; exact h.endEntry _ _
        · split at e
          · cases e; exact h.eraseResult _ _
          · cases e
    · cases e

theorem internal (h : s.countsFit) (e : s.internal = some t) : t.countsFit := by
  simp only [State.internal, Option.orElse_eq_some] at e
  rcases e with e | ⟨-, e | ⟨-, e | ⟨-, e | ⟨-, e | ⟨-, e | ⟨-, e | ⟨-, e⟩⟩⟩⟩⟩⟩⟩
  · obtain ⟨u, -, rfl⟩ := Option.map_eq_some_iff.1 e
    exact h.signalDrained u
  · exact h.advanceStartUp e
  · obtain ⟨-, e⟩ := Option.ite_none_right_eq_some.1 e
    obtain ⟨p, -, rfl⟩ := Option.map_eq_some_iff.1 e
    exact h.quiet rfl
  · exact h.nextUnserved e
  · obtain ⟨-, ⟨⟩⟩ := Option.ite_none_left_eq_some.1 e
    exact h.followNeed
  · obtain ⟨-, ⟨⟩⟩ := Option.ite_none_right_eq_some.1 e
    exact h.startDescriptor
  · obtain ⟨-, e⟩ := Option.ite_none_right_eq_some.1 e
    obtain ⟨c, -, rfl⟩ := Option.map_eq_some_iff.1 e
    exact h.takeManagement c
  · unfold State.nextTransfer at e
    split at e
    · cases e
    · obtain ⟨-, ⟨⟩⟩ := Option.ite_none_right_eq_some.1 e
      exact (h.quiet (by rfl)).takeTransfer _

theorem finish (h : s.countsFit) : s.finish.countsFit :=
  (State.settle_induction (P := State.countsFit) (fun _ _ h e => h.internal e) _ s h).refreshLeds

/-- The part settles after an event that leaves what is counted. -/
theorem finishQuiet (h : s.countsFit) (same : t.counts = s.counts) : t.finish.countsFit := (h.quiet same).finish

/-! ## Power and commands -/

theorem startReset (h : s.countsFit) : s.startReset.countsFit := h.quiet rfl

/-- Without power, and as power comes, nothing is typed and no run is under way. -/
theorem unpoweredOf (s : State) : s.unpoweredOf.countsFit := by
  have still : ∀ i : Fin 12, (Vector.replicate 12 0 : Vector Nat 12)[i] ≤ 2 := by decide
  have fresh : ∀ c : Fin 4, (Vector.replicate 4 Channel.fresh)[c].outRun ≤ 3 ∧
      (Vector.replicate 4 Channel.fresh)[c].inRun ≤ 3 := by decide
  exact ⟨Nat.zero_le 16, nofun, still, Nat.zero_le 2, fresh⟩

theorem powered (s : State) : s.powered.countsFit := by
  rw [State.powered_eq]
  exact (unpoweredOf s).quiet rfl

/-- A command that acts keeps the bounds where its effect does. -/
theorem ofAct (h : s.countsFit) {f : State → State} (e : s.act f = .next t) (acts : (f s).countsFit) : t.countsFit := by
  unfold State.act at e
  cases e
  exact .ite acts h

/-- A transfer of the host, which is taken or waits. -/
theorem ofTransfer (h : s.countsFit) (i : Instr) (e : (s.act fun s => s.transfer i fun s => s.takeTransfer i) = .next t) :
    t.countsFit :=
  h.ofAct e (.ite (h.takeTransfer i).finish (h.quiet rfl))

end State.countsFit

/-- Every command keeps the bounds. -/
theorem exec_countsFit {i : Instr} {s t : State} (h : s.countsFit) (e : exec i s = .next t) : t.countsFit := by
  cases i <;> dsimp only [exec] at e
  case refusedStatusSent =>
    refine h.ofAct e ?_
    split
    · exact .ite (h.finishQuiet (by rfl)) h
    · exact h
  case returnedDataSent =>
    refine h.ofAct e ?_
    split
    · split
      · exact .ite (h.quiet rfl) h
      · exact h
    · exact h
  case statusRecordSent =>
    refine h.ofAct e ?_
    split
    · exact .ite (h.finishQuiet (by rfl)) h
    · exact h
  case readDataSent n =>
    refine h.ofAct e ?_
    split
    · exact h
    · exact .ite (h.finishQuiet (by rfl)) h
  case writeIntakeEnd data =>
    refine h.ofAct e ?_
    split
    · exact .ite (h.finishQuiet (by rfl)) h
    · exact h
  case operationBegin n =>
    refine h.ofAct e ?_
    split
    · exact .ite (h.finishQuiet (by rfl)) h
    · exact h
  case mediaCompletion n reply =>
    refine h.ofAct e ?_
    split
    · split
      · exact (h.endSlot _ _).finish
      · exact h
    · exact h
  case mediaTimeoutExpiry n =>
    refine h.ofAct e ?_
    split
    · exact (((h.endSlot _ _).endOutstanding _).startReset.place _).finish
    · exact h
  case eraseResume =>
    refine h.ofAct e (.ite ?_ h)
    split
    · exact (h.startRerun _ _).finish
    · exact h
  case transientEnd l =>
    cases l with
    | red | green => exact h.ofAct e (h.quiet rfl)
    | blue => exact h.ofAct e h
  case patternPhaseEnd l => cases l <;> exact h.ofAct e (h.quiet rfl)
  case powerOn => cases e; exact .powered s
  case powerLoss => exact h.ofAct e (.unpoweredOf s)
  case busReset => exact h.ofAct e (h.finishQuiet rfl)
  case standbyEntry => exact h.ofAct e (.ite h ((h.quiet (by rfl)).closeUnits _ _).finish)
  case standbyExit => exact h.ofAct e (.ite (h.finishQuiet (by rfl)) h)
  case dataStageDiscarded => exact h.ofAct e (.ite (h.finishQuiet (by rfl)) h)
  case interruptPoll => exact h.ofAct e (.ite (h.quiet rfl) h)
  case segmentIssue => exact h.ofAct e (h.followNeed.fillSlots 4).finish
  case resetDoneReport => exact h.ofAct e (.ite (h.finishQuiet (by rfl)) h)
  case resetTimerExpiry => exact h.ofAct e (.ite (h.finishQuiet (by rfl)) h)
  case capacityReport answer => exact h.ofAct e (.ite (h.endCapacityRead _).finish h)
  case capacityCountdownExpiry => exact h.ofAct e (.ite (h.endCapacityRead none).finish h)
  case powerGood => exact h.ofAct e (.ite (State.countsFit.ite (h.quiet (by rfl)) (h.quiet (by rfl))).finish h)
  case rampTimerExpiry => exact h.ofAct e (.ite h.failRamp.finish h)
  case retryTimerExpiry => exact h.ofAct e (.ite (h.quiet rfl) h)
  case powerGoodLoss =>
    exact h.ofAct e (.ite ((h.quiet (by rfl)).endOutstanding .power).failCapacityRead.finish h)
  case switchOffTimerExpiry => exact h.ofAct e (.ite (h.finishQuiet (by rfl)) h)
  case drained u => exact h.ofAct e (.ite (h.signalDrained u).finish h)
  case idleTimerExpiry u => exact h.ofAct e (.ite (h.closeUnits .idle [u]).finish h)
  case sessionIdleTimerExpiry => exact h.ofAct e (.ite h.closeSession.refreshLeds h)
  case keyReplacement u => exact h.ofAct e (h.takeRequest u).finish
  case writeStart => exact h.ofAct e h.startWrite
  case writeCompletion => exact h.ofAct e (.ite h.completeWrite.finish h)
  case penaltyTimerExpiry => exact h.ofAct e (.ite h.penaltyExpired.refreshLeds h)
  case recognisedPress keys =>
    exact h.ofAct e ((h.pressed (keys.filter fun p => !s.scanner.isDown p)).takePresses _).finish
  case recognisedRelease p =>
    exact h.ofAct e (.ite ((h.setLevel p false).takeRelease p).clearLockout.refreshLeds h)
  case holdTimerExpiry => exact h.ofAct e (.ite (h.quiet (by rfl)).longPress.refreshLeds h)
  case recognisedSwitchChange on => exact h.ofAct e (.ite (h.switchChanged on) h)
  case scanSample keys on => exact h.ofAct e (h.sampleKeys keys on).finish
  case interKeyExpiry => exact h.ofAct e (.ite h.interKeyExpired h)
  case enrollmentWindowExpiry => exact h.ofAct e (.ite (h.abandonAny _).refreshLeds h)
  case restTimerExpiry => exact h.ofAct e (h.withLeds _)
  case alarmRaise c v => exact h.ofAct e (h.completeRun _ v _).finish
  case alarmClear c v => exact h.ofAct e (h.completeRun _ v _).finish
  case enclosureTrip v => exact h.ofAct e (h.completeRun _ v _).finish
  case enclosureLevelIn v => exact h.ofAct e (h.completeRun _ v _)
  case channelSample samples =>
    exact h.ofAct e (State.countsFit.foldl (fun p h => h.sampleChannel p.1 p.2) samples h).finish
  case descriptorStart => exact h.ofAct e (.ite h.startDescriptor.finish h)
  case progressDelayExpiry => exact h.ofAct e (.ite (h.quiet rfl) h)
  case owedEnclosureErase => exact h.ofAct e (.ite h.endReruns.finish h)
  case remoteWakeEnable => exact h.ofAct e (h.quiet rfl)
  case remoteWakeDisable => exact h.ofAct e (h.quiet rfl)
  all_goals exact h.ofTransfer _ e

/-- Settles O8: every command keeps the bounds, and a step takes one command from the queue or idles. -/
theorem stepKeepsCountsFit : Obligations.StepKeepsCountsFit := by
  intro s t h e
  unfold step at e
  split at e
  · cases e; exact h
  · rename_i i rest _
    exact exec_countsFit (h.quiet (t := s.withPending rest) rfl) e

end Sys2Proof.Machine
end
